-- ==== Sys2Proof/Word.lean ====
section
/-! DEFINITION. The 16-bit word of the part (0.11 of 00_scope.md), the tag and address widths of a frame header
(1.1.1 of chapter 1), and tables of a fixed length with their two accesses. -/

namespace Sys2Proof

/-- The word is 16 bits, bit 0 the least significant (0.11 b). -/
abbrev Word := BitVec 16

/-- The tag field of a frame header (1.1.1). -/
abbrev Tag := BitVec 4

/-- A station address, 0 to 63 (1.1.2). -/
abbrev Station := BitVec 6

/-- A channel number, 0 to 15 (1.1.1). -/
abbrev Channel := BitVec 4

/-- A map plan number, 0 to 3 (2.1.1). -/
abbrev Plan := BitVec 2

abbrev PointId := Fin 256
abbrev PumpId := Fin 8
abbrev SumpId := Fin 4
abbrev BarrierId := Fin 4
abbrev ZoneId := Fin 6
abbrev ScanId := Fin 32
abbrev QueueId := Fin 8

/-- Reading one place of a table. -/
def Tab.get {α : Type} {n : Nat} (t : Vector α n) (i : Fin n) : α := t[i.val]

/-- Writing one place of a table. -/
def Tab.put {α : Type} {n : Nat} (t : Vector α n) (i : Fin n) (a : α) : Vector α n := t.set i.val a

@[simp] theorem Tab.get_put_self {α : Type} {n : Nat} (t : Vector α n) (i : Fin n) (a : α) :
    Tab.get (Tab.put t i a) i = a := by simp [Tab.get, Tab.put]

theorem Tab.get_put_ne {α : Type} {n : Nat} (t : Vector α n) {i j : Fin n} (a : α) (h : j ≠ i) :
    Tab.get (Tab.put t i a) j = Tab.get t j := by
  have hv : i.val ≠ j.val := fun e => h (Fin.ext e.symm)
  simp [Tab.get, Tab.put, hv]

theorem Tab.get_put {α : Type} {n : Nat} (t : Vector α n) (i j : Fin n) (a : α) :
    Tab.get (Tab.put t i a) j = if j = i then a else Tab.get t j := by
  by_cases h : j = i
  · subst h; simp
  · simp [h, Tab.get_put_ne t a h]

@[simp] theorem Tab.get_replicate {α : Type} {n : Nat} (a : α) (i : Fin n) :
    Tab.get (Vector.replicate n a) i = a := by simp [Tab.get]

end Sys2Proof
end

