-- ==== Sys2Proof/Syntax.lean ====
section
/-! DEFINITION. The commands of the part: one constructor for each row of spec/opcode_table.json. The table gives the rows
no bits and no fields; the operands below are those that the rule of each row names. A management row carries the tag of
its MANAGE frame and the operand words of Table 1-5 that follow the operation word (R177). For a RECORD_GET row the
operands are the words after the record class, for PUMP_SET_SUMP_SETTINGS those after word 1, which is 0. -/

namespace Sys2Proof

/-- A place in the point maps: a slot of the Pinned Map, or a set and a way of the Set Map (2.2). -/
inductive MapLoc where
  | pinned (slot : Fin 16)
  | setMap (index : Fin 128) (way : Fin 2)
deriving DecidableEq, Repr

/-- The operations and events of the part (95_what_each_step_holds.md), each whole and indivisible. -/
inductive Instr where
  /-- POWER_ON (R184): Power-on reset: the store is read and checked, each block takes its POR values, the timers start and both ports begin to take frames with the link LOST. -/
  | powerOn
  /-- RESET_INPUT (R184): An assertion of the reset input has the effect of POR, including on a commit in flight. -/
  | resetInput
  /-- UPSTREAM_FRAME_ARRIVAL (R4): A frame arriving on the upstream port is checked; a failing frame is discarded and logged as LINE, and a passing frame counts for link supervision and is sorted. -/
  | upstreamFrameArrival (words : List Word)
  /-- LINK_SILENCE_EXPIRY (R7): Expiry of the link silence timer makes the link LOST, stops the timer and informs the STC. -/
  | linkSilenceExpiry
  /-- UPSTREAM_TRANSMIT (R9): When the upstream transmitter is free and the Upstream Queue is not empty, the head is removed and transmitted. -/
  | upstreamTransmit
  /-- UPSTREAM_TRANSMIT_END (R9): The end of a transmitted frame's check word frees the upstream transmitter. -/
  | upstreamTransmitEnd
  /-- FIELD_ARBITER_GRANT (R12): With the line RUNNING and free and work present, the Field Arbiter grants the line to the Command Queue head, or else to the Downstream head or the oldest scan entry by pair turn. -/
  | fieldArbiterGrant
  /-- FIELD_SEND_END (R11): The end of the check word of a sent field request starts the reply window or the 2 ms guard timer. -/
  | fieldSendEnd
  /-- FIELD_FRAME_ARRIVAL (R14): A frame on the field port is discarded, or ends the awaiting transaction with outcome CORRUPT or REPLY. -/
  | fieldFrameArrival (words : List Word)
  /-- REPLY_WINDOW_EXPIRY (R15): Expiry of the reply window in AWAITING ends the transaction with outcome NO_REPLY. -/
  | replyWindowExpiry
  /-- GUARD_EXPIRY (R15): Expiry of the broadcast guard timer ends the transaction with outcome GUARD_END. -/
  | guardExpiry
  /-- POINT_FRESHNESS_EXPIRY (R48): When a point's age reaches its freshness period, a GOOD point becomes STALE. -/
  | pointFreshnessExpiry (point : PointId)
  /-- SCAN_DUE_EXPIRY (R62): Expiry of an enabled scan entry's due timer restarts it and adds the entry to the scan pending set unless quenched or already present. -/
  | scanDueExpiry (entry : ScanId)
  /-- MAP_STORAGE_FAULT (R26): A fault of the map storage alters the stored fields of an entry so that its check bit comes to fail. -/
  | mapStorageFault (loc : MapLoc) (flips : BitVec 24)
  /-- MAP_WRITE (R34): MAP_WRITE checks its operands and writes or invalidates a Pinned or Set Map entry, explicitly or by automatic placement. -/
  | mapWrite (tag : Tag) (operands : List Word)
  /-- MAP_READ (R39): MAP_READ returns the entry at a map position as it stands, without setting used or invalidating. -/
  | mapRead (tag : Tag) (operands : List Word)
  /-- DEMAP_KEY (R40): DEMAP_KEY invalidates every valid entry that a lookup of the KEY would match. -/
  | demapKey (tag : Tag) (operands : List Word)
  /-- DEMAP_PLAN (R41): DEMAP_PLAN invalidates the Set Map entries of a PLAN and its unlocked, non-global Pinned entries. -/
  | demapPlan (tag : Tag) (operands : List Word)
  /-- DEMAP_ALL (R41): DEMAP_ALL invalidates every Set Map entry and every unlocked Pinned entry. -/
  | demapAll (tag : Tag)
  /-- MISS_GET (R33): MISS_GET returns Miss Capture and optionally empties it. -/
  | missGet (tag : Tag) (operands : List Word)
  /-- FAULT_GET (R44): FAULT_GET returns the Path Fault Record and optionally clears FV and OW. -/
  | faultGet (tag : Tag) (operands : List Word)
  /-- POINT_SET (R46): POINT_SET configures one point, restarting it afresh and assigning or releasing a level queue on a change of kind. -/
  | pointSet (tag : Tag) (operands : List Word)
  /-- POINT_GET (R60): POINT_GET returns a point record and clears its changed-since-read. -/
  | pointGet (tag : Tag) (operands : List Word)
  /-- SCAN_SET (R61): SCAN_SET configures one Scan Table entry and starts or stops its due timer. -/
  | scanSet (tag : Tag) (operands : List Word)
  /-- SUMP_SET (R64): SUMP_SET configures a sump record and resets or unprimes its computed state according to its primary level point. -/
  | sumpSet (tag : Tag) (operands : List Word)
  /-- GEOMETRY_SET (R65): GEOMETRY_SET writes one geometry breakpoint and re-judges validity, making the volume base absent and the inflow SUSPECT. -/
  | geometrySet (tag : Tag) (operands : List Word)
  /-- STAGE_SET (R84): STAGE_SET configures the dwells, or the thresholds of one sump. -/
  | stageSet (tag : Tag) (operands : List Word)
  /-- PLAN_SET (R85): PLAN_SET replaces the Plan Table whole and recomputes the PLAN in force. -/
  | planSet (tag : Tag) (operands : List Word)
  /-- SUPPLY_SET (R115): SUPPLY_SET configures the supply record, the panel key point and the override lifetime, and re-judges the supply mode, clear-to-start and key state. -/
  | supplySet (tag : Tag) (operands : List Word)
  /-- PUMP_SET (R129): PUMP_SET with word 1 of 1 to 8 configures a pump record, disabling it or making it UNKNOWN. -/
  | pumpSet (tag : Tag) (operands : List Word)
  /-- PUMP_SET_SUMP_SETTINGS (R130): PUMP_SET with word 1 of 0 configures the start and stop levels and the run limit of one sump. -/
  | pumpSetSumpSettings (tag : Tag) (operands : List Word)
  /-- BARRIER_SET (R148): BARRIER_SET configures a barrier record, disabling it or making it UNKNOWN. -/
  | barrierSet (tag : Tag) (operands : List Word)
  /-- GATE_SET (R159): GATE_SET configures the backflow gate record, disabling it or making it UNKNOWN. -/
  | gateSet (tag : Tag) (operands : List Word)
  /-- ZONE_SET (R167): ZONE_SET configures a zone record, disabling it or making it UNKNOWN for re-derivation. -/
  | zoneSet (tag : Tag) (operands : List Word)
  /-- CURVE_SET (R168): CURVE_SET writes one breakpoint of an adaptation curve. -/
  | curveSet (tag : Tag) (operands : List Word)
  /-- LINE_SET (R179): LINE_SET stores the reply window, link silence period, drainage cycle period and unmapped-command policy. -/
  | lineSet (tag : Tag) (operands : List Word)
  /-- RECORD_GET_STAGE (R100): RECORD_GET of class STAGE returns the stage record. -/
  | recordGetStage (tag : Tag) (operands : List Word)
  /-- RECORD_GET_SUPPLY (R127): RECORD_GET of class SUPPLY returns the supply record. -/
  | recordGetSupply (tag : Tag) (operands : List Word)
  /-- RECORD_GET_AUTHORITY (R113): RECORD_GET of class AUTHORITY returns the authority record and optionally clears the key-changed latch. -/
  | recordGetAuthority (tag : Tag) (operands : List Word)
  /-- RECORD_GET_SUMP (R82): RECORD_GET of class SUMP returns a sump's computed state and optionally clears its sticky flags. -/
  | recordGetSump (tag : Tag) (operands : List Word)
  /-- RECORD_GET_PUMP (R146): RECORD_GET of class PUMP returns a pump record. -/
  | recordGetPump (tag : Tag) (operands : List Word)
  /-- RECORD_GET_BARRIER (R165): RECORD_GET of class BARRIER returns a barrier record. -/
  | recordGetBarrier (tag : Tag) (operands : List Word)
  /-- RECORD_GET_GATE (R165): RECORD_GET of class GATE returns the gate record. -/
  | recordGetGate (tag : Tag) (operands : List Word)
  /-- RECORD_GET_ZONE (R175): RECORD_GET of class ZONE returns a zone record. -/
  | recordGetZone (tag : Tag) (operands : List Word)
  /-- RECORD_GET_LEVEL_QUEUE (R56): RECORD_GET of class LEVEL_QUEUE returns a queue record and optionally clears its sticky flags. -/
  | recordGetLevelQueue (tag : Tag) (operands : List Word)
  /-- SNAPSHOT_TAKE (R181): SNAPSHOT_TAKE copies the 25 principal records into the Snapshot Buffer at one moment. -/
  | snapshotTake (tag : Tag)
  /-- SNAPSHOT_NEXT (R182): SNAPSHOT_NEXT returns the next part of the snapshot, or END. -/
  | snapshotNext (tag : Tag)
  /-- HOLD_SET (R94): HOLD_SET sets the hold request. -/
  | holdSet (tag : Tag)
  /-- HOLD_CLEAR (R94): HOLD_CLEAR clears the hold request. -/
  | holdClear (tag : Tag)
  /-- ADVANCE (R96): ADVANCE in HELD enters STEPPING, re-derives the JOBS, evaluates the STAGE on the held completion data and sends a step order. -/
  | advance (tag : Tag)
  /-- STEP_END (R96): When the PSC, GSQ and LTU have all reported their step done, the hold state returns to HELD or RUNNING and the ADVANCE is answered. -/
  | stepEnd
  /-- RELEASE (R91): RELEASE in CLOSED with reopen-ready makes the STAGE REOPENING; otherwise it is answered NOT_READY. -/
  | release (tag : Tag)
  /-- QUENCH (R21): QUENCH enters QUENCHED at once when the line is free, or sets QUENCH_PENDING until the transaction in flight ends. -/
  | quench (tag : Tag)
  /-- UNQUENCH (R22): UNQUENCH in QUENCHED ends the stop pattern, returns the line to RUNNING and tells the JOBS to re-derive. -/
  | unquench (tag : Tag)
  /-- STATUS_CLEAR (R180): STATUS_CLEAR clears the level queue sticky flags, and the sump sticky flags at once or at the cycle's completion. -/
  | statusClear (tag : Tag)
  /-- PUMP_RESET (R141): PUMP_RESET settles a FAULTED pump whose feedback allows it. -/
  | pumpReset (tag : Tag) (operands : List Word)
  /-- BARRIER_RESET (R162): BARRIER_RESET re-derives a barrier or the gate out of its fault state when its limits allow. -/
  | barrierReset (tag : Tag) (operands : List Word)
  /-- STORE_COMMIT (R183): STORE_COMMIT starts rewriting the Table Store with the image as it stands, unless a commit is in flight or the power-fail input is asserted. -/
  | storeCommit (tag : Tag)
  /-- STORE_COMMIT_COMPLETE (R183): At the commit's completion the commit state becomes IDLE and the STORE_COMMIT is answered DONE. -/
  | storeCommitComplete
  /-- RESTART (R185): RESTART offers its ANSWER DONE and enters RESTART_PENDING. -/
  | restart (tag : Tag)
  /-- RESTART_PERFORM (R185): Once the RESTART ANSWER has been transmitted or dropped, every block takes its RESTART values while keeping its configuration. -/
  | restartPerform
  /-- UNKNOWN_OP (R177): A MANAGE frame whose operation word is not a known code is answered UNKNOWN_OP. -/
  | unknownOp (tag : Tag) (opWord : Word)
  /-- DRAINAGE_CYCLE_START (R66): Expiry of the drainage cycle timer restarts it and begins a DRAINAGE CYCLE, which takes its inputs. -/
  | drainageCycleStart
  /-- DRAINAGE_CYCLE_COMPLETION (R66): The cycle's computation completes; outputs become readable, a completion event goes to the STC, PSC and GSQ, and deferred operations are taken. -/
  | drainageCycleCompletion
  /-- DESCENT_TIMER_EXPIRY (R88): Expiry of the descent timer lowers the STAGE by one with cause DESCENT, and may restart the timer. -/
  | descentTimerExpiry
  /-- REOPEN_TIMER_EXPIRY (R90): Expiry of the reopen timer sets reopen-ready. -/
  | reopenTimerExpiry
  /-- DERIVE_TIMER_EXPIRY (R93): Expiry of the 10 s derive timer lets the derivation take place at the next completion. -/
  | deriveTimerExpiry
  /-- OVERRIDE_EXPIRY (R107): Expiry of an Override Table entry's lifetime removes it and sends an override event with cause EXPIRED. -/
  | overrideExpiry (point : PointId)
  /-- INRUSH_WINDOW_EXPIRY (R123): Expiry of the INRUSH WINDOW closes it and removes the inrush part from the COMMITTED LOAD. -/
  | inrushWindowExpiry
  /-- PUMP_START_CONFIRM_EXPIRY (R136): Expiry of the start confirm timer in STARTING makes the pump FAULTED with cause START_FAIL. -/
  | pumpStartConfirmExpiry (pump : PumpId)
  /-- PUMP_STOP_CONFIRM_EXPIRY (R137): Expiry of the stop confirm timer in STOPPING makes the pump FAULTED with cause STOP_FAIL. -/
  | pumpStopConfirmExpiry (pump : PumpId)
  /-- PUMP_MINIMUM_OFF_EXPIRY (R138): Expiry of a resting pump's minimum off timer settles it again. -/
  | pumpMinimumOffExpiry (pump : PumpId)
  /-- PUMP_HOUR_WINDOW_EXPIRY (R138): Expiry of the hour window zeroes the starts in the window and settles a resting pump. -/
  | pumpHourWindowExpiry (pump : PumpId)
  /-- BARRIER_WARN_EXPIRY (R151): Expiry of the warn timer makes the barrier CLEARING and starts its clearance timer if CLEAR. -/
  | barrierWarnExpiry (barrier : BarrierId)
  /-- BARRIER_CLEARANCE_EXPIRY (R151): Expiry of the clearance timer posts the class 0 closing move. -/
  | barrierClearanceExpiry (barrier : BarrierId)
  /-- BARRIER_TRAVEL_EXPIRY (R153): Expiry of the travel timer in motion puts the barrier in FAULT_TRAVEL. -/
  | barrierTravelExpiry (barrier : BarrierId)
  /-- GATE_OPEN_DWELL_EXPIRY (R160): Expiry of the open dwell timer in CLOSED outside HELD posts the class 2 opening move. -/
  | gateOpenDwellExpiry
  /-- GATE_TRAVEL_EXPIRY (R161): Expiry of the gate's travel timer in motion puts the gate in FAULT. -/
  | gateTravelExpiry
  /-- LIGHTING_EVALUATION (R169): Expiry of the 1 s lighting evaluation timer computes each zone's target and acts on each zone by its state. -/
  | lightingEvaluation
deriving DecidableEq, Repr

end Sys2Proof
end

