-- ==== Sys2Proof/Decode.lean ====
section
/-! DEFINITION. The commands that a word spells by the table's bits: spec/opcode_table.json gives no row any bits, so no word
spells a command (log entry 5). -/

namespace Sys2Proof

/-- The command a word of the opcode table spells: none, the table giving no row any bits. -/
def decodeTableWord (_nbits _w : Nat) : Option Instr := none

end Sys2Proof
end

