-- ==== Sys2Proof/Config.lean ====
section
/-! DEFINITION. What the spec leaves without a value. Each constant here is opaque: no statement can rest on its value. -/

namespace Sys2Proof

/-- The 16-bit data word that reports a number above 65535 (a COMMITTED LOAD or one of its parts, R127, R124, R126; a zone
load, R175). The spec gives such a number one data word and does not say what the word then holds. DESIGN CHOICE, log entry
6: a free value of the number. Safe. -/
opaque Config.wideWord : Nat → Word

/-- Data words for which the spec states no value. The first argument tells the word: 0 the outfall raw value and 1 the
filtered level of RECORD_GET of class GATE with no outfall point or no data for the linked sump (R165), 2 the owner device
number that POINT_GET gives for the gate, which has no number (R60), 3 the error mode that RECORD_GET of class LEVEL_QUEUE gives
for a queue that no point holds (R56). The second is the count of such reads so far. DESIGN CHOICE, log entry 7: free values.
Safe. -/
opaque Config.unstatedWord : Nat → Nat → Word

end Sys2Proof
end

