-- ==== Sys2Proof/Machine/State.lean ====
section
/-! DEFINITION. The state of the part as plain data: the configuration that the Table Store keeps, the running state of the
twelve blocks (0.4 of 00_scope.md), and the queue of commands that wait. Every default value is the value after POR with an
invalid Table Store (log entry 1), so that State.reset is the structure of the defaults. -/

namespace Sys2Proof.Machine

/-! ## Time -/

/-- A timer of the part. A running timer holds the time of its end, a paused one what remains of it; both in ms. -/
inductive Timer where
  | stopped
  | running (deadline : Nat)
  | paused (remaining : Nat)
deriving DecidableEq, Repr

/-! ## Frames -/

/-- A frame that passes its check, less its check word, which R1 makes a function of the rest. The count field is the
length of the payload (R1). -/
structure Frame where
  kind : BitVec 3 := 0
  tag : Tag := 0
  reserved : BitVec 4 := 0
  dst : Station := 0
  src : Station := 0
  channel : Channel := 0
  payload : List Word := []
deriving DecidableEq, Repr

/-! ## Configuration: what the Table Store holds besides the maps (Table 11-3) -/

/-- LINE_SET fields (R179). Times in ms, s and ms. -/
structure LineCfg where
  replyWindow : Nat := 10
  silencePeriod : Nat := 5
  cyclePeriod : Nat := 500
  refuseUnmapped : Bool := false
deriving DecidableEq, Repr

/-- Point kinds (Table 3-2). -/
inductive PointKind where
  | unused | level | analog | discrete | command | feedback
deriving DecidableEq, Repr

/-- Error modes of a LEVEL point (R55). -/
inductive ErrorMode where
  | perSample | accumulated
deriving DecidableEq, Repr

/-- Configured fields of a point, and its queue assignment (R46, R52). -/
structure PointCfg where
  kind : PointKind := .unused
  freshness : Nat := 0
  rawMin : Word := 0
  rawMax : Word := 0
  errorMode : ErrorMode := .perSample
  queue : Option QueueId := none
deriving DecidableEq, Repr

/-- A Scan Table entry (R61). -/
structure ScanCfg where
  station : Station := 0
  channel : Channel := 0
  span : Nat := 0
  interval : Nat := 0
  enable : Bool := false
deriving DecidableEq, Repr

/-- Scale modes of a sump (R77). -/
inductive ScaleMode where
  | plain | down | up
deriving DecidableEq, Repr

/-- SUMP_SET fields (Table 4-1). -/
structure SumpCfg where
  primary : Option PointId := none
  backup : Option PointId := none
  gain : Nat := 0
  offset : Int := 0
  filterK : Nat := 8
  ringSize : Nat := 4
  scale : ScaleMode := .plain
  gateLink : Bool := false
deriving DecidableEq, Repr

/-- A PRESENT breakpoint of a geometry (level, volume; R65) or of a curve (luminance, level; R168). -/
structure Breakpoint where
  x : Nat := 0
  y : Nat := 0
deriving DecidableEq, Repr

/-- STAGE_SET thresholds of one sump (R84). -/
structure Thresholds where
  watch : Nat := 0
  alert : Nat := 0
  closure : Nat := 0
  reopen : Nat := 0
  alertRate : Nat := 0
  watchInflow : Nat := 0
deriving DecidableEq, Repr

/-- SUPPLY_SET fields (Table 7-1, R102). -/
structure SupplyCfg where
  mains : Option PointId := none
  generator : Option PointId := none
  clearToStart : Option PointId := none
  mainsLimit : Nat := 0
  generatorLimit : Nat := 0
  motorFactor : Nat := 200
  panelKey : Option PointId := none
  lifetime : Nat := 10
deriving DecidableEq, Repr

/-- PUMP_SET fields of a pump (Table 8-1). -/
structure PumpCfg where
  enable : Bool := false
  sump : SumpId := 0
  ratedFlow : Nat := 1
  ratedKw : Nat := 0
  startFactor : Nat := 100
  inrush : Nat := 5
  runPoint : Option PointId := none
  runFeedback : Option PointId := none
  faultFeedback : Option PointId := none
  startConfirm : Nat := 10
  stopConfirm : Nat := 10
  minimumOff : Nat := 60
  startsPerHour : Nat := 6
deriving DecidableEq, Repr

/-- Pumping settings of a sump (R130): start levels s1 to s4 and stop levels t1 to t4, 0 for not configured. -/
structure PumpingCfg where
  start : List Nat := [0, 0, 0, 0]
  stop : List Nat := [0, 0, 0, 0]
  runLimit : Nat := 1
deriving DecidableEq, Repr

/-- BARRIER_SET fields (Table 9-1). -/
structure BarrierCfg where
  enable : Bool := false
  drive : Option PointId := none
  openLimit : Option PointId := none
  closedLimit : Option PointId := none
  presence1 : Option PointId := none
  presence2 : Option PointId := none
  head : Option PointId := none
  motorKw : Nat := 0
  warn : Nat := 30
  clearance : Nat := 20
  travel : Nat := 40
deriving DecidableEq, Repr

/-- GATE_SET fields (Table 9-5). -/
structure GateCfg where
  enable : Bool := false
  drive : Option PointId := none
  openLimit : Option PointId := none
  closedLimit : Option PointId := none
  outfall : Option PointId := none
  linkedSump : SumpId := 0
  margin : Nat := 100
  openDwell : Nat := 300
  motorKw : Nat := 0
  travel : Nat := 90
deriving DecidableEq, Repr

/-- ZONE_SET fields (Table 10-1). -/
structure ZoneCfg where
  enable : Bool := false
  dim : Option PointId := none
  current : Option PointId := none
  luminance : Option PointId := none
  curve : Fin 4 := 0
  ratedKw : Nat := 0
  ratedCurrent : Nat := 0
  safety : Nat := 0
  ramp : Nat := 5
  tolerance : Nat := 25
deriving DecidableEq, Repr

/-- The whole configuration (Table 11-3 less the maps). plan holds the entries for CLEAR to REOPENING and HELD (R85). -/
structure Tables where
  line : LineCfg := {}
  points : Vector PointCfg 256 := Vector.replicate 256 {}
  scan : Vector ScanCfg 32 := Vector.replicate 32 {}
  sumps : Vector SumpCfg 4 := Vector.replicate 4 {}
  geometry : Vector (Vector (Option Breakpoint) 8) 4 := Vector.replicate 4 (Vector.replicate 8 none)
  thresholds : Vector Thresholds 4 := Vector.replicate 4 {}
  descentDwell : Nat := 300
  reopenDwell : Nat := 600
  plan : Vector Plan 7 := #v[0, 0, 1, 1, 1, 1, 2]
  supply : SupplyCfg := {}
  pumps : Vector PumpCfg 8 := Vector.replicate 8 {}
  pumping : Vector PumpingCfg 4 := Vector.replicate 4 {}
  barriers : Vector BarrierCfg 4 := Vector.replicate 4 {}
  gate : GateCfg := {}
  zones : Vector ZoneCfg 6 := Vector.replicate 6 {}
  curves : Vector (Vector (Option Breakpoint) 8) 4 := Vector.replicate 4 (Vector.replicate 8 none)
deriving DecidableEq, Repr

/-! ## Upstream Port -/

/-- Link states (R7). -/
inductive LinkState where
  | up | lost
deriving DecidableEq, Repr

/-- An entry of the Upstream Queue; restartAnswer marks the ANSWER of the RESTART that waits for it (R185). -/
structure UpEntry where
  frame : Frame := {}
  restartAnswer : Bool := false
deriving DecidableEq, Repr

/-- Upstream Port (R10). -/
structure Upp where
  downstream : List Frame := []
  upstream : List UpEntry := []
  transmitter : Option UpEntry := none
  link : LinkState := .lost
  silence : Timer := .stopped
  noticeSeq : BitVec 4 := 0
deriving DecidableEq, Repr

/-! ## Field Line Controller -/

/-- Line states (1.3.6). -/
inductive LineState where
  | running | quenchPending | quenched
deriving DecidableEq, Repr

/-- The pair turn of the Field Arbiter (R12). -/
inductive PairTurn where
  | downstream | scan
deriving DecidableEq, Repr

/-- The origin of a field transaction and what the record holds for it (R11). -/
inductive Origin where
  | supervisory (original : Frame)
  | command (point : PointId) (value : Word) (attempt : Nat)
  | scan (entry : ScanId)
deriving DecidableEq, Repr

/-- The phase of a field transaction (R11). -/
inductive Phase where
  | sending | awaiting | guard
deriving DecidableEq, Repr

/-- The field transaction record; window is the reply window in force for it (R11, log entry 10). -/
structure Transaction where
  origin : Origin
  frame : Frame
  phase : Phase
  window : Nat
  timer : Timer
deriving DecidableEq, Repr

/-- A Command Queue entry (1.3.4). -/
structure CommandEntry where
  point : PointId
  value : Word
  attempt : Nat
deriving DecidableEq, Repr

/-- Field Line Controller (R23). -/
structure Flc where
  line : LineState := .running
  transaction : Option Transaction := none
  commandQueue : List CommandEntry := []
  scanPending : List ScanId := []
  pairTurn : PairTurn := .downstream
  ownTag : Tag := 0
  quenchWaiting : List Tag := []
deriving DecidableEq, Repr

/-! ## Point Map Unit -/

/-- The direction of a map entry or a lookup (2.2). -/
inductive Direction where
  | sample | command
deriving DecidableEq, Repr

/-- A KEY (2.1.1). -/
structure Key where
  plan : Plan := 0
  station : Station := 0
  channel : Channel := 0
deriving DecidableEq, Repr

/-- The stored fields of a map entry that its check bit covers (Table 2-2). -/
structure MapFields where
  valid : Bool := false
  isGlobal : Bool := false
  lock : Bool := false
  direction : Direction := .sample
  plan : Plan := 0
  station : Station := 0
  channel : Channel := 0
  point : BitVec 8 := 0
deriving DecidableEq, Repr

/-- A map entry (Table 2-2). -/
structure MapEntry where
  fields : MapFields := {}
  used : Bool := false
  check : Bool := false
deriving DecidableEq, Repr

/-- Miss Capture (2.4). -/
structure MissCapture where
  full : Bool := false
  key : Key := {}
  kind : BitVec 3 := 0
  count : Nat := 0
deriving DecidableEq, Repr

/-- Classes of the Path Fault Record (Table 2-4). -/
inductive FaultClass where
  | line | authority | map | upstreamOverrun
deriving DecidableEq, Repr

/-- One update of the Path Fault Record (Table 2-5). -/
structure FaultUpdate where
  cls : FaultClass := .line
  detail : Nat := 0
  key : Option Key := none
  loc : Option MapLoc := none
  kind : BitVec 3 := 0
deriving DecidableEq, Repr

/-- The Path Fault Record (Table 2-4); its age counts from writtenAt, which is the moment of POR until an update writes the record
(log entry 57). -/
structure PathFault where
  fv : Bool := false
  ow : Bool := false
  stored : FaultUpdate := {}
  writtenAt : Nat := 0
deriving DecidableEq, Repr

/-- Point Map Unit (R45). Set s, way w stands at place 2 s + w of sets. -/
structure Pmu where
  pinned : Vector MapEntry 16 := Vector.replicate 16 {}
  sets : Vector MapEntry 256 := Vector.replicate 256 {}
  miss : MissCapture := {}
  fault : PathFault := {}
deriving DecidableEq, Repr

/-! ## Point Image -/

/-- Point qualities (3.2.1). -/
inductive Quality where
  | never | good | stale | invalid
deriving DecidableEq, Repr

/-- Command states (R57). -/
inductive CommandState where
  | idle | pending | confirmed | failed
deriving DecidableEq, Repr

/-- Running fields of a point (Table 3-1); its age counts from since while the quality is not NEVER. -/
structure PointState where
  since : Nat := 0
  freshTimer : Timer := .stopped
  raw : Word := 0
  quality : Quality := .never
  changed : Bool := false
  commanded : Word := 0
  confirmed : Word := 0
  command : CommandState := .idle
deriving DecidableEq, Repr

/-- An entry of a level sample queue (3.4.1). -/
structure LevelEntry where
  raw : Word
  invalid : Bool
  range : Bool
deriving DecidableEq, Repr

/-- A level sample queue with its sticky flags (3.4.1). -/
structure LevelQueue where
  entries : List LevelEntry := []
  overrun : Bool := false
  accInvalid : Bool := false
  accRange : Bool := false
deriving DecidableEq, Repr

/-- Point Image (R63). -/
structure Pim where
  points : Vector PointState 256 := Vector.replicate 256 {}
  queues : Vector LevelQueue 8 := Vector.replicate 8 {}
  scanDue : Vector Timer 32 := Vector.replicate 32 .stopped
deriving DecidableEq, Repr

/-! ## Sump Arithmetic Unit -/

/-- Level sources (R68). -/
inductive Source where
  | primary | backup | held
deriving DecidableEq, Repr

/-- Level qualities (R69, R70). -/
inductive LevelQuality where
  | good | suspect | blind
deriving DecidableEq, Repr

/-- Computed state of a sump (Table 4-2) and its sticky flags (R81). inflowGood is the inflow quality GOOD. -/
structure SumpState where
  source : Source := .held
  levelQuality : LevelQuality := .blind
  cycleLevel : Nat := 0
  filter : Int := 0
  primed : Bool := false
  volume : Nat := 0
  base : Option Nat := none
  ring : List Int := []
  inflow : Int := 0
  controlInflow : Int := 0
  inflowLimited : Bool := false
  inflowGood : Bool := false
  rate : Int := 0
  blindCount : Nat := 0
  geometryValid : Bool := false
  limited : Bool := false
  growth : Bool := false
  overrun : Bool := false
  invalidSeen : Bool := false
deriving DecidableEq, Repr

/-- What a drain returns for one point (R54, R55). -/
structure Drain where
  point : PointId
  entries : List LevelEntry
  quality : Quality
  mode : ErrorMode
  suspect : Bool
  overrun : Bool
deriving DecidableEq, Repr

/-- A DRAINAGE CYCLE in flight: its interval in ms, the inputs it took and Q_out of each sump (R66, R67, R76), with OVERRUN and
INVALID_SEEN of each sump as they stood before its drains (R181). -/
structure Cycle where
  interval : Nat
  drains : List Drain
  outflow : Vector Nat 4
  overrunBefore : Vector Bool 4 := Vector.replicate 4 false
  invalidBefore : Vector Bool 4 := Vector.replicate 4 false
deriving DecidableEq, Repr

/-- An operation that waits for the completion of the cycle in flight (R66, R180). -/
inductive Deferred where
  | sumpSet (tag : Tag) (operands : List Word)
  | geometrySet (tag : Tag) (operands : List Word)
  | recordSump (tag : Tag) (operands : List Word)
  | statusClear (tag : Tag)
deriving DecidableEq, Repr

/-- Sump Arithmetic Unit (R83); timerPeriod is the period the cycle timer was started with. -/
structure Sau where
  sumps : Vector SumpState 4 := Vector.replicate 4 {}
  cycleTimer : Timer := .running 500
  timerPeriod : Nat := 500
  cycle : Option Cycle := none
  deferred : List Deferred := []
deriving DecidableEq, Repr

/-- What a completion carries for one CONFIGURED sump (R66). -/
structure SumpData where
  sump : SumpId
  source : Source
  levelQuality : LevelQuality
  cycleLevel : Nat
  filtered : Nat
  volume : Nat
  inflow : Int
  controlInflow : Int
  inflowLimited : Bool
  inflowGood : Bool
  rate : Int
  blindCount : Nat
deriving DecidableEq, Repr

/-! ## Stage Controller -/

/-- Stages, in their order (Table 5-2). -/
inductive Stage where
  | clear | watch | alert | closing | closed | reopening
deriving DecidableEq, Repr

/-- Hold states (Table 5-5). -/
inductive HoldState where
  | running | held | stepping
deriving DecidableEq, Repr

/-- The cause of an entry into a STAGE: a sump 1 to 4, 0 for none, and a test code (Table 5-3). -/
structure Cause where
  sump : Nat := 0
  test : Nat := 0
deriving DecidableEq, Repr

/-- The step of an ADVANCE in progress (R96): its tag, the reports of step done, whether the hold was broken (R97) and
whether the link was lost (R98) meanwhile. -/
structure StepRecord where
  tag : Tag
  pscDone : Bool
  gsqDone : Bool
  ltuDone : Bool
  broken : Bool
  linkLost : Bool
deriving DecidableEq, Repr

/-- Stage Controller (Table 5-1, R101). -/
structure Stc where
  stage : Stage := .clear
  enteredAt : Nat := 0
  cause : Cause := {}
  demanded : Stage := .clear
  confirm : Nat := 0
  descent : Timer := .stopped
  reopenReady : Bool := false
  reopen : Timer := .stopped
  derivePending : Bool := true
  derive : Timer := .running 10000
  deriveExpired : Bool := false
  allClosed : Bool := true
  allOpen : Bool := true
  pscReady : Bool := true
  gsqReady : Bool := true
  holdRequest : Bool := false
  hold : HoldState := .running
  step : Option StepRecord := none
  data : Option (List SumpData) := none
deriving DecidableEq, Repr

/-! ## Command Authority Unit -/

/-- An OVERRIDE (6.3); expiry is the time of its end in ms. -/
structure Override where
  point : PointId
  value : Word
  expiry : Nat
  tag : Tag
deriving DecidableEq, Repr

/-- Command Authority Unit (Table 6-1, R114); keyLocal is the key state LOCAL. The Override Table is unordered; it is kept
in ascending point. -/
structure Cau where
  keyLocal : Bool := false
  keyChanged : Bool := false
  overrides : List Override := []
deriving DecidableEq, Repr

/-! ## Load Allowance Unit -/

/-- Supply modes (R116). -/
inductive SupplyMode where
  | none | mains | generator
deriving DecidableEq, Repr

/-- The devices that post to the Start Queue (Table 7-2). -/
inductive Device where
  | pump (p : PumpId)
  | barrier (b : BarrierId)
  | gate
  | zone (z : ZoneId)
deriving DecidableEq, Repr

/-- A request in the Start Queue (7.3.1); inrush in s. -/
structure Request where
  device : Device
  cls : Nat
  runKw : Nat
  extra : Nat
  inrush : Nat
  arrival : Nat
deriving DecidableEq, Repr

/-- The open INRUSH WINDOW (R123). -/
structure InrushWindow where
  device : Device
  extra : Nat
  timer : Timer
deriving DecidableEq, Repr

/-- Load Allowance Unit (R128). motorLoad holds the barriers at 0 to 3 and the gate at 4. -/
structure Lau where
  mode : SupplyMode := .none
  clearToStart : Bool := true
  pumpLoad : Vector Nat 8 := Vector.replicate 8 0
  motorLoad : Vector Nat 5 := Vector.replicate 5 0
  zoneLoad : Vector Nat 6 := Vector.replicate 6 0
  restoration : Vector Nat 6 := Vector.replicate 6 0
  queue : List Request := []
  window : Option InrushWindow := none
  startOrder : List PumpId := []
  shedDemand : Bool := false
  shedTaken : Bool := false
  shedOrder : Option PumpId := none
  judgeDue : Bool := false
deriving DecidableEq, Repr

/-! ## Pump Scheduler -/

/-- Pump states (Table 8-2). -/
inductive PumpMode where
  | disabled | unknown | idle | queued | starting | running | stopping | resting | faulted
deriving DecidableEq, Repr

/-- Stop reasons (8.1.3). -/
inductive StopReason where
  | normal | shed | fault | override
deriving DecidableEq, Repr

/-- Running fields of a pump record (8.1.3); fault is the code of Table 8-4; runMs is the time run before runningSince. -/
structure PumpState where
  mode : PumpMode := .disabled
  stopReason : StopReason := .normal
  fault : Nat := 0
  postDeferred : Bool := false
  startTimer : Timer := .stopped
  stopTimer : Timer := .stopped
  offTimer : Timer := .stopped
  hourWindow : Timer := .stopped
  startsInWindow : Nat := 0
  lastStop : Option Nat := none
  sequence : Nat := 0
  runMs : Nat := 0
  runningSince : Option Nat := none
  startCount : Nat := 0
deriving DecidableEq, Repr

/-- Pump Scheduler (R147). step is the staging step of each sump, none for UNSET. -/
structure Psc where
  pumps : Vector PumpState 8 := Vector.replicate 8 {}
  duty : Vector (List PumpId) 4 := Vector.replicate 4 []
  step : Vector (Option Nat) 4 := Vector.replicate 4 none
  data : Option (List SumpData) := none
  hold : HoldState := .running
  startSeq : Nat := 0
deriving DecidableEq, Repr

/-! ## Gate Sequencer -/

/-- Barrier states (Table 9-2). -/
inductive BarrierMode where
  | disabled | unknown | opened | warning | clearing | queuedClose | closing | reversing | closed | queuedOpen | opening
  | faultTravel | faultObstructed | faultLimits
deriving DecidableEq, Repr

/-- Aspects of a signal head (Table 9-3). -/
inductive Aspect where
  | dark | flashAmber | steadyRed | redFlooded
deriving DecidableEq, Repr

/-- Running fields of a barrier record (9.1.2); fault is the code of Table 9-4; aspectSent is the aspect last commanded. -/
structure BarrierState where
  mode : BarrierMode := .disabled
  fault : Nat := 0
  reversals : Nat := 0
  warnTimer : Timer := .stopped
  clearTimer : Timer := .stopped
  travelTimer : Timer := .stopped
  postDeferred : Bool := false
  aspect : Option Aspect := none
  aspectSent : Option Aspect := none
  headFault : Bool := false
deriving DecidableEq, Repr

/-- Gate states (R159). -/
inductive GateMode where
  | disabled | unknown | opened | queuedClose | closing | closed | queuedOpen | opening | fault
deriving DecidableEq, Repr

/-- Running fields of the gate record (R159). -/
structure GateState where
  mode : GateMode := .disabled
  fault : Nat := 0
  dwellTimer : Timer := .stopped
  travelTimer : Timer := .stopped
  postDeferred : Bool := false
deriving DecidableEq, Repr

/-- Gate Sequencer (R166). reported is the pair (all-closed, all-open) last reported to the STC, none before the first
report (R158). -/
structure Gsq where
  barriers : Vector BarrierState 4 := Vector.replicate 4 {}
  gate : GateState := {}
  data : Option (List SumpData) := none
  reported : Option (Bool × Bool) := some (true, true)
deriving DecidableEq, Repr

/-! ## Lighting Unit -/

/-- Zone states (Table 10-2). -/
inductive ZoneMode where
  | disabled | unknown | normal | shed | restoreQueued
deriving DecidableEq, Repr

/-- Running fields of a zone record (10.1.3). -/
structure ZoneState where
  mode : ZoneMode := .disabled
  level : Nat := 0
  target : Nat := 100
  curveValue : Nat := 100
  reserve : Option Nat := none
  postDeferred : Bool := false
  lampFault : Bool := false
  faultCounter : Nat := 0
  dimmerFault : Bool := false
  retry : Nat := 0
deriving DecidableEq, Repr

/-- Lighting Unit (R176). -/
structure Ltu where
  zones : Vector ZoneState 6 := Vector.replicate 6 {}
  timer : Timer := .running 1000
deriving DecidableEq, Repr

/-! ## Management Unit -/

/-- The image of the Table Store (Table 11-3). -/
structure StoreImage where
  tables : Tables
  pinned : Vector MapFields 16
  sets : Vector MapFields 256
deriving DecidableEq, Repr

/-- A Table Store commit in flight (R183): the tag of its STORE_COMMIT and the image taken. -/
structure Commit where
  tag : Tag
  image : StoreImage
deriving DecidableEq, Repr

/-- The progress of a RESTART (R185): its ANSWER waits, or has been transmitted or dropped. -/
inductive RestartState where
  | none | answering | ready
deriving DecidableEq, Repr

/-- Management Unit (R184). store is none while its check word does not agree with its contents. snapshot holds the parts
of the Snapshot Buffer and the read position, none while it is EMPTY. -/
structure Mgu where
  store : Option StoreImage := none
  commit : Option Commit := none
  storeInvalid : Bool := true
  snapshot : Option (List (List Word) × Nat) := none
  restart : RestartState := .none
deriving DecidableEq, Repr

/-! ## Events under delivery inside one command -/

/-- The owner of a COMMAND point (Table 3-1, R47). -/
inductive Owner where
  | nobody
  | pump (p : PumpId)
  | barrier (b : BarrierId)
  | signal (b : BarrierId)
  | gate
  | zone (z : ZoneId)
deriving DecidableEq, Repr

/-- A point event (R49), with the value and quality the point had before it. -/
structure PointEvent where
  point : PointId
  oldRaw : Word
  oldQuality : Quality
  valueChanged : Bool
  qualityChanged : Bool
deriving DecidableEq, Repr

/-- The causes of an override event (R109). -/
inductive OverrideCause where
  | adopted | renewed | expired | stage | panelKey | reconfigured
deriving DecidableEq, Repr

/-- An override event (R109): the point, its owner with the device, the value while an entry is present, and the cause. The
owner is given, since a setting operation may just have released the point. -/
structure OverrideEvent where
  point : PointId
  owner : Owner
  value : Option Word
  cause : OverrideCause
deriving DecidableEq, Repr

/-- Events between blocks that are delivered after the handler that raised them (log entry 19). -/
inductive Signal where
  /-- GSQ to STC: all-closed and all-open (R158). -/
  | summary (allClosed allOpen : Bool)
  /-- STC to PSC, GSQ and LTU: a change of STAGE (R92). -/
  | stage (new old : Stage)
  /-- CAU to the owner of a point: its Override Table entry has changed (R109). -/
  | overrideChanged (event : OverrideEvent)
deriving DecidableEq, Repr

/-! ## The whole state -/

/-- The state of the part. -/
structure State where
  pending : List Instr := []
  signals : List Signal := []
  now : Nat := 0
  free : Nat := 0
  powerFail : Bool := false
  cfg : Tables := {}
  upp : Upp := {}
  flc : Flc := {}
  pmu : Pmu := {}
  pim : Pim := {}
  sau : Sau := {}
  stc : Stc := {}
  cau : Cau := {}
  lau : Lau := {}
  psc : Psc := {}
  gsq : Gsq := {}
  ltu : Ltu := {}
  mgu : Mgu := {}
deriving DecidableEq, Repr

/-- The reasons a step could stop with a fault: none. The spec gives every event an effect and the part never stops, so the
type has no constructor and no meaning can answer a fault. Safe. -/
inductive Fault where
deriving DecidableEq, Repr

/-- The reasons a step could have no meaning. -/
inductive Refusal where
  /-- The command of that mnemonic has no meaning in the model yet; raised by an arm of exec only. Safe. -/
  | notModelled (mnemonic : String)
deriving DecidableEq, Repr

/-- The part right after POR with an invalid Table Store: every field at its default (R10, R23, R45, R63, R83, R101, R114,
R128, R147, R166, R176, R184). DESIGN CHOICE, log entry 1: the spec does not say what the store of a new part holds. Unsafe. -/
def State.reset : State := {}

end Sys2Proof.Machine
end

