-- ==== Sys2Proof/Machine/Frames.lean ====
section
/-! DEFINITION. Frames as words: the check word and the check of R1, the header layout of 1.1.1, and the frames that the
part forms itself (R2, R3). -/

namespace Sys2Proof.Machine

/-- One bit of the check word computation (R1). -/
def crcBit (reg : Word) (b : Bool) : Word :=
  if b != reg.msb then (reg <<< 1) ^^^ 0x1021#16 else reg <<< 1

/-- The check word register after one word, most significant bit first (R1). -/
def crcWord (reg w : Word) : Word :=
  [15, 14, 13, 12, 11, 10, 9, 8, 7, 6, 5, 4, 3, 2, 1, 0].foldl (fun r i => crcBit r (w.getLsbD i)) reg

/-- The check word over the covered words (R1). -/
def checkWord (ws : List Word) : Word := ws.foldl crcWord 0xFFFF#16

/-- Header word 0 of a frame: kind, tag, count, reserved (1.1.1). -/
def Frame.word0 (f : Frame) : Word := f.kind ++ f.tag ++ BitVec.ofNat 5 f.payload.length ++ f.reserved

/-- Header word 1 of a frame: destination, source, channel (1.1.1). -/
def Frame.word1 (f : Frame) : Word := f.dst ++ f.src ++ f.channel

/-- The words of a frame that its check word covers. -/
def Frame.covered (f : Frame) : List Word := f.word0 :: f.word1 :: f.payload

/-- The words of a frame as transmitted, with the check word (R1). -/
def Frame.encode (f : Frame) : List Word := f.covered ++ [checkWord f.covered]

/-- The count field of header word 0. -/
def countField (w0 : Word) : Nat := (w0.extractLsb' 4 5).toNat

/-- A received frame that passes its check, or none for one that fails it (R1). -/
def Frame.decode : List Word → Option Frame
  | w0 :: w1 :: rest =>
    if rest.length = countField w0 + 1 ∧ rest.getLast? = some (checkWord (w0 :: w1 :: rest.dropLast)) then
      some { kind := w0.extractLsb' 13 3, tag := w0.extractLsb' 9 4, reserved := w0.extractLsb' 0 4,
             dst := w1.extractLsb' 10 6, src := w1.extractLsb' 4 6, channel := w1.extractLsb' 0 4,
             payload := rest.dropLast }
    else none
  | _ => none

/-- The frame kind found in bits 15:13 of the first word received, 0 when no word was received (R4). -/
def firstKind : List Word → BitVec 3
  | [] => 0
  | w :: _ => w.extractLsb' 13 3

/-! Frame kinds (Table 1-3). -/

def kindRead : BitVec 3 := 0
def kindValue : BitVec 3 := 1
def kindWrite : BitVec 3 := 2
def kindEcho : BitVec 3 := 3
def kindRefuse : BitVec 3 := 4
def kindTaken : BitVec 3 := 5
def kindManage : BitVec 3 := 6
def kindReport : BitVec 3 := 7

/-- A data word holding a number; above 65535 the spec states no word (log entry 6). -/
def word (n : Nat) : Word := if n < 65536 then BitVec.ofNat 16 n else Config.wideWord n

/-- A data word holding a signed quantity. -/
def wordInt (i : Int) : Word := BitVec.ofInt 16 i

/-- The high word of a 32-bit field. -/
def highWord (n : Nat) : Word := BitVec.ofNat 16 (n / 65536)

/-- The low word of a 32-bit field. -/
def lowWord (n : Nat) : Word := BitVec.ofNat 16 n

/-- A flag as a data word. -/
def wordBool (b : Bool) : Word := if b then 1 else 0

/-- A point or none as a data word, 256 for none. -/
def wordPoint (o : Option PointId) : Word := match o with
  | some p => BitVec.ofNat 16 p.val
  | none => 256

/-- A REFUSE or TAKEN on behalf of a supervisory frame (R2 b, c). -/
def replyFor (original : Frame) (kind : BitVec 3) (content : Word) : Frame :=
  { kind := kind, tag := original.tag, dst := 62, src := original.dst, channel := original.channel, payload := [content] }

/-- An ANSWER (R3, Table 1-8, R177): data only with status DONE. -/
def answerFrame (tag : Tag) (code status : Nat) (data : List Word) : Frame :=
  { kind := kindReport, tag := tag, dst := 62, src := 63,
    payload := BitVec.ofNat 16 (code % 256) :: BitVec.ofNat 16 status :: (if status = 0 then data else []) }

/-- A NOTICE (R3, Table 1-8). -/
def noticeFrame (sequence : Tag) (code : Nat) (data : List Word) : Frame :=
  { kind := kindReport, tag := sequence, dst := 62, src := 63, payload := BitVec.ofNat 16 (0x8000 + code) :: data }

/-- Whether a frame is a NOTICE (R8, Table 1-8). -/
def Frame.isNotice (f : Frame) : Bool :=
  f.kind == kindReport && (match f.payload with
    | w :: _ => w.msb
    | [] => false)

/-- Whether the contents of a READ are well formed (R5). -/
def Frame.readOk (f : Frame) : Bool :=
  match f.payload with
  | [w] => decide (w.extractLsb' 4 12 = 0 ∧ 1 ≤ w.toNat ∧ w.toNat ≤ 8 ∧ f.channel.toNat + w.toNat ≤ 16 ∧ f.dst ≠ 0)
  | _ => false

/-- Whether the contents of a WRITE are well formed (R5). -/
def Frame.writeOk (f : Frame) : Bool :=
  decide (1 ≤ f.payload.length ∧ f.payload.length ≤ 8 ∧ f.channel.toNat + f.payload.length ≤ 16)

/-- Whether a valid frame from upstream is passed to the MGU (R5). -/
def Frame.isManagement (f : Frame) : Bool :=
  decide (f.dst = 63 ∧ f.kind = kindManage ∧ f.src = 62 ∧ 1 ≤ f.payload.length ∧ f.payload.length ≤ 16 ∧ f.reserved = 0)

/-- Whether a valid frame from upstream is field-bound (R5). -/
def Frame.isFieldBound (f : Frame) : Bool :=
  decide (f.dst.toNat ≤ 61 ∧ f.src = 62 ∧ f.reserved = 0) &&
    ((f.kind == kindRead && f.readOk) || (f.kind == kindWrite && f.writeOk))

/-- The span asked for by a READ. -/
def Frame.span (f : Frame) : Nat := match f.payload with
  | w :: _ => w.toNat
  | [] => 0

end Sys2Proof.Machine
end

