-- ==== Sys2Proof/Machine/Ops.lean ====
section
/-! DEFINITION. The operations that several blocks share: updates of one block, the clock and the timers, the Upstream
Queue with its notices and ANSWERs (R3, R8), the Path Fault Record (R43), the fields and owners of points (R47, R48), the
Command Queue request (R17), the Override Table as its readers see it (R109), the PLAN in force (R85). -/

namespace Sys2Proof.Machine

/-! ## Updates of one block -/

def State.modCfg (s : State) (f : Tables → Tables) : State := { s with cfg := f s.cfg }
def State.modUpp (s : State) (f : Upp → Upp) : State := { s with upp := f s.upp }
def State.modFlc (s : State) (f : Flc → Flc) : State := { s with flc := f s.flc }
def State.modPmu (s : State) (f : Pmu → Pmu) : State := { s with pmu := f s.pmu }
def State.modPim (s : State) (f : Pim → Pim) : State := { s with pim := f s.pim }
def State.modSau (s : State) (f : Sau → Sau) : State := { s with sau := f s.sau }
def State.modStc (s : State) (f : Stc → Stc) : State := { s with stc := f s.stc }
def State.modCau (s : State) (f : Cau → Cau) : State := { s with cau := f s.cau }
def State.modLau (s : State) (f : Lau → Lau) : State := { s with lau := f s.lau }
def State.modPsc (s : State) (f : Psc → Psc) : State := { s with psc := f s.psc }
def State.modGsq (s : State) (f : Gsq → Gsq) : State := { s with gsq := f s.gsq }
def State.modLtu (s : State) (f : Ltu → Ltu) : State := { s with ltu := f s.ltu }
def State.modMgu (s : State) (f : Mgu → Mgu) : State := { s with mgu := f s.mgu }

/-- Raises an event for delivery after the present handler (log entry 19). -/
def State.emit (s : State) (x : Signal) : State := { s with signals := s.signals ++ [x] }

/-- Moves the clock on to a time, if it lies ahead (log entry 3). -/
def State.advance (s : State) (x : Nat) : State := { s with now := max s.now x }

/-! ## Arithmetic -/

/-- Quotient rounded toward plus infinity (0.11 d); 0 for a divisor of 0, which no rule forms. -/
def ceilDiv (a b : Nat) : Nat := (a + b - 1) / b

/-- The limits of a 16-bit signed register (R77, R79). -/
def clamp16 (i : Int) : Int := max (-32768) (min 32767 i)

/-- The number of 100 ms units of an age, saturating (R42, R48). -/
def ageUnits (now since : Nat) : Nat := min 65535 ((now - since) / 100)

/-- The breakpoints of a table of which the PRESENT ones are breakpoints 0 to c - 1 (R65, R168), or none. -/
def presentPrefix (v : Vector (Option Breakpoint) 8) : Option (List Breakpoint) :=
  let head := v.toList.takeWhile Option.isSome
  if (v.toList.drop head.length).all Option.isNone then some (head.filterMap id) else none

/-- The configured start levels of a sump: a start level of 0 leaves it and every stage above unconfigured (8.1.2). -/
def PumpingCfg.configured (c : PumpingCfg) : List Nat := c.start.takeWhile fun x => !(x == 0)

/-- Whether every two neighbours of a list are in a relation. -/
def chained {α : Type} (f : α → α → Bool) : List α → Bool
  | a :: b :: rest => f a b && chained f (b :: rest)
  | _ => true

/-! ## Timers -/

/-- A timer started for a period in ms. -/
def Timer.start (now period : Nat) : Timer := .running (now + period)

/-- What remains of a timer in ms, 0 when stopped. -/
def Timer.left (now : Nat) : Timer → Nat
  | .stopped => 0
  | .running d => d - now
  | .paused r => r

def Timer.isRunning : Timer → Bool
  | .running _ => true
  | _ => false

def Timer.pause (now : Nat) : Timer → Timer
  | .running d => .paused (d - now)
  | t => t

def Timer.resume (now : Nat) : Timer → Timer
  | .paused r => .running (now + r)
  | t => t

/-- The command that a timer expires: the clock moves on to its end and act is taken; with the timer not running the expiry
does not occur (log entry 3). -/
def onExpiry (t : Timer) (s : State) (act : State → State) : State :=
  match t with
  | .running d => act (s.advance d)
  | _ => s

/-! ## Index lists -/

def pumpIds : List PumpId := [0, 1, 2, 3, 4, 5, 6, 7]
def fourIds : List (Fin 4) := [0, 1, 2, 3]
def zoneIds : List ZoneId := [0, 1, 2, 3, 4, 5]

/-! ## Codes -/

def FaultClass.code : FaultClass → Nat
  | .line => 0 | .authority => 1 | .map => 2 | .upstreamOverrun => 3

/-- Ranks of Table 2-4. -/
def FaultClass.rank : FaultClass → Nat
  | .line => 0 | .authority => 1 | .map => 2 | .upstreamOverrun => 0

def Quality.code : Quality → Nat
  | .never => 0 | .good => 1 | .stale => 2 | .invalid => 3

def CommandState.code : CommandState → Nat
  | .idle => 0 | .pending => 1 | .confirmed => 2 | .failed => 3

def PointKind.code : PointKind → Nat
  | .unused => 0 | .level => 1 | .analog => 2 | .discrete => 3 | .command => 4 | .feedback => 5

def Source.code : Source → Nat
  | .primary => 0 | .backup => 1 | .held => 2

def LevelQuality.code : LevelQuality → Nat
  | .good => 0 | .suspect => 1 | .blind => 2

/-- Stage codes, which give the order of the stages (Table 5-2). -/
def Stage.code : Stage → Nat
  | .clear => 0 | .watch => 1 | .alert => 2 | .closing => 3 | .closed => 4 | .reopening => 5

def HoldState.code : HoldState → Nat
  | .running => 0 | .held => 1 | .stepping => 2

def SupplyMode.code : SupplyMode → Nat
  | .none => 0 | .mains => 1 | .generator => 2

/-- Device codes (Table 7-2). -/
def Device.code : Device → Nat
  | .pump p => p.val + 1
  | .barrier b => b.val + 9
  | .gate => 13
  | .zone z => z.val + 14

def PumpMode.code : PumpMode → Nat
  | .disabled => 0 | .unknown => 1 | .idle => 2 | .queued => 3 | .starting => 4 | .running => 5 | .stopping => 6
  | .resting => 7 | .faulted => 8

def StopReason.code : StopReason → Nat
  | .normal => 0 | .shed => 1 | .fault => 2 | .override => 3

def BarrierMode.code : BarrierMode → Nat
  | .disabled => 0 | .unknown => 1 | .opened => 2 | .warning => 3 | .clearing => 4 | .queuedClose => 5 | .closing => 6
  | .reversing => 7 | .closed => 8 | .queuedOpen => 9 | .opening => 10 | .faultTravel => 11 | .faultObstructed => 12
  | .faultLimits => 13

def Aspect.code : Aspect → Nat
  | .dark => 0 | .flashAmber => 1 | .steadyRed => 2 | .redFlooded => 3

def Aspect.ofCode : Nat → Aspect
  | 0 => .dark
  | 1 => .flashAmber
  | 2 => .steadyRed
  | _ => .redFlooded

def GateMode.code : GateMode → Nat
  | .disabled => 0 | .unknown => 1 | .opened => 2 | .queuedClose => 3 | .closing => 4 | .closed => 5 | .queuedOpen => 6
  | .opening => 7 | .fault => 8

def ZoneMode.code : ZoneMode → Nat
  | .disabled => 0 | .unknown => 1 | .normal => 2 | .shed => 3 | .restoreQueued => 4

/-- The map and index words of a map location (Table 2-4). -/
def mapWord : Option MapLoc → Nat
  | some (.pinned _) => 0
  | some (.setMap _ _) => 1
  | none => 2

def mapIndex : Option MapLoc → Nat
  | some (.pinned i) => i.val
  | some (.setMap i w) => 2 * i.val + w.val
  | none => 0

/-! ## The Upstream Queue, notices and the Path Fault Record -/

/-- Raises a notice: it takes the notice sequence number, which advances, and is offered to the Upstream Queue, which drops
it when it holds 16 frames (R3, R8). -/
def raiseNotice (code : Nat) (data : List Word) (s : State) : State :=
  s.modUpp fun u =>
    { u with
      upstream := if u.upstream.length < 16 then u.upstream ++ [{ frame := noticeFrame u.noticeSeq code data }] else u.upstream
      noticeSeq := u.noticeSeq + 1 }

/-- Takes one update of the Path Fault Record (R43). -/
def logFault (u : FaultUpdate) (s : State) : State :=
  let k := u.key.getD {}
  if s.pmu.fault.fv then
    s.modPmu fun m => { m with fault :=
      if m.fault.stored.cls.rank ≤ u.cls.rank then { m.fault with ow := true, stored := u, writtenAt := s.now }
      else { m.fault with ow := true } }
  else
    raiseNotice 3 [word u.cls.code, word u.detail, k.plan.zeroExtend 16, k.station.zeroExtend 16, k.channel.zeroExtend 16]
      (s.modPmu fun m => { m with fault := { fv := true, ow := false, stored := u, writtenAt := s.now } })

/-- A queue less its oldest NOTICE, or none when it holds none (R8). -/
def dropOldestNotice : List UpEntry → Option (List UpEntry)
  | [] => none
  | e :: rest =>
    if e.frame.isNotice then some rest
    else match dropOldestNotice rest with
      | some rest' => some (e :: rest')
      | none => none

/-- Offers a frame other than a NOTICE to the Upstream Queue (R8). A dropped frame is logged as UPSTREAM_OVERRUN, and
dropping the ANSWER that a RESTART waits for lets the RESTART be performed (R185). -/
def offerUp (e : UpEntry) (s : State) : State :=
  if s.upp.upstream.length < 16 then s.modUpp fun u => { u with upstream := u.upstream ++ [e] }
  else match dropOldestNotice s.upp.upstream with
    | some q => s.modUpp fun u => { u with upstream := q ++ [e] }
    | none =>
      logFault { cls := .upstreamOverrun, detail := 0, kind := e.frame.kind }
        (if e.restartAnswer then s.modMgu fun m => { m with restart := .ready } else s)

/-- Offers a REFUSE for a supervisory frame (R2 b). -/
def refuse (original : Frame) (reason : Nat) (s : State) : State :=
  offerUp { frame := replyFor original kindRefuse (word reason) } s

/-- Offers the ANSWER of a management operation (R177). -/
def answer (tag : Tag) (code status : Nat) (data : List Word) (s : State) : State :=
  offerUp { frame := answerFrame tag code status data } s

/-! Answer status codes (Table 1-9). -/

def stDone : Nat := 0
def stBusy : Nat := 1
def stRange : Nat := 2
def stNotReady : Nat := 3
def stIndexMismatch : Nat := 4
def stMapFull : Nat := 5
def stUnknownOp : Nat := 6

/-! ## Points -/

def State.pcfg (s : State) (p : PointId) : PointCfg := Tab.get s.cfg.points p
def State.point (s : State) (p : PointId) : PointState := Tab.get s.pim.points p

def State.modPoint (s : State) (p : PointId) (f : PointState → PointState) : State :=
  s.modPim fun m => { m with points := Tab.put m.points p (f (Tab.get m.points p)) }

/-- Whether a point named by a record stands GOOD with a value; false when none is named. -/
def State.goodAt (s : State) (o : Option PointId) (v : Word) : Bool :=
  match o with
  | some p => (s.point p).quality == .good && (s.point p).raw == v
  | none => false

/-- Whether a point named by a record stands GOOD. -/
def State.isGood (s : State) (o : Option PointId) : Bool :=
  match o with
  | some p => (s.point p).quality == .good
  | none => false

/-- Restarts the age of a point; its expiry is judged against the period in force now (R46, R48). -/
def restartAge (p : PointId) (s : State) : State :=
  s.modPoint p fun t =>
    { t with since := s.now
             freshTimer := if (s.pcfg p).freshness = 0 then .stopped else .start s.now (100 * (s.pcfg p).freshness) }

/-- The age of a point in 100 ms units, 0 while its quality is NEVER (Table 3-1). -/
def State.pointAge (s : State) (p : PointId) : Nat :=
  if (s.point p).quality = .never then 0 else ageUnits s.now (s.point p).since

/-- The owner of a point: the device whose enabled record names it as a command point (R47). -/
def ownerOf (t : Tables) (p : PointId) : Owner :=
  match pumpIds.find? (fun i => (Tab.get t.pumps i).enable && (Tab.get t.pumps i).runPoint == some p) with
  | some i => .pump i
  | none =>
  match fourIds.find? (fun i => (Tab.get t.barriers i).enable && (Tab.get t.barriers i).drive == some p) with
  | some i => .barrier i
  | none =>
  match fourIds.find? (fun i => (Tab.get t.barriers i).enable && (Tab.get t.barriers i).head == some p) with
  | some i => .signal i
  | none =>
  if t.gate.enable && t.gate.drive == some p then .gate else
  match zoneIds.find? (fun i => (Tab.get t.zones i).enable && (Tab.get t.zones i).dim == some p) with
  | some i => .zone i
  | none => .nobody

/-- Sets the command state of a point; a change sets changed-since-read (R57). -/
def setCommandState (p : PointId) (c : CommandState) (s : State) : State :=
  s.modPoint p fun t => { t with command := c, changed := t.changed || !(t.command == c) }

/-! ## The Command Queue -/

/-- Whether the Command Queue holds an entry for a point. -/
def State.queued (s : State) (p : PointId) : Bool := s.flc.commandQueue.any (·.point == p)

/-- A Command Queue after a request for a point: the entry for it takes the value, or a new entry joins the tail (R17). -/
def putCommand (p : PointId) (v : Word) (q : List CommandEntry) : List CommandEntry :=
  if q.any (·.point == p) then q.map fun e => if e.point = p then { e with value := v, attempt := 1 } else e
  else q ++ [{ point := p, value := v, attempt := 1 }]

/-- A JOB's request to command one of its points to a value (R17). -/
def requestCommand (p : PointId) (v : Word) (s : State) : State :=
  if s.flc.line = .quenched then s
  else
    (s.modFlc fun f => { f with commandQueue := putCommand p v f.commandQueue }).modPoint p fun t =>
      { t with command := .pending, commanded := v
               changed := t.changed || !(t.command == .pending) || !(t.commanded == v) }

/-- The same for a command point that a record may leave unnamed. -/
def commandPoint (o : Option PointId) (v : Word) (s : State) : State :=
  match o with
  | some p => requestCommand p v s
  | none => s

/-! ## Overrides as their readers see them -/

/-- The Override Table entry for a point that a record may leave unnamed (R109). -/
def State.override (s : State) (o : Option PointId) : Option Override :=
  match o with
  | some p => s.cau.overrides.find? (fun e => e.point == p)
  | none => none

/-- Whether an entry with a value stands for a point. -/
def State.overrideIs (s : State) (o : Option PointId) (v : Word) : Bool :=
  match s.override o with
  | some e => e.value == v
  | none => false

/-- The remaining time of an entry in minutes rounded up (R113, R146). -/
def Override.minutesLeft (now : Nat) (e : Override) : Nat := ceilDiv (e.expiry - now) 60000

/-! ## The PLAN in force -/

/-- The PLAN in force (R85). -/
def State.planInForce (s : State) : Plan :=
  if s.stc.hold = .running then
    match s.stc.stage with
    | .clear => Tab.get s.cfg.plan 0
    | .watch => Tab.get s.cfg.plan 1
    | .alert => Tab.get s.cfg.plan 2
    | .closing => Tab.get s.cfg.plan 3
    | .closed => Tab.get s.cfg.plan 4
    | .reopening => Tab.get s.cfg.plan 5
  else Tab.get s.cfg.plan 6

end Sys2Proof.Machine
end

