-- ==== Sys2Proof/Machine/Lau.lean ====
section
/-! DEFINITION. The Load Allowance Unit's own tables and conditions (chapter 7): ALLOWANCE, COMMITTED LOAD, the Start Queue
with posts and withdrawals, the reports that the JOBS make to it, and what it judges. The judgements themselves are taken in
Machine/Allowance.lean, where the JOBS that take grants, shed demand and shed orders are known. -/

namespace Sys2Proof.Machine

/-- Whether a supply point counts as 1 (R116). -/
def State.counted (s : State) (o : Option PointId) : Bool :=
  match o with
  | some p => !((s.point p).quality == .never) && (s.pcfg p).kind == .discrete && (s.point p).raw == 1
  | none => false

/-- The supply mode that the counted values give (R116). -/
def State.judgedMode (s : State) : SupplyMode :=
  if s.counted s.cfg.supply.mains then .mains
  else if s.counted s.cfg.supply.generator then .generator
  else .none

/-- Whether clear-to-start is asserted (R117). -/
def State.judgedClear (s : State) : Bool :=
  match s.cfg.supply.clearToStart with
  | none => true
  | some _ => s.counted s.cfg.supply.clearToStart

/-- The ALLOWANCE (R116). -/
def State.allowance (s : State) : Nat :=
  match s.lau.mode with
  | .none => 0
  | .mains => s.cfg.supply.mainsLimit
  | .generator => s.cfg.supply.generatorLimit

/-! ## COMMITTED LOAD (R118) -/

def Lau.pumpPart (l : Lau) : Nat := l.pumpLoad.toList.sum
def Lau.motorPart (l : Lau) : Nat := l.motorLoad.toList.sum
def Lau.lightingPart (l : Lau) : Nat := l.zoneLoad.toList.sum
def Lau.inrushPart (l : Lau) : Nat := match l.window with
  | some w => w.extra
  | none => 0

/-- The COMMITTED LOAD (R118). -/
def Lau.committed (l : Lau) : Nat := l.pumpPart + l.motorPart + l.lightingPart + l.inrushPart

/-- The LIGHTING RESTORATION (R119). -/
def Lau.lightingRestoration (l : Lau) : Nat := l.restoration.toList.sum

/-- Takes a report of a JOB: a report that changes the COMMITTED LOAD, the LIGHTING RESTORATION or the shed order makes the
judgements of R122, R124, R125 and R126 due (R118, R126; log entry 17). -/
def takeReport (f : Lau → Lau) (s : State) : State :=
  s.modLau fun l =>
    let l' := f l
    { l' with judgeDue := l.judgeDue ||
        !(l'.committed == l.committed && l'.lightingRestoration == l.lightingRestoration && l'.shedOrder == l.shedOrder) }

/-- Whether a pump counts against the run limit and in the COMMITTED LOAD (Table 8-2). -/
def PumpMode.counts : PumpMode → Bool
  | .starting | .running | .stopping => true
  | _ => false

/-- Whether a pump stands in the START ORDER (R125). -/
def PumpMode.inStartOrder : PumpMode → Bool
  | .starting | .running => true
  | _ => false

/-- The PSC's report of a pump's state: the pump part, the START ORDER and the shed order follow it (R118, R125). -/
def reportPump (p : PumpId) (mode : PumpMode) (s : State) : State :=
  let kw := (Tab.get s.cfg.pumps p).ratedKw
  takeReport (fun l =>
    { l with
      pumpLoad := Tab.put l.pumpLoad p (if mode.counts then kw else 0)
      startOrder := if mode.inStartOrder then (if p ∈ l.startOrder then l.startOrder else l.startOrder ++ [p])
                    else l.startOrder.filter (fun q => !(q == p))
      shedOrder := if !mode.counts && l.shedOrder == some p then none else l.shedOrder }) s

/-- The GSQ's report of a motor in or out of motion: place 0 to 3 for a barrier, 4 for the gate (R118, R158). -/
def reportMotor (i : Fin 5) (kw : Nat) (s : State) : State :=
  takeReport (fun l => { l with motorLoad := Tab.put l.motorLoad i kw }) s

/-- The LTU's report of a zone's load and restoration increment (R119). -/
def reportZoneLoad (z : ZoneId) (load increment : Nat) (s : State) : State :=
  takeReport (fun l => { l with zoneLoad := Tab.put l.zoneLoad z load, restoration := Tab.put l.restoration z increment }) s

/-! ## The Start Queue -/

/-- The Start Queue with a request in its place: behind every request of its class and of lower classes (7.3.1). -/
def enqueue (r : Request) (q : List Request) : List Request :=
  q.takeWhile (fun x => x.cls ≤ r.cls) ++ r :: q.dropWhile (fun x => x.cls ≤ r.cls)

/-- The entry of a device. -/
def Lau.entry (l : Lau) (d : Device) : Option Request := l.queue.find? (fun r => r.device == d)

/-- The Start Queue after a post, or none when the post is answered FULL (R120). -/
def postQueue (r : Request) (q : List Request) : Option (List Request) :=
  match q.find? (fun x => x.device == r.device) with
  | some old =>
    if old.cls = r.cls then
      some (q.map fun x => if x.device = r.device then { r with arrival := x.arrival } else x)
    else some (enqueue r (q.filter fun x => !(x.device == r.device)))
  | none => if q.length < 16 then some (enqueue r q) else none

/-- A post from a JOB; the second part is true when it is answered ACCEPTED (R120). An accepted post makes all four judgements due, the
end of shedding too, which R126 does not judge at a post (log entry 17). -/
def post (d : Device) (cls runKw factor inrush : Nat) (s : State) : State × Bool :=
  if s.flc.line = .quenched then (s, false)
  else
    let r : Request := { device := d, cls := cls, runKw := runKw, extra := ceilDiv ((factor - 100) * runKw) 100,
                         inrush := inrush, arrival := s.now }
    match postQueue r s.lau.queue with
    | some q => (s.modLau fun l => { l with queue := q, judgeDue := true }, true)
    | none => (s, false)

/-- A withdrawal from a JOB (R121). -/
def withdraw (d : Device) (s : State) : State :=
  if s.lau.queue.any (fun r => r.device == d) then
    s.modLau fun l => { l with queue := l.queue.filter (fun r => !(r.device == d)), judgeDue := true }
  else s

/-! ## What is judged -/

/-- Condition 1 of R122. -/
def State.fits (s : State) (r : Request) : Bool := decide (s.lau.committed + r.runKw + r.extra ≤ s.allowance)

/-- Condition 2 of R122. -/
def State.windowFree (s : State) (r : Request) : Bool := s.lau.window.isNone || r.extra == 0

/-- Condition 3 of R122. -/
def State.clearFor (s : State) (r : Request) : Bool := s.lau.clearToStart || r.cls == 3

/-- The line is not QUENCHED: the JOBS take new decisions at their evaluations (R111; log entry 79). -/
def State.decides (s : State) : Bool := !(s.flc.line == .quenched)

/-- Condition 4 of R122. -/
def State.notHeld (s : State) : Bool := !(s.stc.hold == .held)

/-- Whether the head is granted (R122). -/
def State.grantable (s : State) (r : Request) : Bool :=
  s.fits r && s.windowFree r && s.clearFor r && s.notHeld

/-- The head wait reason (R122, R127): 1 ALLOWANCE, 2 WINDOW, 3 CLEAR_TO_START, 4 HELD, 0 none. -/
def State.headWait (s : State) : Nat :=
  match s.lau.queue with
  | [] => 0
  | r :: _ =>
    if !s.fits r then 1 else if !s.windowFree r then 2 else if !s.clearFor r then 3 else if !s.notHeld then 4 else 0

/-- A blocked head: of class 0 or 1 and failing R122 on condition 1 alone (R124). -/
def State.blockedHead (s : State) : Bool :=
  match s.lau.queue with
  | [] => false
  | r :: _ => decide (r.cls ≤ 1) && !s.fits r && s.windowFree r && s.clearFor r && s.notHeld

/-- The COMMITTED LOAD exceeds the ALLOWANCE (R124, R125). -/
def State.overload (s : State) : Bool := decide (s.allowance < s.lau.committed)

/-- The pump that a shed order would name now, if one is to be issued (R125). -/
def State.shedChoice (s : State) : Option PumpId :=
  if s.lau.shedDemand && s.lau.shedTaken && s.overload && s.lau.shedOrder.isNone && s.notHeld then s.lau.startOrder.getLast?
  else none

/-- Whether shed demand is to be cleared (R126). -/
def State.shedOver (s : State) : Bool :=
  s.lau.shedDemand && !(s.lau.queue.any fun r => decide (r.cls ≤ 1)) &&
    decide (s.lau.committed + s.lau.lightingRestoration ≤ s.allowance) && s.lau.shedOrder.isNone

/-- Judges the supply mode and clear-to-start afresh, at a point event of a supply point and at a SUPPLY_SET (R116, R117).
A change of mode raises SUPPLY_CHANGED; a change of either makes the head due for judgement (R122). -/
def judgeSupply (s : State) : State :=
  let mode := s.judgedMode
  let s1 := if mode = s.lau.mode then s
    else
      let s' := s.modLau fun l => { l with mode := mode, judgeDue := true }
      raiseNotice 10 [word mode.code, word s.lau.mode.code, word s'.allowance] s'
  let clear := s1.judgedClear
  if clear = s1.lau.clearToStart then s1
  else s1.modLau fun l => { l with clearToStart := clear, judgeDue := true }

/-- Entry into QUENCHED: the Start Queue is purged and an outstanding shed order becomes none (R128). -/
def lauQuench (s : State) : State :=
  s.modLau fun l => { l with queue := [], shedOrder := none, judgeDue := true }

end Sys2Proof.Machine
end

