-- ==== Sys2Proof/Machine/Barriers.lean ====
section
/-! DEFINITION. Barriers, signal heads and the backflow gate (chapter 9): demand, the closure sequence, reversal, faults,
aspects, reports, the gate's tests and moves, re-derivation, and what the Gate Sequencer does with point events and command
outcomes. -/

namespace Sys2Proof.Machine

def State.barrier (s : State) (b : BarrierId) : BarrierState := Tab.get s.gsq.barriers b
def State.barrierCfg (s : State) (b : BarrierId) : BarrierCfg := Tab.get s.cfg.barriers b

def State.modBarrier (s : State) (b : BarrierId) (f : BarrierState → BarrierState) : State :=
  s.modGsq fun c => { c with barriers := Tab.put c.barriers b (f (Tab.get c.barriers b)) }

def State.modGate (s : State) (f : GateState → GateState) : State := s.modGsq fun c => { c with gate := f c.gate }

/-! Drive values (Table 9-1 note 1). -/

def driveStop : Word := 0
def driveOpen : Word := 1
def driveClose : Word := 2

/-- A limit SET (R149). -/
def State.limitSet (s : State) (o : Option PointId) : Bool := s.goodAt o 1

/-- A limit UNSET (R149). -/
def State.limitUnset (s : State) (o : Option PointId) : Bool := s.goodAt o 0

/-- OCCUPIED for a value and a quality (R149). -/
def occupiedBy (raw : Word) (q : Quality) : Bool := raw == 1 || !(q == .good)

/-- OCCUPIED for a presence point a record may leave unnamed (R149). -/
def State.occupied (s : State) (o : Option PointId) : Bool :=
  match o with
  | some p => occupiedBy (s.point p).raw (s.point p).quality
  | none => false

/-- The barrier is CLEAR (R149). -/
def State.barrierClear (s : State) (b : BarrierId) : Bool :=
  !s.occupied (s.barrierCfg b).presence1 && !s.occupied (s.barrierCfg b).presence2

/-- CLOSURE DEMAND (R149). -/
def State.closureDemand (s : State) (b : BarrierId) : Bool :=
  s.stc.stage == .closing || s.stc.stage == .closed || s.overrideIs (s.barrierCfg b).drive driveClose

/-- OPENING DEMAND (R149). -/
def State.openingDemand (s : State) (b : BarrierId) : Bool :=
  !s.closureDemand b && (s.stc.stage == .reopening || s.overrideIs (s.barrierCfg b).drive driveOpen)

/-- States counted in the motor part (Table 9-2). -/
def BarrierMode.moves : BarrierMode → Bool
  | .closing | .reversing | .opening => true
  | _ => false

def BarrierMode.isFault : BarrierMode → Bool
  | .faultTravel | .faultObstructed | .faultLimits => true
  | _ => false

def GateMode.moves : GateMode → Bool
  | .closing | .opening => true
  | _ => false

/-! ## Aspects (R157) -/

/-- The aspect wanted of a barrier (R157, Table 9-3). -/
def State.aspectWanted (s : State) (b : BarrierId) : Option Aspect :=
  let c := s.barrierCfg b
  if c.head.isNone then none
  else match (s.barrier b).mode with
    | .disabled | .unknown => none
    | .opened => some (match s.override c.head with
      | some e => Aspect.ofCode e.value.toNat
      | none => if Stage.alert.code ≤ s.stc.stage.code then .flashAmber else .dark)
    | .warning => some .flashAmber
    | .closed | .queuedOpen => some .redFlooded
    | _ => some .steadyRed

/-- Records the aspect wanted and commands the head when it differs from the one last commanded, or when asked afresh
(R157). A QUENCHED line takes no request (R17), so nothing counts as commanded then. -/
def aspectJudge (afresh : Bool) (b : BarrierId) (s : State) : State :=
  let wanted := s.aspectWanted b
  let s1 := s.modBarrier b fun t => { t with aspect := wanted }
  match wanted with
  | none => s1.modBarrier b fun t => { t with aspectSent := none }
  | some a =>
    if (afresh || !((s.barrier b).aspectSent == some a)) && !(s.flc.line == .quenched) then
      commandPoint (s.barrierCfg b).head (BitVec.ofNat 16 a.code) (s1.modBarrier b fun t => { t with aspectSent := some a })
    else s1

/-! ## Reports (R158) -/

def State.enabledBarriers (s : State) : List BarrierId := fourIds.filter fun b => (s.barrierCfg b).enable

/-- All-closed and all-open over the enabled barriers (R158). -/
def State.barrierSummary (s : State) : Bool × Bool :=
  (s.enabledBarriers.all fun b => (s.barrier b).mode == .closed, s.enabledBarriers.all fun b => (s.barrier b).mode == .opened)

/-- Reports all-closed and all-open to the STC at a change, the first time when no enabled barrier is UNKNOWN (R158). -/
def summaryReport (s : State) : State :=
  let now := s.barrierSummary
  let due : Bool := match s.gsq.reported with
    | none => !s.enabledBarriers.any fun b => (s.barrier b).mode == .unknown
    | some x => !(x == now)
  if due then (s.modGsq fun c => { c with reported := some now }).emit (.summary now.1 now.2) else s

/-- The GSQ reports to the STC when no barrier or gate record is UNKNOWN (R93, R158; log entry 34). -/
def gsqReadiness (s : State) : State :=
  if (fourIds.all fun b => !((s.barrier b).mode == .unknown)) && !(s.gsq.gate.mode == .unknown) then
    s.modStc fun c => { c with gsqReady := true }
  else s

/-- A change of a barrier's state, with its aspect and its reports (R157, R158). -/
def barrierGo (b : BarrierId) (mode : BarrierMode) (s : State) : State :=
  let s1 := s.modBarrier b fun t => { t with mode := mode }
  let s2 := reportMotor (b.castLE (by decide)) (if mode.moves then (s.barrierCfg b).motorKw else 0) s1
  gsqReadiness (summaryReport (aspectJudge false b s2))

/-! ## Posts -/

/-- The post of a barrier (R150). -/
def barrierPost (b : BarrierId) (cls : Nat) (s : State) : State × Bool :=
  post (.barrier b) cls (s.barrierCfg b).motorKw s.cfg.supply.motorFactor 2 s

/-- A post that takes the barrier to a queued state, in which no clearance time runs, or leaves it where it is with
POST_DEFERRED set when it is answered FULL (R150, R151). -/
def barrierPostGo (b : BarrierId) (cls : Nat) (mode : BarrierMode) (s : State) : State :=
  let r := barrierPost b cls s
  if r.2 then barrierGo b mode (r.1.modBarrier b fun t => { t with postDeferred := false, clearTimer := .stopped })
  else r.1.modBarrier b fun t => { t with postDeferred := true }

/-- A post made from the queued state it belongs to: FULL, or the hold state HELD, in which the GSQ posts nothing, leaves
the record queued with POST_DEFERRED set (Table 9-6 note 3; log entry 28). -/
def barrierPostStay (b : BarrierId) (cls : Nat) (s : State) : State :=
  if s.stc.hold = .held then s.modBarrier b fun t => { t with postDeferred := true }
  else
    let r := barrierPost b cls s
    r.1.modBarrier b fun t => { t with postDeferred := !r.2 }

/-! ## The closure sequence -/

/-- The clearance timer for a whole clearance time, paused in HELD (R151, R163). -/
def State.clearanceTimer (s : State) (b : BarrierId) : Timer :=
  let period := 1000 * (s.barrierCfg b).clearance
  if s.stc.hold = .held then .paused period else .start s.now period

/-- Entry into CLEARING: the clearance timer starts if the barrier is CLEAR (R151). -/
def toClearing (b : BarrierId) (s : State) : State :=
  barrierGo b .clearing (s.modBarrier b fun t =>
    { t with warnTimer := .stopped, postDeferred := false
             clearTimer := if s.barrierClear b then s.clearanceTimer b else .stopped })

/-- Entry into CLEARING with the clearance timer stopped (R150, R151). -/
def toClearingStopped (b : BarrierId) (s : State) : State :=
  barrierGo b .clearing (s.modBarrier b fun t => { t with warnTimer := .stopped, clearTimer := .stopped, postDeferred := false })

/-- The class 0 post of a barrier in CLEARING (R151). -/
def closingPost (b : BarrierId) (s : State) : State := barrierPostGo b 0 .queuedClose s

/-- The travel timer started afresh (R152, R154, R155). -/
def startTravel (b : BarrierId) (s : State) : State :=
  s.modBarrier b fun t => { t with travelTimer := .start s.now (1000 * (s.barrierCfg b).travel) }

/-- A barrier starts or turns its movement: the drive is commanded, the travel timer starts afresh (R152, R154, R155). -/
def barrierMove (b : BarrierId) (mode : BarrierMode) (drive : Word) (s : State) : State :=
  barrierGo b mode (startTravel b (commandPoint (s.barrierCfg b).drive drive s))

/-- The drive to STOP and the travel timer stopped at the end of a movement (R153, R154). -/
def stopTravel (b : BarrierId) (s : State) : State :=
  (commandPoint (s.barrierCfg b).drive driveStop s).modBarrier b fun t => { t with travelTimer := .stopped }

/-- Withdraws the entry of a barrier and makes it CLOSED (R150). -/
def withdrawToClosed (b : BarrierId) (s : State) : State :=
  barrierGo b .closed ((withdraw (.barrier b) s).modBarrier b fun t => { t with postDeferred := false })

/-- What the evaluation of R150 does by the barrier's state, less the aspect. A barrier in CLEARING whose post was answered FULL
posts again while it is CLEAR (R151). A CLOSED barrier without OPENING DEMAND waits for no post (log entry 31). -/
def barrierAct (b : BarrierId) (s : State) : State :=
  let c := s.barrierCfg b
  let t := s.barrier b
  match t.mode with
  | .opened =>
    if s.closureDemand b then
      barrierGo b .warning (s.modBarrier b fun t => { t with reversals := 0, warnTimer := .start s.now (1000 * c.warn) })
    else s
  | .warning | .clearing | .queuedClose =>
    if !s.closureDemand b then
      barrierGo b .opened ((withdraw (.barrier b) s).modBarrier b fun t =>
        { t with warnTimer := .stopped, clearTimer := .stopped, postDeferred := false, reversals := 0 })
    else if t.postDeferred && t.mode == .clearing && s.barrierClear b then closingPost b s
    else if t.postDeferred && t.mode == .queuedClose then barrierPostStay b 0 s
    else s
  | .closed =>
    if s.openingDemand b then barrierPostGo b 2 .queuedOpen s else s.modBarrier b fun t => { t with postDeferred := false }
  | .queuedOpen =>
    if s.closureDemand b then
      if s.limitSet c.closedLimit then withdrawToClosed b s
      else if s.barrierClear b then barrierGo b .queuedClose (barrierPostStay b 0 s)
      else toClearingStopped b (withdraw (.barrier b) s)
    else if !s.openingDemand b && s.limitSet c.closedLimit then withdrawToClosed b s
    else if t.postDeferred then barrierPostStay b 2 s
    else s
  | .opening =>
    if s.closureDemand b && s.barrierClear b then
      barrierMove b .closing driveClose (s.modBarrier b fun t => { t with reversals := 0 })
    else s
  | _ => s

/-- The evaluation of one enabled barrier (R150); it ends with the judgement of the aspect. While the line is QUENCHED the aspect
alone is judged (R111; log entry 79). -/
def barrierEval (b : BarrierId) (s : State) : State :=
  if (s.barrierCfg b).enable then aspectJudge false b (if s.decides then barrierAct b s else s) else s

/-- Entry into a fault state with everything R156 gives for it. -/
def barrierFaultEnter (b : BarrierId) (mode : BarrierMode) (cause : Nat) (s : State) : State :=
  let left := (s.barrier b).mode
  let s1 := withdraw (.barrier b) (s.modBarrier b fun t =>
    { t with fault := cause, warnTimer := .stopped, clearTimer := .stopped, travelTimer := .stopped, postDeferred := false })
  let s2 := barrierGo b mode (commandPoint (s.barrierCfg b).drive driveStop s1)
  raiseNotice 14 [word (b.val + 1), word cause, word left.code] s2

/-- A fault of a barrier not DISABLED, not UNKNOWN and not in a fault state (R156). -/
def barrierFault (b : BarrierId) (mode : BarrierMode) (cause : Nat) (s : State) : State :=
  match (s.barrier b).mode with
  | .disabled | .unknown | .faultTravel | .faultObstructed | .faultLimits => s
  | _ => barrierFaultEnter b mode cause s

/-- Takes a grant for a barrier (R152; log entry 18 for a barrier not CLEAR). -/
def barrierGrant (b : BarrierId) (s : State) : State :=
  match (s.barrier b).mode with
  | .queuedClose => if s.barrierClear b then barrierMove b .closing driveClose s else toClearingStopped b s
  | .queuedOpen => barrierMove b .opening driveOpen s
  | _ => s

/-- The OPEN limit SET in REVERSING (R154). -/
def reversalEnd (b : BarrierId) (s : State) : State :=
  let s1 := stopTravel b s
  if !s.closureDemand b then barrierGo b .opened (s1.modBarrier b fun t => { t with reversals := 0 })
  else if (s.barrier b).reversals < 2 then toClearing b (s1.modBarrier b fun t => { t with reversals := t.reversals + 1 })
  else barrierFaultEnter b .faultObstructed 2 (s1.modBarrier b fun t => { t with reversals := 3 })

/-- The end of a movement at a limit (R153, R154). -/
def movementEnd (b : BarrierId) (s : State) : State :=
  let c := s.barrierCfg b
  match (s.barrier b).mode with
  | .closing =>
    if s.limitSet c.closedLimit then barrierGo b .closed ((stopTravel b s).modBarrier b fun t => { t with reversals := 0 }) else s
  | .opening =>
    if s.limitSet c.openLimit then
      let s1 := barrierGo b .opened (stopTravel b s)
      if s.stc.hold = .running then barrierEval b s1 else s1
    else s
  | .reversing => if s.limitSet c.openLimit then reversalEnd b s else s
  | _ => s

/-- The fault state of a fault cause (Table 9-4). -/
def faultStateOf (cause : Nat) : BarrierMode :=
  if cause = 2 then .faultObstructed else if cause = 3 ∨ cause = 4 then .faultLimits else .faultTravel

/-- Re-derivation of a barrier whose limits are both GOOD, less the aspect (Table 9-6). A limit whose value is neither 0 nor 1
counts as not SET (log entry 76). The reversal count and the head fault flag are kept (log entry 94). -/
def barrierDerive (b : BarrierId) (s : State) : State :=
  let c := s.barrierCfg b
  let isOpen := s.limitSet c.openLimit
  let isClosed := s.limitSet c.closedLimit
  if (s.barrier b).fault ≠ 0 then barrierGo b (faultStateOf (s.barrier b).fault) s
  else if isOpen && isClosed then barrierFaultEnter b .faultLimits 3 s
  else if isOpen then
    barrierGo b .opened (commandPoint c.drive driveStop (s.modBarrier b fun t => { t with postDeferred := false }))
  else if isClosed then
    barrierGo b .closed (commandPoint c.drive driveStop (s.modBarrier b fun t => { t with postDeferred := false }))
  else if s.closureDemand b then toClearing b s
  else barrierPostStay b 2 (barrierGo b .queuedOpen s)

/-- Whether both limits of a barrier are GOOD (Table 9-6 note 2). -/
def State.limitsGood (s : State) (b : BarrierId) : Bool :=
  s.isGood (s.barrierCfg b).openLimit && s.isGood (s.barrierCfg b).closedLimit

/-- Re-derivation of a barrier, with its aspect commanded (R164). A record with a fault cause whose limits are not both GOOD is left
as it is (log entry 65). -/
def barrierRederive (b : BarrierId) (s : State) : State :=
  if s.limitsGood b then aspectJudge true b (barrierDerive b s) else s

/-- Re-derivation of an UNKNOWN barrier, in HELD too (log entry 97), and its evaluation in RUNNING (R164). -/
def barrierRederiveUnknown (b : BarrierId) (s : State) : State :=
  if (s.barrier b).mode = .unknown then
    let s1 := barrierRederive b s
    match (s1.barrier b).mode with
    | .opened | .closed | .clearing => if s.stc.hold = .running then barrierEval b s1 else s1
    | _ => s1
  else s

/-- Both limits SET (R156, in every hold state). -/
def bothLimits (b : BarrierId) (s : State) : Bool :=
  s.limitSet (s.barrierCfg b).openLimit && s.limitSet (s.barrierCfg b).closedLimit

/-- LIMIT_LOST after a point event that the barrier takes (R156). -/
def limitLost (b : BarrierId) (s : State) : Bool :=
  let c := s.barrierCfg b
  s.notHeld && match (s.barrier b).mode with
    | .opened | .warning | .clearing => s.limitUnset c.openLimit
    | .closed => s.limitUnset c.closedLimit
    | _ => false

/-- Whether a barrier names a point as a limit. -/
def BarrierCfg.limitPoint (c : BarrierCfg) (p : PointId) : Bool := c.openLimit == some p || c.closedLimit == some p

/-- Whether a barrier names a point as a presence point. -/
def BarrierCfg.presencePoint (c : BarrierCfg) (p : PointId) : Bool := c.presence1 == some p || c.presence2 == some p

/-- What a point event does by the presence points of a barrier (R151, R154, R163): a presence change to OCCUPIED, or, at any
event, the start of the clearance timer of a barrier found CLEAR (log entry 30). In HELD too a presence change to OCCUPIED in CLEARING
stops the paused clearance timer and clears POST_DEFERRED, which is the model's choice (log entry 92). -/
def barrierPresence (b : BarrierId) (ev : PointEvent) (s : State) : State :=
  let toOccupied := (s.barrierCfg b).presencePoint ev.point && !occupiedBy ev.oldRaw ev.oldQuality && s.occupied (some ev.point)
  match (s.barrier b).mode with
  | .clearing =>
    if toOccupied then s.modBarrier b fun t => { t with clearTimer := .stopped, postDeferred := false }
    else if s.barrierClear b && (s.barrier b).clearTimer == .stopped then
      s.modBarrier b fun t => { t with clearTimer := s.clearanceTimer b }
    else s
  | .queuedClose => if toOccupied && s.notHeld then toClearingStopped b (withdraw (.barrier b) s) else s
  | .closing => if toOccupied then barrierMove b .reversing driveOpen s else s
  | _ => s

/-- What the GSQ does with a point event for one barrier: the faults of R156 first, then the presence, then the end of a
movement (R49, R151, R153, R156, R164; log entries 29 and 47). -/
def barrierPointEvent (b : BarrierId) (ev : PointEvent) (s : State) : State :=
  let c := s.barrierCfg b
  if c.enable && (c.limitPoint ev.point || c.presencePoint ev.point) then
    match (s.barrier b).mode with
    | .disabled => s
    | .unknown => if c.limitPoint ev.point then barrierRederiveUnknown b s else s
    | _ =>
      if bothLimits b s then barrierFault b .faultLimits 3 s
      else if limitLost b s then barrierFault b .faultLimits 4 s
      else
        let s1 := barrierPresence b ev s
        if c.limitPoint ev.point then movementEnd b s1 else s1
  else s

/-- A command outcome for a barrier's drive point (R156). -/
def barrierOutcome (b : BarrierId) (failed : Bool) (commanded confirmed : Word) (s : State) : State :=
  if failed || !(commanded == confirmed) then barrierFault b .faultTravel 5 s else s

/-- A command outcome for a barrier's signal head point (R157). -/
def headOutcome (b : BarrierId) (failed : Bool) (commanded confirmed : Word) (s : State) : State :=
  if failed || !(commanded == confirmed) then
    raiseNotice 14 [word (b.val + 1), 6, word (s.barrier b).mode.code] (s.modBarrier b fun t => { t with headFault := true })
  else s.modBarrier b fun t => { t with headFault := false }

/-- Entry into QUENCHED for one barrier (R164). The head fault flag is kept (log entry 93). -/
def barrierQuench (b : BarrierId) (s : State) : State :=
  if (s.barrier b).mode = .disabled then s
  else barrierGo b .unknown (s.modBarrier b fun t =>
    { t with warnTimer := .stopped, clearTimer := .stopped, travelTimer := .stopped, postDeferred := false, reversals := 0 })

/-- States that a leaving of HELD re-derives (R164). -/
def BarrierMode.standing : BarrierMode → Bool
  | .opened | .warning | .clearing | .queuedClose | .closed | .queuedOpen => true
  | _ => false

/-- The timers of a barrier at an entry into HELD (R163). -/
def barrierHold (b : BarrierId) (s : State) : State :=
  s.modBarrier b fun t => { t with warnTimer := t.warnTimer.pause s.now, clearTimer := t.clearTimer.pause s.now }

/-! ## The backflow gate -/

/-- The completion data held for a sump. -/
def dataFor (d : Option (List SumpData)) (k : SumpId) : Option SumpData :=
  match d with
  | some l => l.find? (fun x => x.sump == k)
  | none => none

/-- The outfall level: the raw value of the outfall point while it is GOOD (R160). -/
def State.outfall (s : State) : Option Int :=
  match s.cfg.gate.outfall with
  | some p => if (s.point p).quality = .good then some (s.point p).raw.toInt else none
  | none => none

/-- An OPEN entry stands for the gate's drive point (R160). -/
def State.gateOpenEntry (s : State) : Bool := s.overrideIs s.cfg.gate.drive driveOpen

/-- The close test of the gate by its levels (R160). -/
def State.closeLevels (s : State) : Bool :=
  match s.outfall, dataFor s.gsq.data s.cfg.gate.linkedSump with
  | some o, some d => decide ((d.filtered : Int) + s.cfg.gate.margin ≤ o)
  | _, _ => true

/-- The open test of the gate by its levels (R160). -/
def State.openLevels (s : State) : Bool :=
  match s.outfall, dataFor s.gsq.data s.cfg.gate.linkedSump with
  | some o, some d => decide (o ≤ (d.filtered : Int) - s.cfg.gate.margin)
  | _, _ => false

/-- The close test (R160); an entry for the drive point replaces the tests. -/
def State.closeTest (s : State) : Bool :=
  if (s.override s.cfg.gate.drive).isSome then s.overrideIs s.cfg.gate.drive driveClose else s.closeLevels

/-- The open test (R160). -/
def State.openTest (s : State) : Bool :=
  if (s.override s.cfg.gate.drive).isSome then s.gateOpenEntry else s.openLevels

/-- The report that the gate has left CLOSED: every sump whose gate link is the gate becomes SUSPECT at once (R78). -/
def gateLeftClosed (s : State) : State :=
  fourIds.foldl (fun s k =>
    if (Tab.get s.cfg.sumps k).gateLink then
      s.modSau fun a => { a with sumps := Tab.put a.sumps k { Tab.get a.sumps k with inflowGood := false } }
    else s) s

/-- A change of the gate's state with its reports (R158). -/
def gateGo (mode : GateMode) (s : State) : State :=
  let s1 := reportMotor 4 (if mode.moves then s.cfg.gate.motorKw else 0) (s.modGate fun g => { g with mode := mode })
  gsqReadiness (if s.gsq.gate.mode = .closed ∧ mode ≠ .closed then gateLeftClosed s1 else s1)

/-- The post of the gate (R160). -/
def gatePost (cls : Nat) (s : State) : State × Bool :=
  post .gate cls s.cfg.gate.motorKw s.cfg.supply.motorFactor 2 s

/-- A post of the gate that takes it to a queued state, or leaves it where it is with POST_DEFERRED set (R160). An accepted post stops
an open dwell timer that still runs, which is the model's choice (log entry 91). -/
def gatePostGo (cls : Nat) (mode : GateMode) (s : State) : State :=
  let r := gatePost cls s
  if r.2 then gateGo mode (r.1.modGate fun g => { g with postDeferred := false, dwellTimer := .stopped })
  else r.1.modGate fun g => { g with postDeferred := true }

/-- A post of the gate from the queued state it belongs to (Table 9-6 note 3; log entry 28). -/
def gatePostStay (cls : Nat) (s : State) : State :=
  if s.stc.hold = .held then s.modGate fun g => { g with postDeferred := true }
  else
    let r := gatePost cls s
    r.1.modGate fun g => { g with postDeferred := !r.2 }

/-- The gate starts or turns its movement (R160, R161). -/
def gateMove (mode : GateMode) (drive : Word) (s : State) : State :=
  gateGo mode ((commandPoint s.cfg.gate.drive drive s).modGate fun g =>
    { g with travelTimer := .start s.now (1000 * s.cfg.gate.travel) })

/-- The evaluation of an enabled gate (R160; log entry 31 for POST_DEFERRED). A CLOSED gate with POST_DEFERRED posts class 2 again
without a dwell while the open test holds, an OPEN entry removed meanwhile included (log entry 70). While the line is QUENCHED it
decides nothing (R111; log entry 79). -/
def gateEval (s : State) : State :=
  let c := s.cfg.gate
  let g := s.gsq.gate
  if !(c.enable && s.decides) then s
  else match g.mode with
    | .opened =>
      if s.closeTest then gatePostGo 0 .queuedClose s else s.modGate fun g => { g with postDeferred := false }
    | .queuedOpen =>
      if s.closeTest then
        if s.limitSet c.closedLimit then gateGo .closed ((withdraw .gate s).modGate fun g => { g with postDeferred := false })
        else gatePostGo 0 .queuedClose s
      else if g.postDeferred then gatePostStay 2 s
      else s
    | .opening => if s.closeTest then gateMove .closing driveClose s else s
    | .closed =>
      if s.gateOpenEntry then gatePostGo 2 .queuedOpen s
      else if s.openTest then
        if g.postDeferred then gatePostGo 2 .queuedOpen s
        else if g.dwellTimer = .stopped then s.modGate fun g => { g with dwellTimer := .start s.now (1000 * c.openDwell) }
        else s
      else s.modGate fun g => { g with dwellTimer := .stopped, postDeferred := false }
    | .queuedClose =>
      if s.gateOpenEntry then gateGo .queuedOpen (gatePostStay 2 s)
      else if g.postDeferred then gatePostStay 0 s
      else s
    | _ => s

/-- Entry of the gate into FAULT (R161, R156). -/
def gateFaultEnter (cause : Nat) (s : State) : State :=
  let left := s.gsq.gate.mode
  let s1 := withdraw .gate (s.modGate fun g =>
    { g with fault := cause, dwellTimer := .stopped, travelTimer := .stopped, postDeferred := false })
  let s2 := gateGo .fault (commandPoint s.cfg.gate.drive driveStop s1)
  raiseNotice 14 [0, word cause, word left.code] s2

/-- A fault of a gate not DISABLED, not UNKNOWN and not in FAULT (R161). -/
def gateFault (cause : Nat) (s : State) : State :=
  match s.gsq.gate.mode with
  | .disabled | .unknown | .fault => s
  | _ => gateFaultEnter cause s

/-- Takes a grant for the gate (R161). -/
def gateGrant (s : State) : State :=
  match s.gsq.gate.mode with
  | .queuedClose => gateMove .closing driveClose s
  | .queuedOpen => gateMove .opening driveOpen s
  | _ => s

/-- The drive to STOP and the gate's timers stopped at the end of a movement (R161). -/
def gateStopTravel (s : State) : State :=
  (commandPoint s.cfg.gate.drive driveStop s).modGate fun g => { g with travelTimer := .stopped, dwellTimer := .stopped }

/-- The end of the gate's movement at a limit (R161). -/
def gateMovementEnd (s : State) : State :=
  match s.gsq.gate.mode with
  | .closing => if s.limitSet s.cfg.gate.closedLimit then gateGo .closed (gateStopTravel s) else s
  | .opening => if s.limitSet s.cfg.gate.openLimit then gateGo .opened (gateStopTravel s) else s
  | _ => s

/-- Re-derivation of the gate with its limits both GOOD (Table 9-6; log entry 76 for a limit neither SET nor UNSET). -/
def gateDerive (s : State) : State :=
  let c := s.cfg.gate
  let isOpen := s.limitSet c.openLimit
  let isClosed := s.limitSet c.closedLimit
  if s.gsq.gate.fault ≠ 0 then gateGo .fault s
  else if isOpen && isClosed then gateFaultEnter 3 s
  else if isOpen then gateGo .opened (commandPoint c.drive driveStop (s.modGate fun g => { g with postDeferred := false }))
  else if isClosed then gateGo .closed (commandPoint c.drive driveStop (s.modGate fun g => { g with postDeferred := false }))
  else if s.closeTest then gatePostStay 0 (gateGo .queuedClose s)
  else gatePostStay 2 (gateGo .queuedOpen s)

def State.gateLimitsGood (s : State) : Bool := s.isGood s.cfg.gate.openLimit && s.isGood s.cfg.gate.closedLimit

/-- Re-derivation of the gate (R164; log entry 65 for a fault cause). -/
def gateRederive (s : State) : State := if s.gateLimitsGood then gateDerive s else s

/-- Re-derivation of an UNKNOWN gate, in HELD too (log entry 97), and its evaluation in RUNNING (R164). -/
def gateRederiveUnknown (s : State) : State :=
  if s.gsq.gate.mode = .unknown then
    let s1 := gateRederive s
    match s1.gsq.gate.mode with
    | .opened | .closed => if s.stc.hold = .running then gateEval s1 else s1
    | _ => s1
  else s

/-- LIMIT_LOST of the gate after a point event that it takes (R161). -/
def gateLimitLost (s : State) : Bool :=
  let c := s.cfg.gate
  s.notHeld && match s.gsq.gate.mode with
    | .opened => s.limitUnset c.openLimit
    | .closed => s.limitUnset c.closedLimit
    | _ => false

/-- Whether the gate names a point as a limit. -/
def GateCfg.limitPoint (c : GateCfg) (p : PointId) : Bool := c.openLimit == some p || c.closedLimit == some p

/-- What the GSQ does with a point event for the gate (R49, R161, R164; log entries 29 and 47). -/
def gatePointEvent (ev : PointEvent) (s : State) : State :=
  let c := s.cfg.gate
  if c.enable && (c.limitPoint ev.point || c.outfall == some ev.point) then
    match s.gsq.gate.mode with
    | .disabled => s
    | .unknown => if c.limitPoint ev.point then gateRederiveUnknown s else s
    | _ =>
      if s.limitSet c.openLimit && s.limitSet c.closedLimit then gateFault 3 s
      else if gateLimitLost s then gateFault 4 s
      else if c.limitPoint ev.point then gateMovementEnd s
      else s
  else s

/-- A command outcome for the gate's drive point (R161). -/
def gateOutcome (failed : Bool) (commanded confirmed : Word) (s : State) : State :=
  if failed || !(commanded == confirmed) then gateFault 5 s else s

/-- Entry into QUENCHED for the gate (R164). -/
def gateQuench (s : State) : State :=
  if s.gsq.gate.mode = .disabled then s
  else gateGo .unknown (s.modGate fun g => { g with dwellTimer := .stopped, travelTimer := .stopped, postDeferred := false })

/-! ## Hold and quench for the whole of the GSQ -/

/-- Entry into QUENCHED for the GSQ (R164). -/
def gsqQuench (s : State) : State := gateQuench (fourIds.foldl (fun s b => barrierQuench b s) s)

/-- Entry into HELD for the GSQ (R163). -/
def gsqHold (s : State) : State :=
  (fourIds.foldl (fun s b => barrierHold b s) s).modGate fun g => { g with dwellTimer := g.dwellTimer.pause s.now }

end Sys2Proof.Machine
end

