-- ==== Sys2Proof/Machine/Pumps.lean ====
section
/-! DEFINITION. Pump records (chapter 8): states, starting, stopping, settling, faults, shed orders, re-derivation, and what
the Pump Scheduler does with point events and command outcomes. Demand and evaluation stand in Machine/Duty.lean. -/

namespace Sys2Proof.Machine

def State.pump (s : State) (p : PumpId) : PumpState := Tab.get s.psc.pumps p
def State.pumpCfg (s : State) (p : PumpId) : PumpCfg := Tab.get s.cfg.pumps p

def State.modPump (s : State) (p : PumpId) (f : PumpState → PumpState) : State :=
  s.modPsc fun c => { c with pumps := Tab.put c.pumps p (f (Tab.get c.pumps p)) }

/-- The PSC reports to the STC when no pump record is UNKNOWN (R93, R144; log entry 34). -/
def pscReadiness (s : State) : State :=
  if pumpIds.all (fun p => !((s.pump p).mode == .unknown)) then s.modStc fun c => { c with pscReady := true } else s

/-- The pump record on a change of state: the run time counts while the pump is RUNNING (R136). -/
def PumpState.goto (now : Nat) (mode : PumpMode) (t : PumpState) : PumpState :=
  { t with
    mode := mode
    runMs := if t.mode = .running ∧ mode ≠ .running then t.runMs + (now - t.runningSince.getD now) else t.runMs
    runningSince := if mode = .running then (if t.mode = .running then t.runningSince else some now) else none }

/-- A change of a pump's state, with the reports it makes to the LAU and the STC (R118, R125, R144). -/
def pumpGo (p : PumpId) (mode : PumpMode) (s : State) : State :=
  pscReadiness (reportPump p mode (s.modPump p (PumpState.goto s.now mode)))

/-- The pumps enabled for a sump, in ascending number. -/
def State.pumpsOf (s : State) (k : SumpId) : List PumpId :=
  pumpIds.filter fun p => (s.pumpCfg p).enable && (s.pumpCfg p).sump == k

/-- How many pumps of a sump are in one of the given states. -/
def State.countPumps (s : State) (k : SumpId) (f : PumpMode → Bool) : Nat :=
  ((s.pumpsOf k).filter fun p => f (s.pump p).mode).length

/-- States that count against the run limit for posting (R133). -/
def PumpMode.claims : PumpMode → Bool
  | .queued | .starting | .running | .stopping => true
  | _ => false

/-- States of the ACTIVE count (R133). -/
def PumpMode.active : PumpMode → Bool
  | .queued | .starting | .running => true
  | _ => false

/-- A new start sequence number for a pump (8.1.3). -/
def numberStart (p : PumpId) (s : State) : State :=
  (s.modPsc fun c => { c with startSeq := c.startSeq + 1 }).modPump p fun t => { t with sequence := s.psc.startSeq + 1 }

/-- Whether less than the minimum off time has passed since the last stop (R138). -/
def State.offTimeRuns (s : State) (p : PumpId) : Bool :=
  match (s.pump p).lastStop with
  | some t => decide (s.now - t < 1000 * (s.pumpCfg p).minimumOff)
  | none => false

/-- Whether the start limit of the hour window is reached (R138). -/
def State.startLimit (s : State) (p : PumpId) : Bool :=
  (s.pump p).hourWindow.isRunning && decide ((s.pumpCfg p).startsPerHour ≤ (s.pump p).startsInWindow)

/-- Settles a stopped pump: RESTING while its minimum off time or its start limit stands, otherwise IDLE (R138). -/
def pumpSettle (p : PumpId) (s : State) : State :=
  let off : Timer := match (s.pump p).lastStop with
    | some t => if s.offTimeRuns p then .running (t + 1000 * (s.pumpCfg p).minimumOff) else .stopped
    | none => .stopped
  if s.offTimeRuns p || s.startLimit p then
    pumpGo p .resting (s.modPump p fun t => { t with offTimer := off })
  else pumpGo p .idle (s.modPump p fun t => { t with offTimer := .stopped })

/-- Takes a grant for a pump (R135); a grant for a pump not QUEUED is disregarded. -/
def pumpGrant (p : PumpId) (s : State) : State :=
  if (s.pump p).mode = .queued then
    pumpGo p .starting (commandPoint (s.pumpCfg p).runPoint 1 ((numberStart p s).modPump p fun t =>
      { t with
        startTimer := .start s.now (1000 * (s.pumpCfg p).startConfirm)
        startCount := min 4294967295 (t.startCount + 1)
        startsInWindow := t.startsInWindow + 1
        hourWindow := if t.hourWindow.isRunning then t.hourWindow else .start s.now 3600000 }))
  else s

/-- Stops a pump in STARTING or RUNNING with a stop reason (R137). -/
def pumpStop (p : PumpId) (reason : StopReason) (s : State) : State :=
  if (s.pump p).mode = .starting ∨ (s.pump p).mode = .running then
    pumpGo p .stopping (commandPoint (s.pumpCfg p).runPoint 0 (s.modPump p fun t =>
      { t with stopReason := reason, startTimer := .stopped
               stopTimer := .start s.now (1000 * (s.pumpCfg p).stopConfirm) }))
  else s

/-- Moves a pump to the tail of its duty list (R131). -/
def dutyToTail (k : SumpId) (p : PumpId) (s : State) : State :=
  s.modPsc fun c => { c with duty := Tab.put c.duty k ((Tab.get c.duty k).filter (fun q => !(q == p)) ++ [p]) }

/-- Takes a pump out of a duty list (R131). -/
def dutyLeave (k : SumpId) (p : PumpId) (s : State) : State :=
  s.modPsc fun c => { c with duty := Tab.put c.duty k ((Tab.get c.duty k).filter (fun q => !(q == p))) }

/-- The confirmed stop of a pump in STOPPING (R137, R131). The leaving of STOPPING is reported by the settling. -/
def pumpStopped (p : PumpId) (s : State) : State :=
  let s1 := s.modPump p fun t => { t with stopTimer := .stopped, lastStop := some s.now }
  pumpSettle p (if (s.pump p).stopReason = .normal then dutyToTail (s.pumpCfg p).sump p s1 else s1)

/-- The entry of a pump into FAULTED, with everything R140 gives for it; a QUEUED pump is withdrawn in HELD too (log entry 63). -/
def pumpFault (p : PumpId) (cause : Nat) (s : State) : State :=
  let left := (s.pump p).mode
  let s1 := s.modPump p fun t =>
    { t with fault := cause, stopReason := .fault, startTimer := .stopped, stopTimer := .stopped, offTimer := .stopped }
  let s2 := pumpGo p .faulted (withdraw (.pump p) s1)
  let s3 := raiseNotice 13 [word (p.val + 1), word cause, word left.code] s2
  if s.stc.hold = .held then s3 else commandPoint (s.pumpCfg p).runPoint 0 s3

/-- The judgement of run feedback in STARTING and STOPPING (R136, R137). -/
def pumpConfirm (p : PumpId) (s : State) : State :=
  match (s.pump p).mode with
  | .starting =>
    if s.goodAt (s.pumpCfg p).runFeedback 1 then
      pumpGo p .running (s.modPump p fun t => { t with startTimer := .stopped })
    else s
  | .stopping => if s.goodAt (s.pumpCfg p).runFeedback 0 then pumpStopped p s else s
  | _ => s

/-- Re-derives a pump with run feedback 1 within or beyond the run limit of its sump (R144, R145). The minimum off timer of a
RESTING pump found running stops (log entry 86), its stop reason is kept (log entry 94), and beyond the limit it faults as R140
gives (log entry 95). -/
def pumpFoundRunning (p : PumpId) (s : State) : State :=
  let k := (s.pumpCfg p).sump
  if s.countPumps k PumpMode.claims < (Tab.get s.cfg.pumping k).runLimit then
    pumpGo p .running ((numberStart p s).modPump p fun t => { t with offTimer := .stopped })
  else pumpFault p 7 s

/-- Re-derives an UNKNOWN pump whose run feedback is GOOD (R144), in HELD too (log entry 97); a value other than 1 counts as 0 (log
entry 76). The stop reason is kept but for a pump that becomes FAULTED (log entries 94 and 95). -/
def pumpRederive (p : PumpId) (s : State) : State :=
  let c := s.pumpCfg p
  if (s.pump p).mode = .unknown ∧ s.isGood c.runFeedback then
    if (s.pump p).fault ≠ 0 ∨ s.goodAt c.faultFeedback 1 then
      let s1 := if (s.pump p).fault = 0 then
          raiseNotice 13 [word (p.val + 1), 1, word PumpMode.unknown.code] (s.modPump p fun t => { t with fault := 1 })
        else s
      let s2 := pumpGo p .faulted (s1.modPump p fun t => { t with stopReason := .fault })
      if s.goodAt c.runFeedback 1 ∧ s.stc.hold ≠ .held then commandPoint c.runPoint 0 s2 else s2
    else if s.goodAt c.runFeedback 1 then pumpFoundRunning p s
    else pumpGo p .idle s
  else s

/-- A point event of a pump's run feedback point (R136, R137, R140, R144). -/
def pumpFeedbackEvent (p : PumpId) (ev : PointEvent) (s : State) : State :=
  let c := s.pumpCfg p
  let toOne := ev.valueChanged && s.goodAt c.runFeedback 1
  let toZero := ev.valueChanged && s.goodAt c.runFeedback 0
  match (s.pump p).mode with
  | .disabled => s
  | .unknown => pumpRederive p s
  | .starting | .stopping => pumpConfirm p s
  | .idle | .queued | .resting => if toOne && s.notHeld then pumpFault p 5 s else s
  | .running => if toZero && s.notHeld then pumpFault p 6 s else s
  | .faulted => if toOne && s.notHeld then commandPoint c.runPoint 0 s else s

/-- A point event of a pump's fault feedback point (R140). An UNKNOWN pump faults with PUMP_FAULT before its re-derivation (log entry
71); a FAULTED pump keeps its cause and gets no command (log entry 73). -/
def pumpFaultEvent (p : PumpId) (ev : PointEvent) (s : State) : State :=
  match (s.pump p).mode with
  | .disabled | .faulted => s
  | _ => if ev.valueChanged && s.goodAt (s.pumpCfg p).faultFeedback 1 then pumpFault p 1 s else s

/-- What the PSC does with a point event for one pump (R49). -/
def pumpPointEvent (p : PumpId) (ev : PointEvent) (s : State) : State :=
  let c := s.pumpCfg p
  if !c.enable then s
  else if c.runFeedback = some ev.point then pumpFeedbackEvent p ev s
  else if c.faultFeedback = some ev.point then pumpFaultEvent p ev s
  else s

/-- A command outcome for a pump's run point (R139; log entry 71 for an UNKNOWN pump). -/
def pumpOutcome (p : PumpId) (failed : Bool) (commanded confirmed : Word) (s : State) : State :=
  match (s.pump p).mode with
  | .disabled | .faulted => s
  | _ => if failed || !(commanded == confirmed) then pumpFault p 4 s else pumpConfirm p s

/-- Takes a shed order for a pump (R142). -/
def pumpShed (p : PumpId) (s : State) : State :=
  match (s.pump p).mode with
  | .starting | .running => pumpStop p .shed s
  | .stopping => s
  | m => reportPump p m s

/-- Entry into QUENCHED for one pump (R144). The stop reason and the start sequence number, which R144 does not name, are kept,
which is the model's choice (log entry 93). -/
def pumpQuench (p : PumpId) (s : State) : State :=
  if (s.pump p).mode = .disabled then s
  else pumpGo p .unknown (s.modPump p fun t =>
    { t with postDeferred := false, startTimer := .stopped, stopTimer := .stopped, offTimer := .stopped })

/-- First pass of the re-derivation at a leaving of HELD (R145; log entry 25). Every FAULTED pump found running gets a stop
command (log entry 64). -/
def pumpHoldFirst (p : PumpId) (s : State) : State :=
  let c := s.pumpCfg p
  if (s.pump p).mode = .running ∧ s.goodAt c.runFeedback 0 then
    pumpGo p .resting (s.modPump p fun t =>
      { t with stopReason := .normal, lastStop := some s.now, offTimer := .start s.now (1000 * c.minimumOff) })
  else if (s.pump p).mode = .faulted ∧ s.goodAt c.runFeedback 1 then commandPoint c.runPoint 0 s
  else s

/-- Second pass of the re-derivation at a leaving of HELD (R145). -/
def pumpHoldSecond (p : PumpId) (s : State) : State :=
  match (s.pump p).mode with
  | .idle | .resting => if s.goodAt (s.pumpCfg p).runFeedback 1 then pumpFoundRunning p s else s
  | .unknown => pumpRederive p s
  | _ => s

/-- The run time of a pump in ms at the present (R136). -/
def State.runTime (s : State) (p : PumpId) : Nat :=
  (s.pump p).runMs + (match (s.pump p).runningSince with
    | some t => s.now - t
    | none => 0)

end Sys2Proof.Machine
end

