-- ==== Sys2Proof/Machine/Zones.lean ====
section
/-! DEFINITION. Lighting zones (chapter 10): loads and increments, curves and targets, ramping, shedding and restoration,
lamp and dimmer faults, re-derivation. -/

namespace Sys2Proof.Machine

def State.zone (s : State) (z : ZoneId) : ZoneState := Tab.get s.ltu.zones z
def State.zoneCfg (s : State) (z : ZoneId) : ZoneCfg := Tab.get s.cfg.zones z

def State.modZone (s : State) (z : ZoneId) (f : ZoneState → ZoneState) : State :=
  s.modLtu fun c => { c with zones := Tab.put c.zones z (f (Tab.get c.zones z)) }

/-! ## Loads -/

/-- The measured current of a zone, a negative raw value taken as 0 (R119, R173). -/
def State.measured (s : State) (z : ZoneId) : Nat :=
  match (s.zoneCfg z).current with
  | some p => (s.point p).raw.toInt.toNat
  | none => 0

/-- Whether the current point tells what the lamps draw: GOOD, a rated current, no lamp fault (R119, R174). -/
def State.currentTells (s : State) (z : ZoneId) : Bool :=
  s.isGood (s.zoneCfg z).current && decide (0 < (s.zoneCfg z).ratedCurrent) && !(s.zone z).lampFault

/-- ceiling(rated kW × level / 100). -/
def levelLoad (c : ZoneCfg) (level : Nat) : Nat := ceilDiv (c.ratedKw * level) 100

/-- The load of a zone less its reserve (R119). -/
def State.bareLoad (s : State) (z : ZoneId) : Nat :=
  let c := s.zoneCfg z
  match (s.zone z).mode with
  | .disabled => 0
  | .unknown => c.ratedKw
  | _ => if s.currentTells z then ceilDiv (c.ratedKw * s.measured z) c.ratedCurrent else levelLoad c (s.zone z).level

/-- The load of a zone (R119, R172). -/
def State.loadOf (s : State) (z : ZoneId) : Nat :=
  match (s.zone z).reserve with
  | some r => max (s.bareLoad z) (levelLoad (s.zoneCfg z) r)
  | none => s.bareLoad z

/-- The restoration increment of a zone, 0 outside SHED and RESTORE_QUEUED (R119, R175). -/
def State.increment (s : State) (z : ZoneId) : Nat :=
  let c := s.zoneCfg z
  match (s.zone z).mode with
  | .shed | .restoreQueued => levelLoad c (s.zone z).target - levelLoad c c.safety
  | _ => 0

/-- The zone's report of its load and increment to the LAU (R119). -/
def zoneReport (z : ZoneId) (s : State) : State := reportZoneLoad z (s.loadOf z) (s.increment z) s

/-! ## Curves and targets -/

/-- The breakpoints of a VALID curve, or none (R168). -/
def validCurve (v : Vector (Option Breakpoint) 8) : Option (List Breakpoint) :=
  match presentPrefix v with
  | some l => if 2 ≤ l.length ∧ chained (fun a b => decide (a.x < b.x)) l = true then some l else none
  | none => none

/-- The curve value at a luminance over the breakpoints of a VALID curve (R168). -/
def curveAt (x : Nat) : List Breakpoint → Nat
  | a :: b :: rest =>
    if x < a.x then a.y
    else if x < b.x then ((a.y : Int) + ((b.y : Int) - a.y) * ((x : Int) - a.x) / ((b.x : Int) - a.x)).toNat
    else curveAt x (b :: rest)
  | [a] => a.y
  | [] => 0

def State.zoneCurve (s : State) (z : ZoneId) : Option (List Breakpoint) :=
  validCurve (Tab.get s.cfg.curves (s.zoneCfg z).curve)

/-- The curve value of a zone as computed now (R169). Without a luminance point, or with one NEVER, it is 100 while the curve is INVALID
too (log entry 88). -/
def State.curveValueOf (s : State) (z : ZoneId) : Nat :=
  match (s.zoneCfg z).luminance with
  | none => 100
  | some p =>
    match (s.point p).quality, s.zoneCurve z with
    | .never, _ => 100
    | .good, some l => curveAt (s.point p).raw.toNat l
    | _, _ => (s.zone z).curveValue

/-- The target of a zone for a curve value (R169). -/
def State.targetOf (s : State) (z : ZoneId) (curve : Nat) : Nat :=
  let c := s.zoneCfg z
  max c.safety (match s.override c.dim with
    | some e => e.value.toNat
    | none => if s.stc.stage = .closed then c.safety else curve)

/-- Computes the curve value and the target of a zone (R169). -/
def zoneTarget (z : ZoneId) (s : State) : State :=
  s.modZone z fun t => { t with curveValue := s.curveValueOf z, target := s.targetOf z (s.curveValueOf z) }

/-- Releases a reserve that has served (R172). -/
def reserveCheck (z : ZoneId) (s : State) : State :=
  s.modZone z fun t =>
    match t.reserve with
    | some r => if t.mode ≠ .normal ∨ r ≤ t.level ∨ t.target < t.level then { t with reserve := none } else t
    | none => t

/-! ## Levels -/

/-- Requests the dim point to the commanded level (R170). -/
def dimRequest (z : ZoneId) (s : State) : State :=
  commandPoint (s.zoneCfg z).dim (BitVec.ofNat 16 (s.zone z).level) (s.modZone z fun t => { t with retry := 0 })

/-- Gives a zone a commanded level and commands it (R171, R174). -/
def commandLevel (z : ZoneId) (level : Nat) (s : State) : State := dimRequest z (s.modZone z fun t => { t with level := level })

/-- One ramp step of a level toward a target (R170). -/
def rampStep (step level target : Nat) : Nat :=
  if level ≤ target then (if target - level ≤ step then target else level + step)
  else if level - target ≤ step then target else level - step

/-- Ramps a zone in NORMAL (R170). -/
def zoneRamp (z : ZoneId) (s : State) : State :=
  let next := rampStep (s.zoneCfg z).ramp (s.zone z).level (s.zone z).target
  if next = (s.zone z).level then s else commandLevel z next s

/-- The restoration post of a zone in SHED (R171). -/
def restorationPost (z : ZoneId) (s : State) : State :=
  let inc := s.increment z
  if inc = 0 then zoneReport z (s.modZone z fun t => { t with mode := .normal, postDeferred := false })
  else
    let r := post (.zone z) 3 inc 100 0 s
    if r.2 then r.1.modZone z fun t => { t with mode := .restoreQueued, postDeferred := false }
    else r.1.modZone z fun t => { t with postDeferred := true }

/-- The update of a request in RESTORE_QUEUED (R171). -/
def restorationUpdate (z : ZoneId) (s : State) : State :=
  let inc := s.increment z
  if inc = 0 then (withdraw (.zone z) s).modZone z fun t => { t with mode := .normal }
  else match s.lau.entry (.zone z) with
    | some e => if e.runKw = inc then s else (post (.zone z) 3 inc 100 0 s).1
    | none => s

/-- The level found at a re-derivation (R174 step 1), before it is raised and capped. -/
def State.levelFound (s : State) (z : ZoneId) : Int :=
  let c := s.zoneCfg z
  if s.currentTells z then ((min 100 (ceilDiv (100 * s.measured z) c.ratedCurrent) : Nat) : Int)
  else match c.dim with
    | some p => if (s.point p).quality = .good then (s.point p).confirmed.toInt else (s.zone z).target
    | none => (s.zone z).target

/-- Re-derivation of one zone (R174). The fault flags, the fault counter, and POST_DEFERRED of a zone that becomes SHED, are kept
(log entry 94). -/
def zoneRederive (z : ZoneId) (s : State) : State :=
  let c := s.zoneCfg z
  let found : Nat := (min 100 (max (c.safety : Int) (s.levelFound z))).toNat
  let s1 := s.modZone z fun t => { t with reserve := none }
  zoneReport z (
    if s.lau.shedDemand then commandLevel z c.safety (s1.modZone z fun t => { t with mode := .shed })
    else commandLevel z found (s1.modZone z fun t => { t with mode := .normal, postDeferred := false }))

/-! ## Lamp and dimmer faults -/

/-- The expected current of a zone (R173). -/
def State.expected (s : State) (z : ZoneId) : Nat := (s.zoneCfg z).ratedCurrent * (s.zone z).level / 100

/-- Whether the lamps of a zone are judged now (R173). -/
def State.lampJudged (s : State) (z : ZoneId) : Bool :=
  let c := s.zoneCfg z
  (match (s.zone z).mode with
    | .normal | .shed | .restoreQueued => true
    | _ => false) && s.isGood c.current && decide (0 < c.ratedCurrent) &&
  (match c.dim with
    | some p => (s.point p).command == .confirmed
    | none => false)

/-- The evaluation is OUT (R173). -/
def State.lampOut (s : State) (z : ZoneId) : Bool :=
  let c := s.zoneCfg z
  decide (c.tolerance * c.ratedCurrent / 100 < (s.measured z - s.expected z) + (s.expected z - s.measured z))

/-- The judgement of the lamps (R173). -/
def lampJudge (z : ZoneId) (s : State) : State :=
  if !s.lampJudged z then s
  else
    let out := s.lampOut z
    let t := s.zone z
    if out == t.lampFault then s.modZone z fun t => { t with faultCounter := 0 }
    else if t.faultCounter < 2 then s.modZone z fun t => { t with faultCounter := t.faultCounter + 1 }
    else
      let s1 := s.modZone z fun t => { t with lampFault := out, faultCounter := 0 }
      if out then raiseNotice 15 [word (z.val + 1), 1, word (s.measured z), word (s.expected z)] s1
      else raiseNotice 16 [word (z.val + 1), word (s.measured z), word (s.expected z)] s1

/-- The retry of a dim point whose command has failed (R170): before is the level before the evaluation. -/
def dimmerRetry (z : ZoneId) (before : Nat) (s : State) : State :=
  let t := s.zone z
  if t.dimmerFault && t.level == before then
    if 9 ≤ t.retry then dimRequest z s else s.modZone z fun t => { t with retry := t.retry + 1 }
  else s

/-- A command outcome for a dim point (R170). -/
def zoneOutcome (z : ZoneId) (failed : Bool) (confirmed : Word) (s : State) : State :=
  let t := s.zone z
  if failed || !(confirmed == BitVec.ofNat 16 t.level) then
    let s1 := s.modZone z fun t => { t with dimmerFault := true }
    if t.dimmerFault then s1 else raiseNotice 15 [word (z.val + 1), 2, word t.level, confirmed] s1
  else s.modZone z fun t => { t with dimmerFault := false, retry := 0 }

/-! ## Evaluation -/

/-- What an evaluation does by the zone's state (R170, R171, R174). While the line is QUENCHED it decides nothing (R111; log entry
79), and a zone keeps its retry counter (log entry 77). -/
def zoneAct (z : ZoneId) (s : State) : State :=
  if s.decides then
    match (s.zone z).mode with
    | .disabled => s
    | .unknown => zoneRederive z s
    | .normal => dimmerRetry z (s.zone z).level (zoneRamp z s)
    | .shed => dimmerRetry z (s.zone z).level (if s.lau.shedDemand then s else restorationPost z s)
    | .restoreQueued => dimmerRetry z (s.zone z).level (restorationUpdate z s)
  else s

/-- The evaluation of one zone (R169); acting is false for the evaluations of HELD and STEPPING (R174). The lamps are judged after the
level has moved (log entry 35). -/
def zoneEval (acting : Bool) (z : ZoneId) (s : State) : State :=
  if (s.zone z).mode = .disabled then s
  else
    let s1 := reserveCheck z (zoneTarget z s)
    zoneReport z (reserveCheck z (if acting then lampJudge z (reserveCheck z (zoneAct z s1)) else s1))

/-- Takes shed demand for one zone, in every hold state (R171). -/
def zoneShed (z : ZoneId) (s : State) : State :=
  match (s.zone z).mode with
  | .normal =>
    zoneReport z (commandLevel z (s.zoneCfg z).safety (s.modZone z fun t => { t with mode := .shed, reserve := none }))
  | .restoreQueued => zoneReport z ((withdraw (.zone z) s).modZone z fun t => { t with mode := .shed })
  | _ => s

/-- Takes the end of shed demand for one zone (R171). -/
def zoneShedEnd (z : ZoneId) (s : State) : State :=
  if (s.zone z).mode = .shed ∧ s.stc.hold ≠ .held then restorationPost z s else s

/-- Takes a grant for a zone (R172). -/
def zoneGrant (z : ZoneId) (s : State) : State :=
  if (s.zone z).mode = .restoreQueued then
    zoneReport z (s.modZone z fun t => { t with mode := .normal, reserve := some t.target })
  else s

/-- Entry into QUENCHED for one zone (R174; R170 for the retry counter). The commanded level, target and curve value are kept (log
entry 93). -/
def zoneQuench (z : ZoneId) (s : State) : State :=
  if (s.zone z).mode = .disabled then s
  else zoneReport z (s.modZone z fun t =>
    { t with mode := .unknown, postDeferred := false, reserve := none, faultCounter := 0, retry := 0 })

/-- The re-derivation signal of UNQUENCH for one zone (R174). -/
def zoneUnquench (z : ZoneId) (s : State) : State :=
  if (s.zone z).mode = .unknown ∧ s.stc.hold ≠ .held then zoneRederive z s else s

def ltuQuench (s : State) : State := zoneIds.foldl (fun s z => zoneQuench z s) s

end Sys2Proof.Machine
end

