-- ==== Sys2Proof/Machine/Allowance.lean ====
section
/-! DEFINITION. The judgements of the Load Allowance Unit: grants (R122, R123), shed demand (R124), shed orders (R125) and
the end of shedding (R126), taken in that order, round after round, until none of them acts (log entry 17). -/

namespace Sys2Proof.Machine

/-- Delivers a grant to the JOB of a device (R122). -/
def deliverGrant (d : Device) (s : State) : State :=
  match d with
  | .pump p => pumpGrant p s
  | .barrier b => barrierGrant b s
  | .gate => gateGrant s
  | .zone z => zoneGrant z s

/-- Grants the head of the Start Queue (R122, R123). -/
def grantHead (r : Request) (rest : List Request) (s : State) : State :=
  deliverGrant r.device (s.modLau fun l =>
    { l with queue := rest
             window := if r.extra = 0 then l.window
               else some { device := r.device, extra := r.extra, timer := .start s.now (1000 * r.inrush) } })

/-- Sets shed demand, which the LTU takes at once and whole (R124, R171; log entry 17). -/
def shedBegin (s : State) : State :=
  let cause := if s.blockedHead then 1 else 2
  let s1 := raiseNotice 11 [word cause, word s.lau.committed, word s.allowance]
    (s.modLau fun l => { l with shedDemand := true, shedTaken := false })
  (zoneIds.foldl (fun s z => zoneShed z s) s1).modLau fun l => { l with shedTaken := true }

/-- Issues a shed order to the PSC (R125, R142). -/
def shedIssue (p : PumpId) (s : State) : State := pumpShed p (s.modLau fun l => { l with shedOrder := some p })

/-- Clears shed demand, whose end the LTU takes (R126). -/
def shedEnd (s : State) : State :=
  zoneIds.foldl (fun s z => zoneShedEnd z s)
    (raiseNotice 12 [word s.lau.committed, word s.allowance]
      (s.modLau fun l => { l with shedDemand := false, shedTaken := false }))

/-- The first judgement that acts, or none. Each event that makes one of the four due makes all of them due: the shed order of R125 is
judged at a post, at a withdrawal and at a leaving of HELD too, and the end of shedding of R126 at an accepted post, events that those
rules do not list (log entries 17 and 18). -/
def lauRound (s : State) : Option State :=
  match s.lau.queue with
  | r :: rest => if s.grantable r then some (grantHead r rest s) else lauShed s
  | [] => lauShed s
where
  /-- The judgements of R124, R125 and R126. -/
  lauShed (s : State) : Option State :=
    if !s.lau.shedDemand && (s.blockedHead || s.overload) then some (shedBegin s)
    else match s.shedChoice with
      | some p => some (shedIssue p s)
      | none => if s.shedOver then some (shedEnd s) else none

/-- Rounds of judgements, at most as many as given. -/
def lauLoop : Nat → State → State
  | 0, s => s
  | n + 1, s =>
    match lauRound s with
    | some s' => lauLoop n s'
    | none => s

/-- Takes the judgements that are due (log entry 17). -/
def lauSettle (s : State) : State :=
  if s.lau.judgeDue then (lauLoop 64 s).modLau fun l => { l with judgeDue := false } else s

/-- Lets each device of a list act in turn, the LAU judging after each (log entry 17). -/
def eachDevice {α : Type} (ids : List α) (f : α → State → State) (s : State) : State :=
  ids.foldl (fun s i => lauSettle (f i s)) s

/-- The evaluation of every enabled barrier in ascending number, and then of the gate (R150). -/
def gsqEvaluate (s : State) : State := lauSettle (gateEval (eachDevice fourIds barrierEval s))

/-- The re-derivation signal of UNQUENCH to the GSQ (R164). -/
def gsqUnquench (s : State) : State := lauSettle (gateRederiveUnknown (eachDevice fourIds barrierRederiveUnknown s))

/-- The re-derivation signal of UNQUENCH to the LTU (R174). -/
def ltuUnquench (s : State) : State := eachDevice zoneIds zoneUnquench s

/-- The re-derivation of a barrier at a leaving of HELD, the LAU judging the withdrawal first (R121, R164; log entry 48 where its
limits are not both GOOD). -/
def barrierHoldLeave (b : BarrierId) (s : State) : State :=
  if (s.barrier b).mode.standing then
    if s.limitsGood b then
      barrierRederive b (lauSettle
        ((withdraw (.barrier b) s).modBarrier b fun t => { t with warnTimer := .stopped, clearTimer := .stopped }))
    else s.modBarrier b fun t => { t with warnTimer := t.warnTimer.resume s.now, clearTimer := t.clearTimer.resume s.now }
  else s

/-- The re-derivation of the gate at a leaving of HELD, the LAU judging the withdrawal first (R121, R164; log entry 48). -/
def gateHoldLeave (s : State) : State :=
  match s.gsq.gate.mode with
  | .opened | .queuedClose | .closed | .queuedOpen =>
    if s.gateLimitsGood then
      gateRederive (lauSettle ((withdraw .gate s).modGate fun g => { g with dwellTimer := .stopped }))
    else s.modGate fun g => { g with dwellTimer := g.dwellTimer.resume s.now }
  | _ => s

/-- The re-derivation of a zone at a leaving of HELD, in every line state, the LAU judging the withdrawal first (R121, R174). -/
def zoneHoldLeave (z : ZoneId) (s : State) : State :=
  if (s.zone z).mode = .disabled then s
  else zoneRederive z (lauSettle (withdraw (.zone z) s))

/-- The re-derivation signal of a leaving of HELD to the GSQ (R164). -/
def gsqHoldLeave (s : State) : State := lauSettle (gateHoldLeave (eachDevice fourIds barrierHoldLeave s))

/-- The re-derivation signal of a leaving of HELD to the LTU (R174). -/
def ltuHoldLeave (s : State) : State := eachDevice zoneIds zoneHoldLeave s

/-- What the GSQ does with a point event: barriers in ascending number, then the gate (R49; log entry 15). -/
def gsqPointEvent (ev : PointEvent) (s : State) : State :=
  lauSettle (gatePointEvent ev (eachDevice fourIds (fun b => barrierPointEvent b ev) s))

/-- What the PSC does with a point event: pumps in ascending number (R49; log entry 15). -/
def pscPointEvent (ev : PointEvent) (s : State) : State := eachDevice pumpIds (fun p => pumpPointEvent p ev) s

/-- The evaluation of every zone in ascending number (R169). -/
def ltuEvaluate (acting : Bool) (s : State) : State := eachDevice zoneIds (zoneEval acting) s

end Sys2Proof.Machine
end

