-- ==== Sys2Proof/Machine/Duty.lean ====
section
/-! DEFINITION. Demand and duty (sections 8.2 and 8.3): the staging step, the DEMAND of a sump, selection, reduction and
posting, and the evaluation of the Pump Scheduler. -/

namespace Sys2Proof.Machine

def State.pumpingCfg (s : State) (k : SumpId) : PumpingCfg := Tab.get s.cfg.pumping k
def State.dutyList (s : State) (k : SumpId) : List PumpId := Tab.get s.psc.duty k

/-- The staging step after a completion at filtered level l (R132). -/
def stagingStep (c : PumpingCfg) (n : Option Nat) (l : Nat) : Nat :=
  match n with
  | none => (c.configured.filter fun x => decide (x ≤ l)).length
  | some n =>
    if n < c.configured.length ∧ c.start.getD n 0 ≤ l then n + 1
    else if 0 < n ∧ l ≤ c.stop.getD (n - 1) 0 then n - 1
    else n

/-- Stores completion data and steps the staging steps (R132). A sump without data is not CONFIGURED and has step 0. -/
def pscData (d : List SumpData) (s : State) : State :=
  s.modPsc fun c =>
    { c with
      data := some d
      step := fourIds.foldl (fun v k =>
        Tab.put v k (match dataFor (some d) k with
          | some x => some (stagingStep (Tab.get s.cfg.pumping k) (Tab.get c.step k) x.filtered)
          | none => some 0)) c.step }

/-- A pump's run point has an Override Table entry of a value. -/
def State.pumpEntry (s : State) (p : PumpId) (v : Word) : Bool := s.overrideIs (s.pumpCfg p).runPoint v

/-- A pump is AVAILABLE (R131). -/
def State.available (s : State) (p : PumpId) : Bool :=
  (match (s.pump p).mode with
    | .disabled | .unknown | .faulted => false
    | _ => true) && !s.pumpEntry p 0

/-- The LEAD PUMP of a sump (R131). -/
def State.leadPump (s : State) (k : SumpId) : Option PumpId := (s.dutyList k).find? fun p => s.available p

/-- The predictive demand of a sump (R132). -/
def State.predictive (s : State) (k : SumpId) : Nat :=
  match dataFor s.psc.data k, s.leadPump k with
  | some d, some p =>
    if Stage.watch.code ≤ s.stc.stage.code && (d.inflowGood || d.inflowLimited) then
      ceilDiv d.controlInflow.toNat (s.pumpCfg p).ratedFlow
    else 0
  | _, _ => 0

/-- The DEMAND of a sump (R132; log entry 23 for an UNSET step). -/
def State.demand (s : State) (k : SumpId) : Nat :=
  let available := (s.pumpsOf k).filter fun p => s.available p
  let wanted := max ((Tab.get s.psc.step k).getD 0) (max (s.predictive k) (available.filter fun p => s.pumpEntry p 1).length)
  min wanted (min (s.pumpingCfg k).runLimit available.length)

/-- A pump is eligible to be posted (Table 8-3). -/
def State.eligible (s : State) (p : PumpId) : Bool :=
  let t := s.pump p
  let starts := decide (t.startsInWindow < (s.pumpCfg p).startsPerHour)
  let high := decide (Stage.closing.code ≤ s.stc.stage.code)
  !s.pumpEntry p 0 && match t.mode with
    | .idle => high || starts
    | .resting => high || (t.stopReason == .shed && starts)
    | _ => false

/-- Pumps of a sump in SELECTION ORDER: those with a RUN entry first, each group in duty-list order (R133). -/
def State.selection (s : State) (k : SumpId) : List PumpId :=
  (s.dutyList k).filter (fun p => s.pumpEntry p 1) ++ (s.dutyList k).filter fun p => !s.pumpEntry p 1

/-- Acts on a STOP entry of a pump (R134 step 1). -/
def pumpObeyStop (p : PumpId) (s : State) : State :=
  if s.pumpEntry p 0 then
    match (s.pump p).mode with
    | .starting | .running => pumpStop p .override s
    | .queued => pumpSettle p (withdraw (.pump p) s)
    | _ => s
  else s

/-- The RUNNING pump without a RUN entry that has the lowest start sequence number (R134 step 3). -/
def State.oldestRunning (s : State) (k : SumpId) : Option PumpId :=
  ((s.pumpsOf k).filter fun p => (s.pump p).mode == .running && !s.pumpEntry p 1).foldl
    (fun best p => match best with
      | none => some p
      | some q => if (s.pump p).sequence < (s.pump q).sequence then some p else some q) none

/-- Withdraws QUEUED pumps without a RUN entry, the last in SELECTION ORDER first, while the ACTIVE count exceeds a demand
(R134 step 2). -/
def withdrawExcess (k : SumpId) (demand : Nat) (s : State) : State :=
  (s.selection k).reverse.foldl (fun s p =>
    if demand < s.countPumps k PumpMode.active && (s.pump p).mode == .queued && !s.pumpEntry p 1 then
      pumpSettle p (withdraw (.pump p) s)
    else s) s

/-- Reduces a sump to its DEMAND (R134). The pumps with STOP entries are taken in ascending number (log entry 82). -/
def reduceSump (k : SumpId) (demand : Nat) (s : State) : State :=
  let s1 := withdrawExcess k demand ((s.pumpsOf k).foldl (fun s p => pumpObeyStop p s) s)
  if demand < s1.countPumps k PumpMode.active then
    match s1.oldestRunning k with
    | some p => pumpStop p .normal s1
    | none => s1
  else s1

/-- Posts one pump if it is still selected (R133). -/
def postPump (k : SumpId) (demand : Nat) (p : PumpId) (s : State) : State :=
  let c := s.pumpCfg p
  if s.countPumps k PumpMode.active < demand && s.countPumps k PumpMode.claims < (s.pumpingCfg k).runLimit && s.eligible p then
    let r := post (.pump p) 1 c.ratedKw c.startFactor c.inrush s
    if r.2 then
      lauSettle (pumpGo p .queued (r.1.modPump p fun t => { t with offTimer := .stopped, postDeferred := false }))
    else r.1.modPump p fun t => { t with postDeferred := true }
  else s

/-- The evaluation of one sump (R133, R134; log entry 24); none is made while the line is QUENCHED (R111; log entry 79). -/
def evaluateSump (k : SumpId) (s : State) : State :=
  if s.decides then
    let demand := s.demand k
    let s1 := (s.pumpsOf k).foldl (fun s p => s.modPump p fun t => { t with postDeferred := false }) s
    let s2 := lauSettle (reduceSump k demand s1)
    (s2.selection k).foldl (fun s p => postPump k demand p s) s2
  else s

/-- The evaluation of every sump in ascending number (R133). -/
def pscEvaluate (s : State) : State := fourIds.foldl (fun s k => evaluateSump k s) s

/-- Entry into QUENCHED for the PSC (R144). -/
def pscQuench (s : State) : State := pumpIds.foldl (fun s p => pumpQuench p s) s

/-- The re-derivation signal of UNQUENCH (R144). -/
def pscUnquench (s : State) : State := eachDevice pumpIds pumpRederive s

/-- The re-derivation signal of a leaving of HELD, in two passes (R145), the LAU judging after each pump of each (R118). -/
def pscHoldLeave (s : State) : State := eachDevice pumpIds pumpHoldSecond (eachDevice pumpIds pumpHoldFirst s)

end Sys2Proof.Machine
end

