-- ==== Sys2Proof/Machine/Stage.lean ====
section
/-! DEFINITION. The Stage Controller (chapter 5): the demanded stage, the changes of STAGE with what they do at once, the
tests made at completions, dwells and derivation. The control hold stands in Machine/Hold.lean. -/

namespace Sys2Proof.Machine

/-- Delivers an override event for a point to its owner (R109). -/
def State.tellOwner (s : State) (p : PointId) (o : Owner) (value : Option Word) (cause : OverrideCause) : State :=
  s.emit (.overrideChanged { point := p, owner := o, value := value, cause := cause })

/-- Removes every entry of the Override Table, for STAGE or PANEL_KEY, whose code OVERRIDES_CANCELLED carries (R108, R110).
The owners are told in ascending order of point. -/
def cancelOverrides (cause : OverrideCause) (code : Nat) (s : State) : State :=
  let n := s.cau.overrides.length
  let s1 := s.cau.overrides.foldl (fun s e => s.tellOwner e.point (ownerOf s.cfg e.point) none cause) s
  let s2 := s1.modCau fun c => { c with overrides := [] }
  if n = 0 then s2 else raiseNotice 8 [word code, word n] s2

/-! ## The demanded stage (R86) -/

/-- The closure test of one sump (R86). -/
def closureTest (t : Thresholds) (d : SumpData) : Bool := !(t.closure == 0) && decide (t.closure ≤ d.filtered)

/-- The tests of Table 5-3 for one sump, in order, with what each demands: the codes of those that hold. -/
def stageTests (t : Thresholds) (d : SumpData) : List (Nat × Stage) :=
  [ (1, .closing, closureTest t d),
    (2, .alert, !(t.alert == 0) && decide (t.alert ≤ d.filtered)),
    (3, .alert, !(t.alertRate == 0) && decide ((t.alertRate : Int) ≤ d.rate)),
    (4, .alert, decide (3 ≤ d.blindCount)),
    (5, .watch, !(t.watch == 0) && decide (t.watch ≤ d.filtered)),
    (6, .watch, !(t.watchInflow == 0) && decide ((t.watchInflow : Int) ≤ d.controlInflow) && (d.inflowGood || d.inflowLimited))
  ].filterMap fun (x : Nat × Stage × Bool) => if x.2.2 then some (x.1, x.2.1) else none

/-- The highest demand with the sump and test that first make it (R86). -/
def demandedOf (th : Vector Thresholds 4) (l : List SumpData) : Stage × Cause :=
  (l.flatMap fun d => (stageTests (Tab.get th d.sump) d).map fun x => (x.2, ({ sump := d.sump.val + 1, test := x.1 } : Cause))).foldl
    (fun best x => if best.1.code < x.1.code then x else best) (.clear, {})

/-- d and its cause on the data held (R86), a sump that is no longer CONFIGURED among them (log entry 59). -/
def State.demandedStage (s : State) : Stage × Cause := demandedOf s.cfg.thresholds (s.stc.data.getD [])

/-- The first sump for which the closure test holds on the data held, with its filtered level (R95, R97). -/
def State.closureSump (s : State) : Option SumpData :=
  (s.stc.data.getD []).find? fun d => closureTest (Tab.get s.cfg.thresholds d.sump) d

/-! ## Changes of STAGE (R92) -/

/-- One change of STAGE (R92). -/
def stageChange (new : Stage) (cause : Cause) (s : State) : State :=
  let old := s.stc.stage
  let s1 := s.modStc fun c =>
    { c with stage := new, enteredAt := s.now, cause := cause, confirm := 0, descent := .stopped, reopen := .stopped
             reopenReady := false }
  let s2 := raiseNotice 5
    [word new.code, word old.code, word cause.sump, word cause.test, s1.planInForce.zeroExtend 16] s1
  let s3 := if old.code < Stage.alert.code ∧ Stage.alert.code ≤ new.code then cancelOverrides .stage 1 s2 else s2
  s3.emit (.stage new old)

/-- A change of STAGE with the change that R89 makes follow it. -/
def stageTo (new : Stage) (cause : Cause) (s : State) : State :=
  let s1 := stageChange new cause s
  match new with
  | .closing => if s1.stc.allClosed then stageChange .closed { sump := 0, test := 8 } s1 else s1
  | .reopening => if s1.stc.allOpen then stageChange .watch { sump := 0, test := 9 } s1 else s1
  | _ => s1

/-- A report of the GSQ's summary flags (R89). -/
def takeSummary (allClosed allOpen : Bool) (s : State) : State :=
  let s1 := s.modStc fun c => { c with allClosed := allClosed, allOpen := allOpen }
  if allClosed && !s.stc.allClosed && s.stc.stage == .closing then stageTo .closed { sump := 0, test := 8 } s1
  else if allOpen && !s.stc.allOpen && s.stc.stage == .reopening then stageTo .watch { sump := 0, test := 9 } s1
  else s1

/-! ## Evaluation (R87, R90) -/

/-- The descent timer for a whole dwell; it stays paused outside RUNNING (R88, R96). -/
def State.descentTimer (s : State) : Timer :=
  if s.stc.hold = .running then .start s.now (1000 * s.cfg.descentDwell) else .paused (1000 * s.cfg.descentDwell)

/-- The evaluation of R87 below CLOSING. -/
def evaluateBelow (d : Stage) (cause : Cause) (s : State) : State :=
  let stage := s.stc.stage
  if d = .closing then stageTo .closing cause s
  else if stage.code < d.code then
    if s.stc.confirm = 0 then s.modStc fun c => { c with confirm := 1, descent := .stopped } else stageTo d cause s
  else if d = stage then s.modStc fun c => { c with confirm := 0, descent := .stopped }
  else s.modStc fun c =>
    { c with confirm := 0, descent := if c.descent = .stopped then s.descentTimer else c.descent }

/-- Judges the reopen condition in CLOSED (R90). -/
def reopenJudge (d : Stage) (s : State) : State :=
  let holds := !(d == .closing) && (s.stc.data.getD []).all fun x =>
    (Tab.get s.cfg.thresholds x.sump).reopen == 0 ||
      (x.levelQuality == .good && decide (x.filtered < (Tab.get s.cfg.thresholds x.sump).reopen))
  s.modStc fun c =>
    if holds then
      if c.reopen = .stopped ∧ c.reopenReady = false then { c with reopen := .start s.now (1000 * s.cfg.reopenDwell) } else c
    else { c with reopen := .stopped, reopenReady := false }

/-- The evaluation of R87 on the data held. -/
def stageEvaluate (s : State) : State :=
  let d := s.demandedStage
  let s1 := s.modStc fun c => { c with demanded := d.1 }
  match s1.stc.stage with
  | .clear | .watch | .alert => evaluateBelow d.1 d.2 s1
  | .closing => s1
  | .closed => reopenJudge d.1 s1
  | .reopening => if d.1 = .closing then stageTo .closing d.2 s1 else s1

/-- The derivation, when one of its conditions holds at a completion (R93; log entry 38). -/
def derive (s : State) : State :=
  let d := s.demandedStage
  if (s.stc.pscReady && s.stc.gsqReady) || s.stc.deriveExpired || d.1 == .closing then
    let s1 := s.modStc fun c =>
      { c with demanded := d.1, derivePending := false, derive := .stopped, deriveExpired := false }
    if d.1 = .closing then stageTo .closing d.2 s1
    else if !s1.stc.allOpen then stageTo .closing { sump := 0, test := 7 } s1
    else if d.1 = .clear then s1
    else stageTo d.1 d.2 s1
  else s

/-- The descent timer's expiry (R88). -/
def descend (s : State) : State :=
  let fall (new : Stage) : State :=
    let s1 := stageTo new { sump := 0, test := 11 } (s.modStc fun c => { c with descent := .stopped })
    if s1.stc.demanded.code < new.code then s1.modStc fun c => { c with descent := s1.descentTimer } else s1
  match s.stc.stage with
  | .alert => fall .watch
  | .watch => fall .clear
  | _ => s.modStc fun c => { c with descent := .stopped }

/-- The reopen timer's expiry (R90). -/
def reopenExpiry (s : State) : State := s.modStc fun c => { c with reopenReady := true, reopen := .stopped }

/-- The derive timer's expiry, which takes effect at the next completion (R93). -/
def deriveExpiry (s : State) : State := s.modStc fun c => { c with deriveExpired := true, derive := .stopped }

end Sys2Proof.Machine
end

