-- ==== Sys2Proof/Machine/Authority.lean ====
section
/-! DEFINITION. The Command Authority Unit (chapter 6): the panel key, the judgement of a supervisory WRITE, and the
Override Table. -/

namespace Sys2Proof.Machine

/-- Whether the panel key is judged LOCAL (R110). -/
def State.judgedLocal (s : State) : Bool :=
  match s.cfg.supply.panelKey with
  | none => false
  | some p => (s.point p).quality == .never || !((s.pcfg p).kind == .discrete) || (s.point p).raw == 1

/-- The quality code of the panel key point, 0 when none is configured (R110, R113). -/
def State.keyQuality (s : State) : Nat :=
  match s.cfg.supply.panelKey with
  | some p => (s.point p).quality.code
  | none => 0

/-- Judges the key state afresh (R110). -/
def keyJudge (s : State) : State :=
  let isLocal := s.judgedLocal
  if isLocal = s.cau.keyLocal then s
  else
    let s1 := raiseNotice 9 [wordBool isLocal, word s.keyQuality]
      (s.modCau fun c => { c with keyLocal := isLocal, keyChanged := true })
    if isLocal then cancelOverrides .panelKey 2 s1 else s1

/-- The outcome of the CAU for a WRITE that reaches an OWNED COMMAND POINT (R103, R104). -/
inductive Authority where
  | forward
  | refuse (reason : Nat)
  | adopt
deriving DecidableEq, Repr

/-- The values accepted for the role of a point (Table 6-3). -/
def Owner.accepts (v : Word) : Owner → Bool
  | .pump _ => v == 0 || v == 1
  | .barrier _ | .gate => v == 1 || v == 2
  | .signal _ => decide (v.toNat ≤ 3)
  | .zone _ => decide (v.toNat ≤ 100)
  | .nobody => false

/-- The judgement of a WRITE of a count whose first owned channel maps to a point of an owner (R103, R104). -/
def State.authority (s : State) (count : Nat) (o : Owner) (v : Word) : Authority :=
  if 1 < count then .refuse 11
  else if s.stc.hold = .held then .forward
  else if s.cau.keyLocal then .refuse 7
  else if Stage.alert.code ≤ s.stc.stage.code then .refuse 6
  else if !o.accepts v then .refuse 4
  else .adopt

/-- The Override Table with an entry in its place, in ascending point. -/
def insertOverride (e : Override) : List Override → List Override
  | [] => [e]
  | x :: rest =>
    if e.point < x.point then e :: x :: rest
    else if e.point = x.point then e :: rest
    else x :: insertOverride e rest

/-- Refuses a WRITE and logs the refusal as AUTHORITY (R105; log entry 49 for the order). -/
def refuseAuthority (w : Frame) (reason : Nat) (key : Option Key) (s : State) : State :=
  logFault { cls := .authority, detail := reason, key := key, kind := kindWrite } (refuse w reason s)

/-- The key of a WRITE's own channel field under the PLAN in force (R105). -/
def State.writeKey (s : State) (w : Frame) : Key := { plan := s.planInForce, station := w.dst, channel := w.channel }

/-- Adopts a WRITE of one value for a point as an OVERRIDE (R106). -/
def adopt (w : Frame) (p : PointId) (v : Word) (s : State) : State :=
  let renewal := (s.override (some p)).isSome
  if renewal = false ∧ 16 ≤ s.cau.overrides.length then refuseAuthority w 8 (some (s.writeKey w)) s
  else
    let e : Override := { point := p, value := v, expiry := s.now + 60000 * s.cfg.supply.lifetime, tag := w.tag }
    (offerUp { frame := replyFor w kindTaken (word s.cfg.supply.lifetime) }
      (s.modCau fun c => { c with overrides := insertOverride e c.overrides })).tellOwner p (ownerOf s.cfg p) (some v)
        (if renewal then .renewed else .adopted)

/-- Removes the entry for a point, if one stands, and tells an owner with a cause (R107, R109). -/
def removeOverride (p : PointId) (o : Owner) (cause : OverrideCause) (s : State) : State :=
  if (s.override (some p)).isSome then
    (s.modCau fun c => { c with overrides := c.overrides.filter fun e => !(e.point == p) }).tellOwner p o none cause
  else s

/-- The lifetime timer of the entry for a point (R107). -/
def State.overrideTimer (s : State) (p : PointId) : Timer :=
  match s.override (some p) with
  | some e => .running e.expiry
  | none => .stopped

end Sys2Proof.Machine
end

