-- ==== Sys2Proof/Machine/Maps.lean ====
section
/-! DEFINITION. The Point Map Unit (chapter 2): check bits, lookups with Miss Capture and the Path Fault Record, the command
search, and the map operations. -/

namespace Sys2Proof.Machine

/-! ## Entries and check bits -/

/-- The bits the check bit covers, valid first, as one word (Table 2-2; log entry 9). -/
def MapFields.bits (f : MapFields) : BitVec 24 :=
  BitVec.ofBool f.valid ++ BitVec.ofBool f.isGlobal ++ BitVec.ofBool f.lock ++ BitVec.ofBool (f.direction == .command) ++
    f.plan ++ f.station ++ f.channel ++ f.point

/-- The stored fields that a word of bits spells. -/
def MapFields.ofBits (b : BitVec 24) : MapFields :=
  { valid := b.getLsbD 23, isGlobal := b.getLsbD 22, lock := b.getLsbD 21,
    direction := if b.getLsbD 20 then .command else .sample,
    plan := b.extractLsb' 18 2, station := b.extractLsb' 12 6, channel := b.extractLsb' 8 4, point := b.extractLsb' 0 8 }

/-- The parity of a word of bits. -/
def parity (b : BitVec 24) : Bool :=
  [0, 1, 2, 3, 4, 5, 6, 7, 8, 9, 10, 11, 12, 13, 14, 15, 16, 17, 18, 19, 20, 21, 22, 23].foldl (fun p i => p != b.getLsbD i) false

/-- An entry as written: with its check bit computed (R26). -/
def MapEntry.written (f : MapFields) (used : Bool) : MapEntry := { fields := f, used := used, check := parity f.bits }

/-- The check bit does not fail (R26). -/
def MapEntry.checkGood (e : MapEntry) : Bool := e.check == parity e.fields.bits

/-- An entry invalidated (R26). -/
def MapEntry.invalidated (e : MapEntry) : MapEntry := .written { e.fields with valid := false, lock := false } false

/-- The place of a set and way in the table of the Set Map. -/
def setPlace (i : Fin 128) (w : Fin 2) : Fin 256 := ⟨2 * i.val + w.val, by omega⟩

def State.mapEntry (s : State) : MapLoc → MapEntry
  | .pinned i => Tab.get s.pmu.pinned i
  | .setMap i w => Tab.get s.pmu.sets (setPlace i w)

def State.putEntry (s : State) (l : MapLoc) (e : MapEntry) : State :=
  match l with
  | .pinned i => s.modPmu fun m => { m with pinned := Tab.put m.pinned i e }
  | .setMap i w => s.modPmu fun m => { m with sets := Tab.put m.sets (setPlace i w) e }

def invalidate (l : MapLoc) (s : State) : State := s.putEntry l (s.mapEntry l).invalidated

def setUsed (l : MapLoc) (s : State) : State := s.putEntry l { s.mapEntry l with used := true }

/-- A fault of the map storage alters stored fields (R26); the Set Map stores no global and no lock flag. -/
def storageFault (l : MapLoc) (flips : BitVec 24) (s : State) : State :=
  let mask : BitVec 24 := match l with
    | .pinned _ => flips
    | .setMap _ _ => flips &&& 0x9FFFFF#24
  s.putEntry l { s.mapEntry l with fields := .ofBits ((s.mapEntry l).fields.bits ^^^ mask) }

/-! ## Keys -/

/-- The key number (2.1.1). -/
def keyNumber (station : Station) (channel : Channel) : Nat := 16 * station.toNat + channel.toNat

/-- The set index of a KEY (R25). -/
def setIndex (plan : Plan) (station : Station) (channel : Channel) : Fin 128 :=
  (BitVec.ofNat 7 (keyNumber station channel) ^^^ BitVec.ofNat 7 (32 * plan.toNat)).toFin

/-- A valid entry matches a KEY (2.3.1). -/
def MapFields.isMatch (f : MapFields) (k : Key) : Bool :=
  f.valid && f.station == k.station && f.channel == k.channel && (f.isGlobal || f.plan == k.plan)

/-- Two entries have the same key (R26). -/
def MapFields.sameKey (f g : MapFields) : Bool :=
  f.station == g.station && f.channel == g.channel && (f.isGlobal || g.isGlobal || f.plan == g.plan)

def pinnedSlots : List (Fin 16) := [0, 1, 2, 3, 4, 5, 6, 7, 8, 9, 10, 11, 12, 13, 14, 15]

/-- The places a lookup examines: every Pinned slot, then both ways of the set of the KEY (R25). -/
def lookupPlaces (k : Key) : List MapLoc :=
  pinnedSlots.map MapLoc.pinned ++
    [.setMap (setIndex k.plan k.station k.channel) 0, .setMap (setIndex k.plan k.station k.channel) 1]

/-! ## Lookup -/

/-- Lookup results (R28). -/
inductive LookupResult where
  | hit (point : PointId)
  | multiHit
  | miss
deriving DecidableEq, Repr

/-- What a lookup returns: its result, and whether it recorded a parity fault (R28). -/
structure Lookup where
  key : Key
  result : LookupResult
  parityFault : Bool
deriving DecidableEq, Repr

def pointOf (b : BitVec 8) : PointId := b.toFin

/-- The resolution over the good matches (R28), with the location of a MULTI_HIT. -/
def resolve (dir : Direction) (good : List (MapLoc × MapFields)) : LookupResult × Option MapLoc :=
  match good with
  | [] => (.miss, none)
  | (l, f) :: rest =>
    if rest.all (fun x => x.2.point == f.point && x.2.direction == f.direction) then
      (if f.direction = dir then .hit (pointOf f.point) else .miss, none)
    else (.multiHit, some l)

/-- Details of MAP faults (Table 1-7). -/
def parityDetail : MapLoc → Nat
  | .pinned _ => 32
  | .setMap _ _ => 33

/-- Updates Miss Capture with a miss (R32). -/
def captureMiss (k : Key) (kind : BitVec 3) (s : State) : State :=
  if s.pmu.miss.full then
    s.modPmu fun m => { m with miss := { m.miss with count := min 255 (m.miss.count + 1) } }
  else
    raiseNotice 2 [k.plan.zeroExtend 16, k.station.zeroExtend 16, k.channel.zeroExtend 16, kind.zeroExtend 16]
      (s.modPmu fun m => { m with miss := { full := true, key := k, kind := kind, count := 1 } })

/-- One lookup (R27 to R29, R32). -/
def lookup (k : Key) (dir : Direction) (kind : BitVec 3) (s : State) : Lookup × State :=
  let found := (lookupPlaces k).filter fun l => (s.mapEntry l).fields.isMatch k
  let bad := found.filter fun l => !(s.mapEntry l).checkGood
  let good := found.filter fun l => (s.mapEntry l).checkGood
  let r := resolve dir (good.map fun l => (l, (s.mapEntry l).fields))
  let s1 := bad.foldl (fun s l => invalidate l s) s
  let s2 := match r.1 with
    | .hit _ => good.foldl (fun s l => setUsed l s) s1
    | _ => s1
  let s3 := match bad.head?, r.2 with
    | some l, _ => logFault { cls := .map, detail := parityDetail l, key := some k, loc := some l, kind := kind } s2
    | none, some l => logFault { cls := .map, detail := 34, key := some k, loc := some l, kind := kind } s2
    | none, none => s2
  let s4 := if r.1 = .miss then captureMiss k kind s3 else s3
  ({ key := k, result := r.1, parityFault := !bad.isEmpty }, s4)

/-- The lookups of the channels of one frame, in ascending order, under one PLAN (R24). -/
def lookups (plan : Plan) (station : Station) (dir : Direction) (kind : BitVec 3) : Nat → Nat → State → List Lookup × State
  | _, 0, s => ([], s)
  | channel, n + 1, s =>
    let r := lookup { plan := plan, station := station, channel := BitVec.ofNat 4 channel } dir kind s
    let rest := lookups plan station dir kind (channel + 1) n r.2
    (r.1 :: rest.1, rest.2)

/-! ## The command search (R18) -/

/-- All 128 set indexes. -/
def setIndexes : List (Fin 128) := List.finRange 128

/-- Every place, in the order of the command search. -/
def allPlaces : List MapLoc :=
  pinnedSlots.map MapLoc.pinned ++ setIndexes.flatMap fun i => [MapLoc.setMap i 0, MapLoc.setMap i 1]

/-- The places met with a failing check bit, and the entry found (R18, R27). -/
def searchPlaces (s : State) (p : PointId) (plan : Plan) : List MapLoc → List MapLoc × Option MapLoc
  | [] => ([], none)
  | l :: rest =>
    let f := (s.mapEntry l).fields
    if f.valid && f.direction == .command then
      if !(s.mapEntry l).checkGood then
        let r := searchPlaces s p plan rest
        (l :: r.1, r.2)
      else if pointOf f.point == p && (f.isGlobal || f.plan == plan) then ([], some l)
      else searchPlaces s p plan rest
    else searchPlaces s p plan rest

/-- The command search: the address found, with the failing entries invalidated and the first of them logged (R18, R27). -/
def commandSearch (p : PointId) (s : State) : Option (Station × Channel) × State :=
  let r := searchPlaces s p s.planInForce allPlaces
  let s1 := match r.1 with
    | [] => s
    | l :: _ =>
      let f := (s.mapEntry l).fields
      logFault { cls := .map, detail := parityDetail l, key := some { plan := f.plan, station := f.station, channel := f.channel }
                 loc := some l, kind := kindWrite } (r.1.foldl (fun s l => invalidate l s) s)
  match r.2 with
  | some l => (some ((s.mapEntry l).fields.station, (s.mapEntry l).fields.channel), setUsed l s1)
  | none => (none, s1)

/-! ## Placement -/

/-- The data words of a MAP_WRITE answer (R34). -/
def locWords : MapLoc → List Word
  | .pinned i => [0, word i.val, 0]
  | .setMap i w => [1, word i.val, word w.val]

/-- Pinned slots that hold a valid entry of the same key as new fields. -/
def State.sameSlots (s : State) (f : MapFields) : List (Fin 16) :=
  pinnedSlots.filter fun i => (Tab.get s.pmu.pinned i).fields.valid && (Tab.get s.pmu.pinned i).fields.sameKey f

/-- An explicit write of a Pinned slot with valid 1 (R35). -/
def writePinned (i : Fin 16) (f : MapFields) (s : State) : State :=
  (((s.sameSlots f).filter fun j => !(j == i)).foldl (fun s j => invalidate (.pinned j) s) s).putEntry (.pinned i) (.written f true)

/-- An explicit write of a set and way with valid 1, the set being that of the key (R36). -/
def writeSet (i : Fin 128) (w : Fin 2) (f : MapFields) (s : State) : State :=
  let other : MapLoc := .setMap i (1 - w)
  let e := (s.mapEntry other).fields
  (if e.valid && e.sameKey f then invalidate other s else s).putEntry (.setMap i w) (.written f true)

/-- Automatic Set placement (R37): the way taken, and the state after the write. With both ways holding the key, which only a
storage fault makes, way 0 is written and way 1 left as it is (log entry 58). -/
def placeSet (f : MapFields) (s : State) : MapLoc × State :=
  let i := setIndex f.plan f.station f.channel
  let e0 := s.mapEntry (.setMap i 0)
  let e1 := s.mapEntry (.setMap i 1)
  let put (w : Fin 2) (s : State) : MapLoc × State := (.setMap i w, s.putEntry (.setMap i w) (.written f true))
  if e0.fields.valid && e0.fields.sameKey f then put 0 s
  else if e1.fields.valid && e1.fields.sameKey f then put 1 s
  else if !e0.fields.valid then put 0 s
  else if !e1.fields.valid then put 1 s
  else if !e0.used then put 0 s
  else if !e1.used then put 1 s
  else put 0 ((s.putEntry (.setMap i 0) { e0 with used := false }).putEntry (.setMap i 1) { e1 with used := false })

/-- Automatic Pinned placement (R38): the slot taken and the state after the write, or none for MAP_FULL. -/
def placePinned (f : MapFields) (s : State) : Option (MapLoc × State) :=
  let entry (i : Fin 16) : MapEntry := Tab.get s.pmu.pinned i
  let put (i : Fin 16) (s : State) : MapLoc × State := (.pinned i, s.putEntry (.pinned i) (.written f true))
  match s.sameSlots f with
  | i :: rest => some (put i (rest.foldl (fun s j => invalidate (.pinned j) s) s))
  | [] =>
    match pinnedSlots.find? fun i => !(entry i).fields.valid with
    | some i => some (put i s)
    | none =>
      match pinnedSlots.find? fun i => !(entry i).used && !(entry i).fields.lock with
      | some i => some (put i s)
      | none =>
        match pinnedSlots.find? fun i => !(entry i).fields.lock with
        | some i =>
          some (put i (s.modPmu fun m =>
            { m with pinned := m.pinned.map fun e => if e.fields.lock then e else { e with used := false } }))
        | none => none

/-! ## Removal -/

/-- Invalidates the entries of both maps that a condition names; the number is that of the answers of R40 and R41. -/
def demap (pinned sets : MapFields → Bool) (s : State) : Nat × State :=
  let p (e : MapEntry) : Bool := e.fields.valid && pinned e.fields
  let q (e : MapEntry) : Bool := e.fields.valid && sets e.fields
  ((s.pmu.pinned.toList.filter p).length + (s.pmu.sets.toList.filter q).length,
   s.modPmu fun m =>
    { m with pinned := m.pinned.map fun e => if p e then e.invalidated else e
             sets := m.sets.map fun e => if q e then e.invalidated else e })

/-- Invalidates every entry that a lookup of a KEY would match (R40). -/
def demapOfKey (k : Key) (s : State) : Nat × State :=
  let found := (lookupPlaces k).filter fun l => (s.mapEntry l).fields.isMatch k
  (found.length, found.foldl (fun s l => invalidate l s) s)

end Sys2Proof.Machine
end

