-- ==== Sys2Proof/Machine/Signals.lean ====
section
/-! DEFINITION. The delivery of the events that the blocks raise for each other inside one command: the judgements of the
LAU that are due, then the oldest event (log entry 19). -/

namespace Sys2Proof.Machine

/-- What the blocks do with one event (R92, R109, R133, R150, R158). Of one stage event the PSC evaluates every sump before the GSQ
evaluates (log entry 67). The GSQ evaluates at the event of a point that it has just lost too (log entry 80). -/
def handleSignal (x : Signal) (s : State) : State :=
  match x with
  | .summary c o => takeSummary c o s
  | .stage _ _ => if s.stc.hold = .running then gsqEvaluate (pscEvaluate s) else s
  | .overrideChanged e =>
    match e.owner with
    | .barrier _ | .gate => if s.stc.hold = .running then gsqEvaluate s else s
    | .signal b => if s.stc.hold = .running then gsqEvaluate s else aspectJudge false b s
    | _ => s

/-- Delivers events in the order raised until none waits, at most as many as given: the STC so ends with the flags that the GSQ
reported last (R89). -/
def quiesceLoop : Nat → State → State
  | 0, s => { lauSettle s with signals := [] }
  | n + 1, s =>
    let s1 := lauSettle s
    match s1.signals with
    | [] => s1
    | x :: rest => quiesceLoop n (handleSignal x { s1 with signals := rest })

/-- Runs the blocks to rest (log entry 19). -/
def quiesce (s : State) : State := quiesceLoop 256 s

end Sys2Proof.Machine
end

