-- ==== Sys2Proof/Machine/Points.lean ====
section
/-! DEFINITION. The Point Image (chapter 3): point events and command outcomes, samples and echoes, freshness, the level
sample queues and their drains, the scan schedule. -/

namespace Sys2Proof.Machine

/-! ## Events (R49, R57) -/

/-- Whether a record's optional point is a given point. -/
def namesPoint (o : Option PointId) (p : PointId) : Bool := o == some p

/-- The LAU's part in a point event (R116, R117). -/
def lauPointEvent (p : PointId) (s : State) : State :=
  let c := s.cfg.supply
  if namesPoint c.mains p || namesPoint c.generator p || namesPoint c.clearToStart p then lauSettle (judgeSupply s) else s

/-- The CAU's part in a point event (R110). -/
def cauPointEvent (p : PointId) (s : State) : State := if namesPoint s.cfg.supply.panelKey p then keyJudge s else s

/-- Delivers a point event to each consumer of the point (R49; log entry 15). -/
def deliverEvent (ev : PointEvent) (s : State) : State :=
  quiesce (gsqPointEvent ev (pscPointEvent ev (cauPointEvent ev.point (lauPointEvent ev.point s))))

/-- Gives a point new running fields by an observation or an expiry: changed-since-read is set at a change of value or
quality, and a point event is delivered by R49. -/
def observe (p : PointId) (valueEvent : Bool) (f : PointState → PointState) (s : State) : State :=
  let old := s.point p
  let s1 := s.modPoint p fun t =>
    let t' := f t
    { t' with changed := t'.changed || valueEvent || !(t'.raw == old.raw) || !(t'.quality == old.quality) ||
        !(t'.confirmed == old.confirmed) }
  let qualityEvent := !((s1.point p).quality == old.quality)
  if (valueEvent || qualityEvent) && !((s.pcfg p).kind == .command) then
    deliverEvent { point := p, oldRaw := old.raw, oldQuality := old.quality, valueChanged := valueEvent,
                   qualityChanged := qualityEvent } s1
  else s1

/-- Delivers a command outcome to the owner of a point (R57). -/
def deliverOutcome (p : PointId) (failed : Bool) (s : State) : State :=
  let t := s.point p
  quiesce (match ownerOf s.cfg p with
    | .nobody => s
    | .pump i => pumpOutcome i failed t.commanded t.confirmed s
    | .barrier b => barrierOutcome b failed t.commanded t.confirmed s
    | .signal b => headOutcome b failed t.commanded t.confirmed s
    | .gate => gateOutcome failed t.commanded t.confirmed s
    | .zone z => zoneOutcome z failed t.confirmed s)

/-- A change of command state to CONFIRMED or FAILED with its outcome (R57); nothing for a point that is no longer of kind
COMMAND (R58; log entry 50). -/
def commandOutcome (p : PointId) (failed : Bool) (s : State) : State :=
  if (s.pcfg p).kind = .command then
    deliverOutcome p failed (setCommandState p (if failed then .failed else .confirmed) s)
  else s

/-! ## Level sample queues -/

def State.levelQueue (s : State) (q : QueueId) : LevelQueue := Tab.get s.pim.queues q

def State.modQueue (s : State) (q : QueueId) (f : LevelQueue → LevelQueue) : State :=
  s.modPim fun m => { m with queues := Tab.put m.queues q (f (Tab.get m.queues q)) }

/-- Offers an entry to a level sample queue (R53). -/
def offerLevel (e : LevelEntry) (q : LevelQueue) : LevelQueue :=
  if q.entries.length < 4 then { q with entries := q.entries ++ [e] } else { q with overrun := true }

/-- A queue with its sticky flags cleared (R56). -/
def clearQueueFlags (q : LevelQueue) : LevelQueue := { q with overrun := false, accInvalid := false, accRange := false }

def queueIds : List QueueId := [0, 1, 2, 3, 4, 5, 6, 7]

/-- The point that holds a queue (R52). -/
def pointIds : List PointId := List.finRange 256

def State.queueHolder (s : State) (q : QueueId) : Option PointId := pointIds.find? fun p => (s.pcfg p).queue == some q

/-- The lowest-numbered queue that no point holds (R52). -/
def State.freeQueue (s : State) : Option QueueId := queueIds.find? fun q => (s.queueHolder q).isNone

/-- Judges a queue at a drain by the error mode and empties it (R54, R55): the SUSPECT indication and the queue after. -/
def drainQueue (mode : ErrorMode) (q : LevelQueue) : Bool × LevelQueue :=
  match mode with
  | .perSample => (false, { q with entries := [] })
  | .accumulated =>
    let inv := q.accInvalid || q.entries.any (·.invalid)
    let rng := q.accRange || q.entries.any (·.range)
    (inv || rng, { q with entries := [], accInvalid := inv, accRange := rng })

/-- Drains one point (R54). -/
def drainPoint (p : PointId) (s : State) : Drain × State :=
  let c := s.pcfg p
  match c.queue with
  | none =>
    ({ point := p, entries := [], quality := (s.point p).quality, mode := c.errorMode, suspect := false, overrun := false }, s)
  | some q =>
    let before := s.levelQueue q
    let r := drainQueue c.errorMode before
    ({ point := p, entries := before.entries, quality := (s.point p).quality, mode := c.errorMode, suspect := r.1
       overrun := before.overrun }, s.modQueue q fun _ => r.2)

/-- One drain request naming several points, each once (R54). -/
def drainPoints : List PointId → State → List Drain × State
  | [], s => ([], s)
  | p :: rest, s =>
    let r := drainPoint p s
    let r' := drainPoints rest r.2
    (r.1 :: r'.1, r'.2)

/-! ## Samples and echoes -/

/-- A sample word lies outside the raw range of a point. -/
def PointCfg.outside (c : PointCfg) (w : Word) : Bool := decide (w.toInt < c.rawMin.toInt) || decide (c.rawMax.toInt < w.toInt)

/-- Applies one accepted sample to a point (R50, R51, R53). A DISCRETE point made INVALID from NEVER whose first valid sample is then 0
gets a quality event alone: R51's condition, the quality no longer NEVER and the value the one held, stands against its 'whatever its
value' (log entry 85). -/
def applySample (p : PointId) (w : Word) (invalid : Bool) (s : State) : State :=
  let c := s.pcfg p
  let s1 := restartAge p s
  match c.kind with
  | .unused | .command => s
  | .level =>
    let s2 := match c.queue with
      | some q => s1.modQueue q (offerLevel { raw := w, invalid := invalid, range := !invalid && c.outside w })
      | none => s1
    observe p false (fun t => if invalid then { t with quality := .invalid } else { t with quality := .good, raw := w }) s2
  | .analog =>
    observe p false (fun t =>
      if invalid || c.outside w then { t with quality := .invalid } else { t with quality := .good, raw := w }) s1
  | .discrete =>
    if invalid then observe p false (fun t => { t with quality := .invalid }) s1
    else
      let v : Word := if w = 0 then 0 else 1
      observe p ((s.point p).quality == .never || !((s.point p).raw == v)) (fun t => { t with quality := .good, raw := v }) s1
  | .feedback =>
    observe p false (fun t => if invalid then { t with quality := .invalid } else { t with quality := .good, raw := w }) s1

/-- Applies an echoed word to a COMMAND point (R58, R59); any other point is left unchanged. -/
def applyEcho (p : PointId) (w : Word) (s : State) : State :=
  if (s.pcfg p).kind = .command then observe p false (fun t => { t with confirmed := w, quality := .good }) (restartAge p s)
  else s

/-- Applies the sample channels of a VALUE in ascending order (R50). -/
def applyValues (quality : Word) : Nat → List (Lookup × Word) → State → State
  | _, [], s => s
  | i, (l, w) :: rest, s =>
    applyValues quality (i + 1) rest (match l.result with
      | .hit p => applySample p w (quality.getLsbD i) s
      | _ => s)

/-- The PIM observes a VALUE of a station from a first channel on (R24 a, R50). -/
def observeValue (f : Frame) (s : State) : State :=
  let samples := f.payload.dropLast
  let r := lookups s.planInForce f.src .sample kindValue f.channel.toNat samples.length s
  applyValues (f.payload.getLast?.getD 0) 0 (r.1.zip samples) r.2

/-- The PIM observes an ECHO of a supervisory WRITE (R24 c, R59). -/
def observeEcho (f : Frame) (s : State) : State :=
  let r := lookups s.planInForce f.src .command kindEcho f.channel.toNat f.payload.length s
  (r.1.zip f.payload).foldl (fun s x => match x.1.result with
    | .hit p => applyEcho p x.2 s
    | _ => s) r.2

/-! ## Freshness and the scan -/

/-- The expiry of a point's freshness period (R48). -/
def freshnessExpiry (p : PointId) (s : State) : State :=
  let s1 := s.modPoint p fun t => { t with freshTimer := .stopped }
  if (s.point p).quality = .good then observe p false (fun t => { t with quality := .stale }) s1 else s1

def State.scanCfg (s : State) (e : ScanId) : ScanCfg := Tab.get s.cfg.scan e

/-- A due timer started with the interval of its entry (R61, R62). -/
def startDue (e : ScanId) (s : State) : State :=
  s.modPim fun m => { m with scanDue := Tab.put m.scanDue e (.start s.now (100 * (s.scanCfg e).interval)) }

/-- The expiry of a due timer (R62, R22). -/
def scanFallsDue (e : ScanId) (s : State) : State :=
  let s1 := startDue e s
  if s.flc.line = .quenched ∨ e ∈ s.flc.scanPending then s1
  else s1.modFlc fun f => { f with scanPending := f.scanPending ++ [e] }

end Sys2Proof.Machine
end

