-- ==== Sys2Proof/Machine/Sumps.lean ====
section
/-! DEFINITION. The Sump Arithmetic Unit (chapter 4): the geometry, the inputs of a DRAINAGE CYCLE and the computation of one
sump. Every quantity is an exact integer, as the bounds of R80 allow. -/

namespace Sys2Proof.Machine

def State.sump (s : State) (k : SumpId) : SumpState := Tab.get s.sau.sumps k
def State.sumpCfg (s : State) (k : SumpId) : SumpCfg := Tab.get s.cfg.sumps k

def State.modSump (s : State) (k : SumpId) (f : SumpState → SumpState) : State :=
  s.modSau fun a => { a with sumps := Tab.put a.sumps k (f (Tab.get a.sumps k)) }

/-- A sump is CONFIGURED (4.1.1). -/
def SumpCfg.configured (c : SumpCfg) : Bool := c.primary.isSome

/-! ## Geometry -/

/-- The breakpoints of a VALID geometry, or none (R65). -/
def validGeometry (v : Vector (Option Breakpoint) 8) : Option (List Breakpoint) :=
  match presentPrefix v with
  | some l =>
    if 2 ≤ l.length ∧ chained (fun a b => decide (a.x < b.x ∧ a.y ≤ b.y)) l = true ∧
        (l.all fun b => decide (b.y ≤ 100000000)) = true then some l else none
  | none => none

/-- The volume at a filter state over the breakpoints of a VALID geometry (R73). -/
def volumeAt (f : Int) : List Breakpoint → Nat
  | a :: b :: rest =>
    if f < 16 * a.x then a.y
    else if f < 16 * b.x then
      ((a.y : Int) + ((b.y : Int) - a.y) * (f - 16 * a.x) / (16 * ((b.x : Int) - a.x))).toNat
    else volumeAt f (b :: rest)
  | [a] => a.y
  | [] => 0

/-! ## Inputs -/

/-- The usable samples of a drained point (R67). -/
def Drain.usable (d : Drain) : List LevelEntry :=
  match d.mode with
  | .perSample => d.entries.filter fun e => !e.invalid && !e.range
  | .accumulated => if d.suspect then [] else d.entries

/-- A point is FIT for the cycle (R67). -/
def Drain.fit (d : Drain) : Bool := d.quality == .good && !d.suspect && !d.usable.isEmpty

/-- A drain returned an invalid sample or an INVALID quality (R67). -/
def Drain.sawInvalid (d : Drain) : Bool := d.entries.any (·.invalid) || d.quality == .invalid

def State.configuredSumps (s : State) : List SumpId := fourIds.filter fun k => (s.sumpCfg k).configured

/-- The points a drain request names, each once (R54). -/
def State.drainNames (s : State) : List PointId :=
  (s.configuredSumps.flatMap fun k => (s.sumpCfg k).primary.toList ++ (s.sumpCfg k).backup.toList).eraseDups

/-- Q_out of a sump (R67, R76). -/
def State.outflow (s : State) (k : SumpId) : Nat :=
  (((s.pumpsOf k).filter fun p => (s.pump p).mode == .running).map fun p => (s.pumpCfg p).ratedFlow).sum

/-- The drains of the level points that a sump names. -/
def SumpCfg.drainsOf (c : SumpCfg) (l : List Drain) : List Drain :=
  l.filter fun d => c.primary == some d.point || c.backup == some d.point

/-- The sticky flags that the drains of a sump set (R67). -/
def SumpState.noteDrains (l : List Drain) (t : SumpState) : SumpState :=
  { t with overrun := t.overrun || l.any (·.overrun), invalidSeen := t.invalidSeen || l.any Drain.sawInvalid }

/-- The drains of a cycle set the sticky flags of the CONFIGURED sumps (R67). -/
def noteCycleDrains (l : List Drain) (s : State) : State :=
  s.configuredSumps.foldl (fun s k => s.modSump k (SumpState.noteDrains ((s.sumpCfg k).drainsOf l))) s

/-- A DRAINAGE CYCLE begins (R66, R67; log entry 39 for one that finds a cycle in flight). It keeps the sticky flags that its drains
may set as they stood (R181). -/
def cycleStart (s : State) : State :=
  if s.sau.cycle.isSome then s
  else
    let outflow : Vector Nat 4 := #v[s.outflow 0, s.outflow 1, s.outflow 2, s.outflow 3]
    let r := drainPoints s.drainNames s
    let overrun : Vector Bool 4 := #v[(s.sump 0).overrun, (s.sump 1).overrun, (s.sump 2).overrun, (s.sump 3).overrun]
    let invalid : Vector Bool 4 :=
      #v[(s.sump 0).invalidSeen, (s.sump 1).invalidSeen, (s.sump 2).invalidSeen, (s.sump 3).invalidSeen]
    (noteCycleDrains r.1 r.2).modSau fun a =>
      { a with cycle := some { interval := a.timerPeriod, drains := r.1, outflow := outflow
                               overrunBefore := overrun, invalidBefore := invalid }
               cycleTimer := .start s.now s.cfg.line.cyclePeriod, timerPeriod := s.cfg.line.cyclePeriod }

/-! ## The computation of one sump (Table 4-3) -/

/-- The level of one sample in mm before clamping (R70). -/
def convert (c : SumpCfg) (e : LevelEntry) : Int := c.offset + (e.raw.toInt * c.gain + 2048) / 4096

/-- The mean rounded to nearest, ties upward (R71, R76). -/
def meanOf (sum : Int) (n : Nat) : Int := (2 * sum + n) / (2 * n)

/-- The register value of an inflow, before limiting (R77). -/
def scaleInflow : ScaleMode → Int → Int
  | .plain, i => i
  | .down, i => (i + 1) / 2
  | .up, i => 2 * i

/-- The control inflow of a register (R77). -/
def controlOf : ScaleMode → Int → Int
  | .plain, r => r
  | .down, r => 2 * r
  | .up, r => r / 2

/-- The filtered level of a filter state (R72). -/
def filteredOf (f : Int) : Nat := ((f + 8) / 16).toNat

/-- The next filter state of a primed filter (R72). -/
def filterStep (k : Nat) (f : Int) (level : Nat) : Int := f + ((16 * level - f) * k + 8) / 16

/-- The source of a cycle (R68). -/
def sourceOf (primary backup : Option Drain) : Source :=
  if (primary.map Drain.fit).getD false then .primary
  else if (backup.map Drain.fit).getD false then .backup
  else .held

/-- A change of source (R68). -/
def SumpState.switch (t : SumpState) (src : Source) : SumpState :=
  if src = t.source then t else { t with source := src, ring := [], primed := false, base := none }

/-- A HELD cycle (R69). -/
def SumpState.hold (t : SumpState) : SumpState :=
  { t with levelQuality := .blind, inflowGood := false, blindCount := min 255 (t.blindCount + 1) }

/-- Levels, filter and rate (R70 to R72, R79) from the usable samples of the source. -/
def SumpState.takeLevel (c : SumpCfg) (interval : Nat) (usable : List LevelEntry) (t : SumpState) : SumpState :=
  let raw := usable.map (convert c)
  let levels := raw.map fun x => max 0 (min 20000 x)
  let level := (meanOf levels.sum levels.length).toNat
  let f : Int := if t.primed then filterStep c.filterK t.filter level else 16 * level
  let rate := ((f - t.filter) * 60000).tdiv (16 * interval)
  { t with
    blindCount := 0
    levelQuality := if raw.any fun x => decide (20000 < x) then .suspect else .good
    cycleLevel := level
    filter := f
    primed := true
    rate := if t.primed then clamp16 rate else t.rate
    limited := t.limited || (raw.any fun x => decide (x < 0 ∨ 20000 < x)) || (t.primed && !(clamp16 rate == rate)) }

/-- The inflow at a cycle with a contribution (R75 to R78). -/
def SumpState.takeInflow (c : SumpCfg) (interval outflow : Nat) (gateClosed : Bool) (volume base : Nat) (t : SumpState) : SumpState :=
  let contribution := (((volume : Int) - base) * 1000).tdiv interval
  let ring := t.ring.drop (t.ring.length + 1 - c.ringSize) ++ [contribution]
  let inflow := meanOf ring.sum ring.length + outflow
  let wanted := scaleInflow c.scale inflow
  let register := clamp16 wanted
  { t with
    volume := volume
    base := some volume
    ring := ring
    inflow := register
    controlInflow := controlOf c.scale register
    inflowLimited := !(register == wanted)
    limited := t.limited || !(register == wanted)
    growth := t.growth || decide (8192 ≤ register.natAbs)
    inflowGood := t.levelQuality == .good && (!c.gateLink || gateClosed) }

/-- Volume and inflow (R73 to R78). -/
def SumpState.takeVolume (c : SumpCfg) (geometry : Vector (Option Breakpoint) 8) (interval outflow : Nat) (gateClosed : Bool)
    (t : SumpState) : SumpState :=
  match validGeometry geometry with
  | none => { t with geometryValid := false, base := none, inflowGood := false }
  | some l =>
    let volume := volumeAt t.filter l
    match t.base with
    | none => { t with geometryValid := true, volume := volume, base := some volume, ring := [], inflowGood := false }
    | some base => SumpState.takeInflow c interval outflow gateClosed volume base { t with geometryValid := true }

/-- The computation of one CONFIGURED sump (Table 4-3). -/
def computeSump (c : SumpCfg) (geometry : Vector (Option Breakpoint) 8) (interval outflow : Nat) (gateClosed : Bool)
    (primary backup : Option Drain) (t : SumpState) : SumpState :=
  let src := sourceOf primary backup
  let t2 := t.switch src
  match src with
  | .held => t2.hold
  | .primary =>
    SumpState.takeVolume c geometry interval outflow gateClosed (t2.takeLevel c interval ((primary.map Drain.usable).getD []))
  | .backup =>
    SumpState.takeVolume c geometry interval outflow gateClosed (t2.takeLevel c interval ((backup.map Drain.usable).getD []))

/-- The drain of a named point in a cycle's inputs. -/
def Cycle.drainOf (c : Cycle) (o : Option PointId) : Option Drain :=
  match o with
  | some p => c.drains.find? fun d => d.point == p
  | none => none

/-- Computes one sump of a cycle, with SUMP_BLIND when its blind count reaches 3 (R66, R69). The inflow quality is judged by the gate
as it stands at the completion: a linked gate that left CLOSED in flight and is CLOSED again lets it be GOOD (R78; log entry 66). -/
def completeSump (c : Cycle) (k : SumpId) (s : State) : State :=
  let g := s.sumpCfg k
  let before := s.sump k
  let after := computeSump g (Tab.get s.cfg.geometry k) c.interval (Tab.get c.outflow k) (s.gsq.gate.mode == .closed)
    (c.drainOf g.primary) (c.drainOf g.backup) before
  let s1 := s.modSump k fun _ => after
  if after.blindCount = 3 ∧ before.blindCount = 2 then
    raiseNotice 4 [word (k.val + 1), word after.blindCount, word (filteredOf after.filter)] s1
  else s1

/-- A sump record as it is reported: one that is not CONFIGURED has the values after POR, and the geometry valid field judged
for its table (R82, R83). -/
def State.sumpShown (s : State) (k : SumpId) : SumpState :=
  if (s.sumpCfg k).configured then s.sump k else { geometryValid := (s.sump k).geometryValid }

/-- The sump records as a snapshot copies them, set at the last completion: a cycle in flight shows none of the sticky flags that its
drains have set (R181; log entry 78 for the inflow quality). -/
def State.atCompletion (s : State) : State :=
  match s.sau.cycle with
  | some c =>
    let back (k : SumpId) : SumpState :=
      { s.sump k with overrun := Tab.get c.overrunBefore k, invalidSeen := Tab.get c.invalidBefore k }
    s.modSau fun a => { a with sumps := #v[back 0, back 1, back 2, back 3] }
  | none => s

/-- What a completion carries for one sump (R66). -/
def State.sumpData (s : State) (k : SumpId) : SumpData :=
  let t := s.sump k
  { sump := k, source := t.source, levelQuality := t.levelQuality, cycleLevel := t.cycleLevel, filtered := filteredOf t.filter
    volume := t.volume, inflow := t.inflow, controlInflow := t.controlInflow, inflowLimited := t.inflowLimited
    inflowGood := t.inflowGood, rate := t.rate, blindCount := t.blindCount }

/-- The computed state of a sump after POR, with its sticky flags and blind count kept (R64, R83). -/
def SumpState.fresh (t : SumpState) : SumpState :=
  { blindCount := t.blindCount, geometryValid := t.geometryValid, limited := t.limited, growth := t.growth
    overrun := t.overrun, invalidSeen := t.invalidSeen }

/-- A sump record with its four sticky flags clear (R81). -/
def SumpState.clearSticky (t : SumpState) : SumpState :=
  { t with limited := false, growth := false, overrun := false, invalidSeen := false }

end Sys2Proof.Machine
end

