-- ==== Sys2Proof/Machine/Flags.lean ====
section
/-! DEFINITION. The packed words that reads return (R60, R82, R100, R127, R146, R165, R175, R39), and the two words in which a
record reports an Override Table entry. -/

namespace Sys2Proof.Machine

/-- A word with the given bits set, each by its number and its condition. -/
def flagWord (bits : List (Nat × Bool)) : Word :=
  bits.foldl (fun w x => if x.2 then w ||| (1#16 <<< x.1) else w) 0

/-- What remains of a timer in s, rounded up, 0 when stopped. -/
def secondsLeft (now : Nat) (t : Timer) : Word := word (ceilDiv (t.left now) 1000)

/-- The same for a timer that counts only while it runs. -/
def runningSeconds (now : Nat) (t : Timer) : Word := if t.isRunning then secondsLeft now t else 0

/-- The value of an Override Table entry and its remaining time in minutes, 0 and 0 when none stands. -/
def State.entryWords (s : State) (o : Option PointId) : List Word :=
  match s.override o with
  | some e => [e.value, word (e.minutesLeft s.now)]
  | none => [0, 0]

/-- The tag of an Override Table entry from a bit on, 0 when none stands. -/
def State.entryTag (s : State) (o : Option PointId) (bit : Nat) : Word :=
  match s.override o with
  | some e => (e.tag.zeroExtend 16) <<< bit
  | none => 0

/-- An Override Table entry stands. -/
def State.entryStands (s : State) (o : Option PointId) : Bool := (s.override o).isSome

/-- MAP_READ flags (Table 1-5, R39): a Set Map entry reports global 0 and lock 0. -/
def mapFlags (l : MapLoc) (e : MapEntry) : Word :=
  let pinned := match l with
    | .pinned _ => true
    | .setMap _ _ => false
  flagWord [(0, e.fields.valid), (1, pinned && e.fields.isGlobal), (2, pinned && e.fields.lock),
    (3, e.fields.direction == .command), (4, e.used), (5, e.checkGood)]

/-- The quality word of POINT_GET (R60). -/
def qualityWord (kind : PointKind) (t : PointState) : Word :=
  word t.quality.code ||| (if kind = .command then (word t.command.code) <<< 14 else 0)

/-- The stage record's flags (R100); a paused descent timer is not running (log entry 32). -/
def State.stageFlags (s : State) : Word :=
  flagWord [(0, s.stc.reopenReady), (1, s.stc.derivePending), (2, s.stc.holdRequest), (3, s.stc.allClosed), (4, s.stc.allOpen),
    (5, s.stc.descent.isRunning), (6, s.stc.reopen.isRunning)]

/-- The supply record's flags (R127). -/
def State.supplyFlags (s : State) : Word :=
  flagWord [(0, s.lau.shedDemand), (1, s.lau.clearToStart), (2, s.counted s.cfg.supply.mains),
    (3, s.counted s.cfg.supply.generator)] |||
  (match s.lau.shedOrder with
    | some p => word (p.val + 1) <<< 4
    | none => 0)

/-- A sump record's flags (R82). -/
def State.sumpFlags (s : State) (k : SumpId) : Word :=
  let t := s.sumpShown k
  flagWord [(0, t.limited), (1, t.growth), (2, t.overrun), (3, t.invalidSeen), (4, t.geometryValid), (5, t.base.isSome),
    (6, t.primed), (7, (s.sumpCfg k).configured), (8, t.inflowLimited)]

/-- A pump record's flags (R146). -/
def State.pumpFlags (s : State) (p : PumpId) : Word :=
  let o := (s.pumpCfg p).runPoint
  flagWord [(0, (s.pump p).postDeferred), (1, s.entryStands o), (2, s.lau.shedOrder == some p)] ||| s.entryTag o 4

/-- A barrier record's flags (R165). -/
def State.barrierFlags (s : State) (b : BarrierId) : Word :=
  let c := s.barrierCfg b
  let t := s.barrier b
  flagWord [(0, t.postDeferred), (1, s.barrierClear b), (2, s.limitSet c.openLimit), (3, s.limitSet c.closedLimit),
    (4, t.headFault), (5, s.entryStands c.drive), (6, s.entryStands c.head)] ||| s.entryTag c.drive 8

/-- The gate record's flags (R165). -/
def State.gateFlags (s : State) : Word :=
  let c := s.cfg.gate
  flagWord [(0, s.gsq.gate.postDeferred), (1, s.closeTest), (2, s.openTest), (3, s.limitSet c.openLimit),
    (4, s.limitSet c.closedLimit), (5, s.entryStands c.drive)] ||| s.entryTag c.drive 8

/-- A zone record's flags (R175). -/
def State.zoneFlags (s : State) (z : ZoneId) : Word :=
  let o := (s.zoneCfg z).dim
  let t := s.zone z
  flagWord [(0, t.postDeferred), (1, t.lampFault), (2, t.dimmerFault), (3, t.reserve.isSome), (4, s.entryStands o),
    (5, (s.zoneCurve z).isSome)] ||| s.entryTag o 8

end Sys2Proof.Machine
end

