-- ==== Sys2Proof/Machine/Hold.lean ====
section
/-! DEFINITION. The control hold (section 5.5), and the delivery of a DRAINAGE CYCLE completion to the STC, the PSC and the
GSQ (R66; log entry 16). -/

namespace Sys2Proof.Machine

/-- A change of hold state with its hold event: the descent timer runs in RUNNING only (R88), the timers of the GSQ pause in
HELD (R163), the PSC keeps the state delivered (R147). -/
def setHold (h : HoldState) (s : State) : State :=
  let s1 := s.modStc fun c =>
    { c with hold := h, descent := if h = .running then c.descent.resume s.now else c.descent.pause s.now }
  let s2 := s1.modPsc fun c => { c with hold := h }
  if h = .held then gsqHold s2 else s2

/-- What follows a change of the hold state out of HELD: the LAU judges the head as the STC has made the change (R122; log entry
18), then the re-derivation signal is delivered (R99) to the PSC, the GSQ and the LTU in that order (log entry 68), the LAU
judging again after each device (R118, R122, R124 to R126). The shed order of R125 is judged at the change too, which R125 does not list
(log entry 18). -/
def rederiveAll (s : State) : State :=
  quiesce (ltuHoldLeave (gsqHoldLeave (pscHoldLeave (lauSettle (s.modLau fun l => { l with judgeDue := true })))))

/-- The hold breaks from HELD at a sump whose closure test holds (R97). -/
def breakHeld (d : SumpData) (s : State) : State :=
  let s1 := rederiveAll (setHold .running (s.modStc fun c => { c with holdRequest := false }))
  raiseNotice 6 [word (d.sump.val + 1), word d.filtered] (stageTo .closing { sump := d.sump.val + 1, test := 1 } s1)

/-- The hold breaks in STEPPING (R97; log entry 33 for a step already broken or a STAGE already CLOSING or CLOSED). -/
def breakStepping (d : SumpData) (s : State) : State :=
  match s.stc.step with
  | some r =>
    if r.broken then s
    else
      let s1 := s.modStc fun c => { c with holdRequest := false, step := some { r with broken := true } }
      let s2 := if s1.stc.stage = .closing ∨ s1.stc.stage = .closed then s1
        else stageTo .closing { sump := d.sump.val + 1, test := 1 } s1
      raiseNotice 6 [word (d.sump.val + 1), word d.filtered] s2
  | none => s

/-- The STC's part in a completion, its data stored already (R87, R90, R93, R95, R97). -/
def stcCompletion (s : State) : State :=
  match s.stc.hold with
  | .running =>
    if s.stc.derivePending then derive s
    else if s.stc.holdRequest && s.closureSump.isNone && decide (s.stc.stage.code < Stage.closing.code) then setHold .held s
    else stageEvaluate s
  | .held => match s.closureSump with
    | some d => breakHeld d s
    | none => s
  | .stepping => match s.closureSump with
    | some d => breakStepping d s
    | none => s

/-- The completion event: the STC, then the PSC, then the GSQ (R66, R133, R150; log entry 16). -/
def completionEvent (d : List SumpData) (s : State) : State :=
  let s1 := quiesce (stcCompletion (s.modStc fun c => { c with data := some d }))
  let s2 := pscData d s1
  let s3 := quiesce (if s2.stc.hold = .running then pscEvaluate s2 else s2)
  let s4 := s3.modGsq fun c => { c with data := some d }
  quiesce (if s4.stc.hold = .running then gsqEvaluate s4 else s4)

/-- The computation of the cycle in flight and its completion event, less the operations that wait for it (R66). -/
def cycleCompute (c : Cycle) (s : State) : State :=
  let s1 := s.configuredSumps.foldl (fun s k => completeSump c k s) (s.modSau fun a => { a with cycle := none })
  completionEvent (s1.configuredSumps.map s1.sumpData) s1

/-- An ADVANCE (R96): the step up to the reports of step done. The step order is taken by the PSC, then the GSQ, then the LTU (log
entry 68). -/
def advanceOp (tag : Tag) (s : State) : State :=
  if s.stc.hold = .held then
    let record : StepRecord := { tag := tag, pscDone := false, gsqDone := false, ltuDone := false, broken := false, linkLost := false }
    let s1 := rederiveAll (setHold .stepping (s.modStc fun c => { c with step := some record }))
    let s2 := quiesce (stageEvaluate s1)
    let s3 := quiesce (ltuEvaluate true (gsqEvaluate (pscEvaluate s2)))
    s3.modStc fun c => { c with step := c.step.map fun r => { r with pscDone := true, gsqDone := true, ltuDone := true } }
  else answer tag 50 stNotReady [] s

/-- The end of a step (R96, R98; log entry 33). HOLD_BROKEN comes before HOLD_LEFT (log entry 60). -/
def stepEnds (r : StepRecord) (s : State) : State :=
  let s0 := s.modStc fun c => { c with step := none }
  let s1 := if Stage.closing.code ≤ s.stc.stage.code then
      let s' := setHold .running (s0.modStc fun c => { c with holdRequest := false })
      if r.broken then s' else raiseNotice 6 [0, word s.stc.stage.code] s'
    else if s.stc.holdRequest then setHold .held s0
    else setHold .running s0
  let s2 := if r.linkLost ∧ s1.stc.hold = .running then raiseNotice 7 [1] s1 else s1
  quiesce (answer r.tag 50 stDone [] s2)

/-- The end of the step, once the three JOBS have reported (R96). -/
def stepEndOp (s : State) : State :=
  match s.stc.step with
  | some r => if r.pscDone && r.gsqDone && r.ltuDone then stepEnds r s else s
  | none => s

/-- The STC is told that the link is LOST (R98). -/
def linkLost (s : State) : State :=
  let s1 := s.modStc fun c => { c with holdRequest := false }
  match s.stc.hold with
  | .running => s1
  | .held => rederiveAll (raiseNotice 7 [1] (setHold .running s1))
  | .stepping => s1.modStc fun c => { c with step := c.step.map fun r => { r with linkLost := true } }

/-- A RELEASE (R91). -/
def releaseOp (tag : Tag) (s : State) : State :=
  if s.stc.stage = .closed ∧ s.stc.reopenReady = true then
    quiesce (answer tag 51 stDone [] (stageTo .reopening { sump := 0, test := 10 } s))
  else answer tag 51 stNotReady [] s

end Sys2Proof.Machine
end

