-- ==== Sys2Proof/Machine/FieldLine.lean ====
section
/-! DEFINITION. The Field Line Controller (section 1.3): the Field Arbiter, the taking of supervisory frames, commands and
scan entries, the end of a field transaction, quench and unquench. -/

namespace Sys2Proof.Machine

/-- Puts a frame on the field line (R11). -/
def sendField (origin : Origin) (f : Frame) (s : State) : State :=
  s.modFlc fun c =>
    { c with transaction := some { origin := origin, frame := f, phase := .sending, window := s.cfg.line.replyWindow, timer := .stopped } }

/-- The same for a frame of the part's own, which takes the own tag (R2 a). -/
def sendOwn (origin : Origin) (f : Frame) (s : State) : State :=
  (sendField origin { f with tag := s.flc.ownTag, src := 63 } s).modFlc fun c => { c with ownTag := c.ownTag + 1 }

/-! ## Taking the head of a queue -/

/-- The judgement of a unicast WRITE by its lookups (R13). -/
def judgeWrite (w : Frame) (s : State) : State :=
  let plan := s.planInForce
  let r := lookups plan w.dst .command kindWrite w.channel.toNat w.payload.length s
  let s1 := r.2
  let owned := (r.1.zip w.payload).findSome? fun (x : Lookup × Word) => match x.1.result with
    | .hit p => if ownerOf s.cfg p = .nobody then none else some (p, x.2)
    | _ => none
  if r.1.any (fun l => l.parityFault || l.result == .multiHit) then refuse w 10 s1
  else match owned with
    | some (p, v) =>
      match s1.authority w.payload.length (ownerOf s.cfg p) v with
      | .forward => sendField (.supervisory w) w s1
      | .refuse reason => refuseAuthority w reason (some { plan := plan, station := w.dst, channel := w.channel }) s1
      | .adopt => quiesce (adopt w p v s1)
    | none =>
      match r.1.find? (fun l => l.result == .miss) with
      | some l =>
        if s.cfg.line.refuseUnmapped then
          logFault { cls := .map, detail := 9, key := some l.key, kind := kindWrite } (refuse w 9 s1)
        else sendField (.supervisory w) w s1
      | none => sendField (.supervisory w) w s1

/-- Takes a frame from the Downstream Queue (R13). -/
def takeSupervisory (w : Frame) (s : State) : State :=
  if w.kind = kindRead then sendField (.supervisory w) w s
  else if w.dst = 0 then
    if s.stc.hold = .held then sendField (.supervisory w) w s else refuseAuthority w 6 none s
  else judgeWrite w s

/-- Takes a Command Queue entry (R18). -/
def takeCommand (e : CommandEntry) (s : State) : State :=
  match commandSearch e.point s with
  | (some a, s1) =>
    sendOwn (.command e.point e.value e.attempt) { kind := kindWrite, dst := a.1, channel := a.2, payload := [e.value] } s1
  | (none, s1) => commandOutcome e.point true s1

/-- Takes a scan entry (R20). -/
def takeScan (e : ScanId) (s : State) : State :=
  let c := s.scanCfg e
  if c.enable then
    sendOwn (.scan e) { kind := kindRead, dst := c.station, channel := c.channel, payload := [word c.span] } s
  else s

/-- One grant of the Field Arbiter, or none when it grants nothing (R12). -/
def grantLine (s : State) : Option State :=
  if s.flc.line = .running ∧ s.flc.transaction = none then
    match s.flc.commandQueue, s.upp.downstream, s.flc.scanPending with
    | e :: rest, _, _ => some (takeCommand e (s.modFlc fun f => { f with commandQueue := rest }))
    | [], w :: ws, e :: es =>
      if s.flc.pairTurn = .downstream then some (serveDownstream w ws s) else some (serveScan e es s)
    | [], w :: ws, [] => some (serveDownstream w ws s)
    | [], [], e :: es => some (serveScan e es s)
    | [], [], [] => none
  else none
where
  /-- Serves the Downstream Queue. -/
  serveDownstream (w : Frame) (ws : List Frame) (s : State) : State :=
    takeSupervisory w ((s.modUpp fun u => { u with downstream := ws }).modFlc fun f => { f with pairTurn := .scan })
  /-- Serves the scan pending set. -/
  serveScan (e : ScanId) (es : List ScanId) (s : State) : State :=
    takeScan e (s.modFlc fun f => { f with scanPending := es, pairTurn := .downstream })

/-- Grants again at once after each grant that ends without a transaction (R12; log entry 13). -/
def grantLoop : Nat → State → State
  | 0, s => s
  | n + 1, s =>
    match grantLine s with
    | some s' => grantLoop n s'
    | none => s

/-! ## Quench -/

/-- A Command Queue entry purged (R21). -/
def purgeCommands (s : State) : State :=
  s.flc.commandQueue.foldl (fun s e => setCommandState e.point .idle s) (s.modFlc fun f => { f with commandQueue := [] })

/-- Entry into QUENCHED (R21); the waiting QUENCHes are answered in order of arrival, which is the
model's choice (log entry 55), and the LAU judges once all records are UNKNOWN (R128; log entry 17). The PSC comes before the GSQ
and the LTU (log entry 68). -/
def enterQuenched (s : State) : State :=
  let waiting := s.flc.quenchWaiting
  let s1 := s.modFlc fun f => { f with line := .quenched, scanPending := [], quenchWaiting := [] }
  let s2 := s1.upp.downstream.foldl (fun s w => refuse w 5 s) (s1.modUpp fun u => { u with downstream := [] })
  let s3 := quiesce (ltuQuench (gsqQuench (pscQuench (lauQuench (purgeCommands s2)))))
  waiting.foldl (fun s tag => answer tag 52 stDone [] s) s3

/-- A QUENCH operation (R21). -/
def quenchOp (tag : Tag) (s : State) : State :=
  match s.flc.line with
  | .quenched => answer tag 52 stDone [] s
  | .quenchPending => s.modFlc fun f => { f with quenchWaiting := f.quenchWaiting ++ [tag] }
  | .running =>
    let s1 := s.modFlc fun f => { f with quenchWaiting := f.quenchWaiting ++ [tag] }
    if s.flc.transaction.isNone then enterQuenched s1 else s1.modFlc fun f => { f with line := .quenchPending }

/-- An UNQUENCH operation (R22), its signal to the PSC, then the GSQ, then the LTU (log entry 68). -/
def unquenchOp (tag : Tag) (s : State) : State :=
  if s.flc.line = .quenched then
    let s1 := answer tag 53 stDone [] (s.modFlc fun f => { f with line := .running })
    quiesce (ltuUnquench (gsqUnquench (pscUnquench s1)))
  else answer tag 53 stNotReady [] s

/-! ## The end of a transaction -/

/-- Outcomes of a field transaction (R11). -/
inductive FieldOutcome where
  | reply (f : Frame)
  | corrupt
  | noReply
  | guardEnd
deriving DecidableEq, Repr

/-- The end of a transaction of origin SUPERVISORY (R16). -/
def endSupervisory (original : Frame) (o : FieldOutcome) (s : State) : State :=
  match o with
  | .reply f =>
    offerUp { frame := f }
      (if f.kind = kindValue then observeValue f s else if f.kind = kindEcho then observeEcho f s else s)
  | .corrupt => refuse original 3 s
  | .noReply => refuse original 2 s
  | .guardEnd => s

/-- A command that got no usable reply (R19). -/
def retryCommand (p : PointId) (v : Word) (attempt : Nat) (s : State) : State :=
  if attempt = 1 ∧ ownerOf s.cfg p ≠ .nobody then
    s.modFlc fun f => { f with commandQueue := f.commandQueue ++ [{ point := p, value := v, attempt := 2 }] }
  else commandOutcome p true s

/-- The end of a transaction of origin COMMAND (R19, R58). A WRITE that a storage fault sent to station 0 ends with GUARD_END and
is taken as one without a reply (log entry 56). -/
def endCommand (p : PointId) (v : Word) (attempt : Nat) (o : FieldOutcome) (s : State) : State :=
  let s1 := match o with
    | .reply f => if f.kind = kindEcho then applyEcho p (f.payload.head?.getD 0) s else s
    | _ => s
  if s1.queued p then s1
  else match o with
    | .reply f => commandOutcome p (!(f.kind == kindEcho)) s1
    | _ => retryCommand p v attempt s1

/-- The end of a field transaction (R15, R16, R19, R20, R21; log entry 14). -/
def endTransaction (t : Transaction) (o : FieldOutcome) (s : State) : State :=
  let s1 := s.modFlc fun f => { f with transaction := none }
  let s2 := match t.origin with
    | .supervisory original => endSupervisory original o s1
    | .command p v attempt => endCommand p v attempt o s1
    | .scan _ => match o with
      | .reply f => if f.kind = kindValue then observeValue f s1 else s1
      | _ => s1
  if s2.flc.line = .quenchPending then enterQuenched s2 else s2

/-- A received frame is the reply of a transaction (R14). -/
def Transaction.isReply (t : Transaction) (f : Frame) : Bool :=
  f.src == t.frame.dst && f.tag == t.frame.tag && f.dst == t.frame.src

/-- The contents of a reply are acceptable (R14). -/
def Transaction.accepts (t : Transaction) (f : Frame) : Bool :=
  let n := f.payload.length
  let own := f.channel == t.frame.channel
  f.reserved == 0 && ((f.kind == kindRefuse && n == 1) ||
    (if t.frame.kind = kindRead then f.kind == kindValue && own && n == t.frame.span + 1
     else f.kind == kindEcho && own && decide (1 ≤ n ∧ n ≤ t.frame.payload.length)))

/-- A frame on the field port (R14). -/
def fieldArrival (ws : List Word) (s : State) : State :=
  match s.flc.transaction with
  | some t =>
    if t.phase = .awaiting ∧ s.flc.line ≠ .quenched then
      match Frame.decode ws with
      | none => endTransaction t .corrupt s
      | some f => if t.isReply f then endTransaction t (if t.accepts f then .reply f else .corrupt) s else s
    else s
  | none => s

/-- The end of the check word of a sent request (R11). -/
def fieldSendEnds (s : State) : State :=
  match s.flc.transaction with
  | some t =>
    if t.phase = .sending then
      let t' : Transaction := if t.frame.dst = 0 then { t with phase := .guard, timer := .start s.now 2 }
        else { t with phase := .awaiting, timer := .start s.now t.window }
      s.modFlc fun f => { f with transaction := some t' }
    else s
  | none => s

/-- The expiry of the timer of a transaction in a phase (R15). -/
def fieldExpiry (phase : Phase) (o : FieldOutcome) (s : State) : State :=
  match s.flc.transaction with
  | some t => if t.phase = phase then onExpiry t.timer s (endTransaction t o) else s
  | none => s

end Sys2Proof.Machine
end

