-- ==== Sys2Proof/Machine/Operands.lean ====
section
/-! DEFINITION. The operand words of management operations (R178): each reader gives the field a word spells, or none where the
word is missing or outside its range, which is answered RANGE. Words are numbered from 0 in the list a command carries. -/

namespace Sys2Proof.Machine

/-- A word in a range of unsigned values. -/
def opIn (ops : List Word) (i lo hi : Nat) : Option Nat :=
  match ops[i]? with
  | some w => if lo ≤ w.toNat ∧ w.toNat ≤ hi then some w.toNat else none
  | none => none

/-- A word 0 or 1 as a flag. -/
def opFlag (ops : List Word) (i : Nat) : Option Bool := (opIn ops i 0 1).map fun n => n == 1

/-- A word naming one of n instances from a first number on. -/
def opIndex (n : Nat) (ops : List Word) (i first : Nat) : Option (Fin n) :=
  match ops[i]? with
  | some w => if h : first ≤ w.toNat ∧ w.toNat - first < n then some ⟨w.toNat - first, h.2⟩ else none
  | none => none

/-- A word naming a point 0 to 255, or none with 256. -/
def opPoint (ops : List Word) (i : Nat) : Option (Option PointId) :=
  match ops[i]? with
  | some w => if h : w.toNat < 256 then some (some ⟨w.toNat, h⟩) else if w.toNat = 256 then some none else none
  | none => none

/-- A signed word. -/
def opInt (ops : List Word) (i : Nat) : Option Int := (ops[i]?).map BitVec.toInt

/-- Lets a parse go on only under a condition. -/
def opCheck (b : Bool) : Option Unit := if b then some () else none

/-! ## Points and scan -/

def pointKindOf (n : Nat) : PointKind :=
  match n with
  | 0 => .unused
  | 1 => .level
  | 2 => .analog
  | 3 => .discrete
  | 4 => .command
  | _ => .feedback

def PointKind.ranged : PointKind → Bool
  | .level | .analog => true
  | _ => false

/-- POINT_SET operands over the fields a point has (R46; log entry 42 for the words its kind does not use). -/
def parsePoint (ops : List Word) (old : PointId → PointCfg) : Option (PointId × PointCfg) := do
  let p ← opIndex 256 ops 0 0
  let kind := pointKindOf (← opIn ops 1 0 5)
  let freshness ← opIn ops 2 0 255
  let lo : Word ← ops[3]?
  let hi : Word ← ops[4]?
  let mode : Word ← ops[5]?
  opCheck (!kind.ranged || decide (lo.toInt ≤ hi.toInt))
  opCheck (!(kind == .level) || decide (mode.toNat ≤ 1))
  let c := old p
  let ranged : PointCfg := if kind.ranged then { c with rawMin := lo, rawMax := hi } else c
  some (p, { ranged with
    kind := kind, freshness := freshness
    errorMode := if kind = .level then (if mode = 1 then .accumulated else .perSample) else c.errorMode })

/-- SCAN_SET operands (R61). -/
def parseScan (ops : List Word) : Option (ScanId × ScanCfg) := do
  let e ← opIndex 32 ops 0 1
  let station ← opIn ops 1 1 61
  let channel ← opIn ops 2 0 15
  let span ← opIn ops 3 1 8
  let interval ← opIn ops 4 1 255
  let enable ← opFlag ops 5
  opCheck (decide (channel + span ≤ 16))
  some (e, { station := BitVec.ofNat 6 station, channel := BitVec.ofNat 4 channel, span := span, interval := interval
             enable := enable })

/-! ## Sumps -/

/-- SUMP_SET operands (Table 4-1); the kinds of the points are checked where the points are known. -/
def parseSump (ops : List Word) : Option (SumpId × SumpCfg) := do
  let k ← opIndex 4 ops 0 1
  let primary ← opPoint ops 1
  let backup ← opPoint ops 2
  let gain ← opIn ops 3 0 65535
  let offset ← opInt ops 4
  let filterK ← opIn ops 5 1 16
  let ring ← opIn ops 6 1 16
  let scale ← opIn ops 7 0 2
  let link ← opFlag ops 8
  opCheck (primary.isSome || backup.isNone)
  opCheck (primary.isNone || !(primary == backup))
  some (k, { primary := primary, backup := backup, gain := gain, offset := offset, filterK := filterK, ringSize := ring
             scale := if scale = 0 then .plain else if scale = 1 then .down else .up, gateLink := link })

/-- GEOMETRY_SET operands (R65). -/
def parseGeometry (ops : List Word) : Option (SumpId × Fin 8 × Option Breakpoint) := do
  let k ← opIndex 4 ops 0 1
  let i ← opIndex 8 ops 1 0
  let present ← opFlag ops 2
  if present then
    let level ← opIn ops 3 0 20000
    let high : Word ← ops[4]?
    let low : Word ← ops[5]?
    some (k, i, some { x := level, y := 65536 * high.toNat + low.toNat })
  else some (k, i, none)

/-! ## Stage, supply, line -/

/-- The ordering of the thresholds of a sump (R84). -/
def thresholdsOrdered (t : Thresholds) : Bool :=
  chained (fun a b => decide (a ≤ b)) ([t.watch, t.alert, t.closure].filter fun x => !(x == 0)) &&
    (t.reopen == 0 || (!(t.closure == 0) && decide (t.reopen < t.closure)))

/-- STAGE_SET operands for the dwells (R84). -/
def parseDwells (ops : List Word) : Option (Nat × Nat) := do
  let descent ← opIn ops 1 10 3600
  let reopen ← opIn ops 2 10 3600
  some (descent, reopen)

/-- STAGE_SET operands for a sump (R84). -/
def parseThresholds (ops : List Word) : Option (SumpId × Thresholds) := do
  let k ← opIndex 4 ops 0 1
  let watch ← opIn ops 1 0 20000
  let alert ← opIn ops 2 0 20000
  let closure ← opIn ops 3 0 20000
  let reopen ← opIn ops 4 0 20000
  let rate ← opIn ops 5 0 32767
  let inflow ← opIn ops 6 0 65535
  let t : Thresholds := { watch := watch, alert := alert, closure := closure, reopen := reopen, alertRate := rate, watchInflow := inflow }
  opCheck (thresholdsOrdered t)
  some (k, t)

/-- PLAN_SET operands (R85). -/
def parsePlans (ops : List Word) : Option (Vector Plan 7) := do
  let a ← opIn ops 0 0 3
  let b ← opIn ops 1 0 3
  let c ← opIn ops 2 0 3
  let d ← opIn ops 3 0 3
  let e ← opIn ops 4 0 3
  let f ← opIn ops 5 0 3
  let g ← opIn ops 6 0 3
  some #v[BitVec.ofNat 2 a, BitVec.ofNat 2 b, BitVec.ofNat 2 c, BitVec.ofNat 2 d, BitVec.ofNat 2 e, BitVec.ofNat 2 f,
    BitVec.ofNat 2 g]

/-- Whether two records' points are the same point. -/
def samePoint (a b : Option PointId) : Bool := a.isSome && a == b

/-- Whether no two of some points are the same point. -/
def distinctPoints : List (Option PointId) → Bool
  | [] => true
  | a :: rest => rest.all (fun b => !samePoint a b) && distinctPoints rest

/-- SUPPLY_SET operands (Table 7-1, R102). -/
def parseSupply (ops : List Word) : Option SupplyCfg := do
  let mains ← opPoint ops 0
  let generator ← opPoint ops 1
  let clear ← opPoint ops 2
  let mainsLimit ← opIn ops 3 0 65535
  let generatorLimit ← opIn ops 4 0 65535
  let factor ← opIn ops 5 100 600
  let key ← opPoint ops 6
  let lifetime ← opIn ops 7 1 60
  opCheck (distinctPoints [mains, generator, clear])
  some { mains := mains, generator := generator, clearToStart := clear, mainsLimit := mainsLimit
         generatorLimit := generatorLimit, motorFactor := factor, panelKey := key, lifetime := lifetime }

/-- LINE_SET operands (R179). -/
def parseLine (ops : List Word) : Option LineCfg := do
  let window ← opIn ops 0 2 50
  let silence ← opIn ops 1 1 60
  let cycle ← opIn ops 2 250 2000
  let policy ← opFlag ops 3
  opCheck (cycle % 250 == 0)
  some { replyWindow := window, silencePeriod := silence, cyclePeriod := cycle, refuseUnmapped := policy }

/-! ## Devices -/

/-- PUMP_SET operands of a pump (Table 8-1). -/
def parsePump (ops : List Word) : Option (PumpId × PumpCfg) := do
  let p ← opIndex 8 ops 0 1
  let enable ← opFlag ops 1
  let sump ← opIndex 4 ops 2 1
  let flow ← opIn ops 3 1 65535
  let kw ← opIn ops 4 0 65535
  let factor ← opIn ops 5 100 600
  let inrush ← opIn ops 6 1 30
  let run ← opPoint ops 7
  let feedback ← opPoint ops 8
  let fault ← opPoint ops 9
  let startConfirm ← opIn ops 10 2 60
  let stopConfirm ← opIn ops 11 2 60
  let off ← opIn ops 12 0 600
  let starts ← opIn ops 13 1 30
  opCheck (!enable || (run.isSome && feedback.isSome && !samePoint feedback fault))
  some (p, { enable := enable, sump := sump, ratedFlow := flow, ratedKw := kw, startFactor := factor, inrush := inrush
             runPoint := run, runFeedback := feedback, faultFeedback := fault, startConfirm := startConfirm
             stopConfirm := stopConfirm, minimumOff := off, startsPerHour := starts })

/-- The checks of R130 over start and stop levels. -/
def pumpingOrdered (c : PumpingCfg) : Bool :=
  let n := c.configured.length
  (c.start.drop n).all (fun x => x == 0) && (c.stop.drop n).all (fun x => x == 0) &&
    chained (fun a b => decide (a < b)) c.configured && chained (fun a b => decide (a < b)) (c.stop.take n) &&
    (c.configured.zip c.stop).all (fun x => decide (x.2 < x.1))

/-- PUMP_SET operands of a sump's pumping settings, from word 2 on (R130). -/
def parsePumping (ops : List Word) : Option (SumpId × PumpingCfg) := do
  let k ← opIndex 4 ops 0 1
  let s1 ← opIn ops 1 0 20000
  let s2 ← opIn ops 2 0 20000
  let s3 ← opIn ops 3 0 20000
  let s4 ← opIn ops 4 0 20000
  let t1 ← opIn ops 5 0 20000
  let t2 ← opIn ops 6 0 20000
  let t3 ← opIn ops 7 0 20000
  let t4 ← opIn ops 8 0 20000
  let limit ← opIn ops 9 1 8
  let c : PumpingCfg := { start := [s1, s2, s3, s4], stop := [t1, t2, t3, t4], runLimit := limit }
  opCheck (pumpingOrdered c)
  some (k, c)

/-- BARRIER_SET operands (Table 9-1). -/
def parseBarrier (ops : List Word) : Option (BarrierId × BarrierCfg) := do
  let b ← opIndex 4 ops 0 1
  let enable ← opFlag ops 1
  let drive ← opPoint ops 2
  let openLimit ← opPoint ops 3
  let closedLimit ← opPoint ops 4
  let presence1 ← opPoint ops 5
  let presence2 ← opPoint ops 6
  let head ← opPoint ops 7
  let kw ← opIn ops 8 0 65535
  let warn ← opIn ops 9 5 120
  let clearance ← opIn ops 10 5 120
  let travel ← opIn ops 11 5 120
  opCheck (!enable || (drive.isSome && openLimit.isSome && closedLimit.isSome && presence1.isSome &&
    distinctPoints [drive, openLimit, closedLimit, presence1, presence2, head]))
  some (b, { enable := enable, drive := drive, openLimit := openLimit, closedLimit := closedLimit, presence1 := presence1
             presence2 := presence2, head := head, motorKw := kw, warn := warn, clearance := clearance, travel := travel })

/-- GATE_SET operands (Table 9-5). -/
def parseGate (ops : List Word) : Option GateCfg := do
  let enable ← opFlag ops 0
  let drive ← opPoint ops 1
  let openLimit ← opPoint ops 2
  let closedLimit ← opPoint ops 3
  let outfall ← opPoint ops 4
  let sump ← opIndex 4 ops 5 1
  let margin ← opIn ops 6 0 5000
  let dwell ← opIn ops 7 10 3600
  let kw ← opIn ops 8 0 65535
  let travel ← opIn ops 9 5 300
  opCheck (!enable || (drive.isSome && openLimit.isSome && closedLimit.isSome && outfall.isSome &&
    distinctPoints [drive, openLimit, closedLimit, outfall]))
  some { enable := enable, drive := drive, openLimit := openLimit, closedLimit := closedLimit, outfall := outfall
         linkedSump := sump, margin := margin, openDwell := dwell, motorKw := kw, travel := travel }

/-- ZONE_SET operands (Table 10-1). -/
def parseZone (ops : List Word) : Option (ZoneId × ZoneCfg) := do
  let z ← opIndex 6 ops 0 1
  let enable ← opFlag ops 1
  let dim ← opPoint ops 2
  let current ← opPoint ops 3
  let luminance ← opPoint ops 4
  let curve ← opIndex 4 ops 5 0
  let kw ← opIn ops 6 0 65535
  let ratedCurrent ← opIn ops 7 0 32767
  let safety ← opIn ops 8 0 100
  let ramp ← opIn ops 9 1 100
  let tolerance ← opIn ops 10 1 100
  opCheck (!enable || (dim.isSome && distinctPoints [dim, current, luminance]))
  some (z, { enable := enable, dim := dim, current := current, luminance := luminance, curve := curve, ratedKw := kw
             ratedCurrent := ratedCurrent, safety := safety, ramp := ramp, tolerance := tolerance })

/-- CURVE_SET operands (R168). -/
def parseCurve (ops : List Word) : Option (Fin 4 × Fin 8 × Option Breakpoint) := do
  let c ← opIndex 4 ops 0 0
  let i ← opIndex 8 ops 1 0
  let present ← opFlag ops 2
  if present then
    let x ← opIn ops 3 0 65535
    let y ← opIn ops 4 0 100
    some (c, i, some { x := x, y := y })
  else some (c, i, none)

/-! ## Maps -/

/-- A KEY in operand words (R40). -/
def parseKey (ops : List Word) (i : Nat) : Option Key := do
  let plan ← opIn ops i 0 3
  let station ← opIn ops (i + 1) 1 61
  let channel ← opIn ops (i + 2) 0 15
  some { plan := BitVec.ofNat 2 plan, station := BitVec.ofNat 6 station, channel := BitVec.ofNat 4 channel }

/-- The entry that a MAP_WRITE with valid 1 spells in its flags word and words 5 to 8 (R34, Table 1-5). -/
def parseFields (flags : Word) (ops : List Word) : Option MapFields := do
  let k ← parseKey ops 4
  let point ← opIn ops 7 0 255
  let global := flags.getLsbD 1
  some { valid := true, isGlobal := global, lock := flags.getLsbD 2
         direction := if flags.getLsbD 3 then .command else .sample
         plan := if global then 0 else k.plan, station := k.station, channel := k.channel, point := BitVec.ofNat 8 point }

/-- The write that a MAP_WRITE asks for (R34). -/
inductive MapRequest where
  | clear (loc : MapLoc)
  | slot (i : Fin 16) (f : MapFields)
  | pinnedAuto (f : MapFields)
  | setWay (i : Fin 128) (w : Fin 2) (f : MapFields)
  | setAuto (f : MapFields)
deriving DecidableEq, Repr

/-- MAP_WRITE operands (R34). -/
def parseMapWrite (ops : List Word) : Option MapRequest := do
  opCheck (decide (8 ≤ ops.length))
  let target ← opIn ops 0 0 3
  let flags ← opIn ops 3 0 15
  let w : Word := BitVec.ofNat 16 flags
  if w.getLsbD 0 then
    let f ← parseFields w ops
    match target with
    | 0 =>
      let i ← opIndex 16 ops 1 0
      some (if f.isGlobal then .pinnedAuto f else .slot i f)
    | 1 => some (.pinnedAuto f)
    | 2 =>
      let i ← opIndex 128 ops 1 0
      let way ← opIndex 2 ops 2 0
      some (if f.isGlobal then .pinnedAuto f else .setWay i way { f with lock := false })
    | _ => some (if f.isGlobal then .pinnedAuto f else .setAuto { f with lock := false })
  else
    match target with
    | 0 => (opIndex 16 ops 1 0).map fun i => .clear (.pinned i)
    | 2 => do
      let i ← opIndex 128 ops 1 0
      let way ← opIndex 2 ops 2 0
      some (.clear (.setMap i way))
    | _ => none

/-- MAP_READ operands (R39). -/
def parseMapRead (ops : List Word) : Option MapLoc := do
  opCheck (decide (3 ≤ ops.length))
  let map ← opIn ops 0 0 1
  if map = 0 then (opIndex 16 ops 1 0).map MapLoc.pinned
  else
    let i ← opIndex 128 ops 1 0
    let way ← opIndex 2 ops 2 0
    some (.setMap i way)

end Sys2Proof.Machine
end

