-- ==== Sys2Proof/Machine/Setup.lean ====
section
/-! DEFINITION. The configuration operations (R46 to R47, R61, R64, R65, R84, R85, R102, R115, R129, R130, R148, R159, R167,
R168, R179) and the map operations that alter the maps. Each gives the status of its ANSWER and the state after it; the BUSY of a
commit in flight is judged where the operations are taken (R178). -/

namespace Sys2Proof.Machine

/-! ## Points and scan -/

/-- Starts a point of a new kind afresh: its queue is released or assigned, and each consumer is told (R46, R52). The consumers, the
events of other blocks that they raise and the LAU's judgements act here to their end, before the ANSWER of the POINT_SET, which is
the model's choice (log entry 89). -/
def changeKind (p : PointId) (c : PointCfg) (s : State) : State :=
  let old := s.pcfg p
  let before := s.point p
  let assigned := if c.kind = .level then s.freeQueue else none
  let s1 := s.modCfg fun t => { t with points := Tab.put t.points p { c with queue := assigned } }
  let s2 := match old.queue with
    | some q => s1.modQueue q fun _ => {}
    | none => s1
  let s3 := match assigned with
    | some q => s2.modQueue q fun _ => {}
    | none => s2
  deliverEvent { point := p, oldRaw := before.raw, oldQuality := before.quality, valueChanged := false, qualityChanged := true }
    (s3.modPoint p fun _ => {})

/-- POINT_SET (R46). A change of kind is told to the consumers before the ANSWER (log entry 89). -/
def pointSetOp (ops : List Word) (s : State) : Nat × State :=
  match parsePoint ops s.pcfg with
  | none => (stRange, s)
  | some (p, c) =>
    let old := s.pcfg p
    if c.kind = .level ∧ old.kind ≠ .level ∧ s.freeQueue = none then (stRange, s)
    else if old.kind = .command ∧ c.kind ≠ .command ∧ ownerOf s.cfg p ≠ .nobody then (stBusy, s)
    else if c.kind = old.kind then (stDone, s.modCfg fun t => { t with points := Tab.put t.points p c })
    else (stDone, changeKind p c s)

/-- SCAN_SET (R61). -/
def scanSetOp (ops : List Word) (s : State) : Nat × State :=
  match parseScan ops with
  | none => (stRange, s)
  | some (e, c) =>
    let s1 := s.modCfg fun t => { t with scan := Tab.put t.scan e c }
    (stDone, if c.enable then startDue e s1 else s1.modPim fun m => { m with scanDue := Tab.put m.scanDue e .stopped })

/-- Whether a point that a record may leave unnamed is of a kind. -/
def State.kindOk (s : State) (kind : PointKind) (o : Option PointId) : Bool :=
  match o with
  | some p => (s.pcfg p).kind == kind
  | none => true

/-! ## Sumps -/

/-- SUMP_SET (R64); a sump that is not CONFIGURED has staging step 0 (R132). A sump that stays CONFIGURED keeps its inflow ring, with
more than N contributions after a lower N, until the volume is re-based (log entry 90). -/
def sumpSetOp (ops : List Word) (s : State) : Nat × State :=
  match parseSump ops with
  | none => (stRange, s)
  | some (k, c) =>
    if s.kindOk .level c.primary && s.kindOk .level c.backup then
      let s1 := s.modCfg fun t => { t with sumps := Tab.put t.sumps k c }
      let s2 := s1.modSump k fun t =>
        if (s.sumpCfg k).configured && c.configured then { t with primed := false, base := none, inflowGood := false }
        else t.fresh
      (stDone, if c.configured then s2 else s2.modPsc fun q => { q with step := Tab.put q.step k (some 0) })
    else (stRange, s)

/-- GEOMETRY_SET (R65). -/
def geometrySetOp (ops : List Word) (s : State) : Nat × State :=
  match parseGeometry ops with
  | none => (stRange, s)
  | some (k, i, b) =>
    let table := Tab.put (Tab.get s.cfg.geometry k) i b
    let s1 := s.modCfg fun t => { t with geometry := Tab.put t.geometry k table }
    (stDone, s1.modSump k fun t =>
      let t' := { t with geometryValid := (validGeometry table).isSome }
      if (s.sumpCfg k).configured then { t' with base := none, inflowGood := false } else t')

/-! ## Stage, supply, line -/

/-- STAGE_SET (R84). -/
def stageSetOp (ops : List Word) (s : State) : Nat × State :=
  match opIn ops 0 0 4 with
  | none => (stRange, s)
  | some 0 => match parseDwells ops with
    | some (d, r) => (stDone, s.modCfg fun t => { t with descentDwell := d, reopenDwell := r })
    | none => (stRange, s)
  | some _ => match parseThresholds ops with
    | some (k, th) => (stDone, s.modCfg fun t => { t with thresholds := Tab.put t.thresholds k th })
    | none => (stRange, s)

/-- PLAN_SET (R85). -/
def planSetOp (ops : List Word) (s : State) : Nat × State :=
  match parsePlans ops with
  | some v => (stDone, s.modCfg fun t => { t with plan := v })
  | none => (stRange, s)

/-- SUPPLY_SET (R115, R102); the LAU judges before the CAU (log entry 61). -/
def supplySetOp (ops : List Word) (s : State) : Nat × State :=
  match parseSupply ops with
  | none => (stRange, s)
  | some c =>
    if [c.mains, c.generator, c.clearToStart, c.panelKey].all fun o => s.kindOk .discrete o then
      let s1 := (s.modCfg fun t => { t with supply := c }).modLau fun l => { l with judgeDue := true }
      (stDone, keyJudge (judgeSupply s1))
    else (stRange, s)

/-- LINE_SET (R179). -/
def lineSetOp (ops : List Word) (s : State) : Nat × State :=
  match parseLine ops with
  | some c => (stDone, s.modCfg fun t => { t with line := c })
  | none => (stRange, s)

/-! ## Devices -/

/-- Whether a transaction of origin COMMAND for a point is in flight (R47). -/
def State.commandInFlight (s : State) (p : PointId) : Bool :=
  match s.flc.transaction with
  | some t => match t.origin with
    | .command q _ _ => q == p
    | _ => false
  | none => false

/-- A command point loses its owner: its Override Table entry is removed with cause RECONFIGURED, its Command Queue entry is
purged (R47, R109). -/
def releasePoint (former : Owner) (p : PointId) (s : State) : State :=
  let s1 := removeOverride p former .reconfigured s
  if s1.queued p then
    let s2 := s1.modFlc fun f => { f with commandQueue := f.commandQueue.filter fun e => !(e.point == p) }
    if s.commandInFlight p then s2 else setCommandState p .idle s2
  else s1

/-- Releases the point a role named before, when the device is disabled or the role names another point (R47). -/
def releaseRole (former : Owner) (wasEnabled isEnabled : Bool) (old new : Option PointId) (s : State) : State :=
  match old with
  | some p => if wasEnabled && (!isEnabled || !(new == some p)) then releasePoint former p s else s
  | none => s

/-- A command point may be named for a role: of kind COMMAND, and owned by nobody else (R47). -/
def State.commandOk (s : State) (owners : List Owner) (o : Option PointId) : Bool :=
  match o with
  | some p => (s.pcfg p).kind == .command && (ownerOf s.cfg p == .nobody || owners.contains (ownerOf s.cfg p))
  | none => true

/-- The duty lists after a PUMP_SET (R129, R131). -/
def dutyAfter (p : PumpId) (old new : PumpCfg) (s : State) : State :=
  if !new.enable then dutyLeave old.sump p s
  else if !old.enable || !(old.sump == new.sump) then dutyToTail new.sump p (dutyLeave old.sump p s)
  else s

/-- PUMP_SET of a pump record (R129; log entry 26). The stop reason, the hour window with its count, the last stop time and the
other running fields that R129 does not name are kept (log entry 96). -/
def pumpSetOp (ops : List Word) (s : State) : Nat × State :=
  match parsePump ops with
  | none => (stRange, s)
  | some (p, c) =>
    let old := s.pumpCfg p
    if !(!c.enable || (s.commandOk [.pump p] c.runPoint && s.kindOk .discrete c.runFeedback && s.kindOk .discrete c.faultFeedback))
    then (stRange, s)
    else match (s.pump p).mode with
      | .queued | .starting | .running | .stopping | .resting => (stBusy, s)
      | mode =>
        let s1 := s.modCfg fun t => { t with pumps := Tab.put t.pumps p c }
        let s2 := dutyAfter p old c (releaseRole (.pump p) old.enable c.enable old.runPoint c.runPoint s1)
        let s3 := s2.modPump p fun t => { t with postDeferred := false }
        (stDone,
          if !c.enable then pumpGo p .disabled s3
          else if mode = .faulted then s3
          else pumpRederive p (pumpGo p .unknown s3))

/-- PUMP_SET of a sump's pumping settings (R130). -/
def pumpingSetOp (ops : List Word) (s : State) : Nat × State :=
  match parsePumping ops with
  | none => (stRange, s)
  | some (k, c) =>
    if c.runLimit < s.countPumps k PumpMode.claims then (stBusy, s)
    else
      (stDone, (s.modCfg fun t => { t with pumping := Tab.put t.pumping k c }).modPsc fun q =>
        { q with step := Tab.put q.step k ((Tab.get q.step k).map fun n => min n c.configured.length) })

/-- BARRIER_SET (R148). The LAU judges a withdrawal before the re-derivation (R121). The drive's RECONFIGURED event comes before the
head's (log entry 69), the Start Queue entry is withdrawn in HELD too (log entry 74), and a barrier disabled in a fault state keeps its
cause and reversal count (log entry 75). The head fault flag and, outside the fault states too, the reversal count are kept (log entry
87); the aspect last commanded is forgotten at a new head point and with the barrier UNKNOWN or DISABLED (log entry 41). -/
def barrierSetOp (ops : List Word) (s : State) : Nat × State :=
  match parseBarrier ops with
  | none => (stRange, s)
  | some (b, c) =>
    let old := s.barrierCfg b
    let roles : List Owner := [.barrier b, .signal b]
    if !(!c.enable || (s.commandOk roles c.drive && s.commandOk roles c.head &&
        [c.openLimit, c.closedLimit, c.presence1, c.presence2].all fun o => s.kindOk .discrete o)) then (stRange, s)
    else
      let t := s.barrier b
      if t.mode.moves then (stBusy, s)
      else
        let s1 := s.modCfg fun t => { t with barriers := Tab.put t.barriers b c }
        let s2 := releaseRole (.signal b) old.enable c.enable old.head c.head
          (releaseRole (.barrier b) old.enable c.enable old.drive c.drive s1)
        let s3 := if old.head = c.head then s2 else s2.modBarrier b fun t => { t with aspectSent := none }
        let halt (s : State) : State := (withdraw (.barrier b) s).modBarrier b fun t =>
          { t with warnTimer := .stopped, clearTimer := .stopped, travelTimer := .stopped, postDeferred := false }
        (stDone,
          if !c.enable then barrierGo b .disabled (halt s3)
          else if t.mode.isFault then summaryReport s3
          else barrierRederiveUnknown b (lauSettle (barrierGo b .unknown (halt s3))))

/-- GATE_SET (R159). The LAU judges a withdrawal before the re-derivation (R121). The Start Queue entry is withdrawn in HELD too (log
entry 74), and a gate disabled in FAULT keeps its cause (log entry 75). -/
def gateSetOp (ops : List Word) (s : State) : Nat × State :=
  match parseGate ops with
  | none => (stRange, s)
  | some c =>
    let old := s.cfg.gate
    if !(!c.enable || (s.commandOk [.gate] c.drive && s.kindOk .discrete c.openLimit && s.kindOk .discrete c.closedLimit &&
        s.kindOk .analog c.outfall)) then (stRange, s)
    else if s.gsq.gate.mode.moves then (stBusy, s)
    else
      let mode := s.gsq.gate.mode
      let s1 := releaseRole .gate old.enable c.enable old.drive c.drive (s.modCfg fun t => { t with gate := c })
      let halt (s : State) : State := (withdraw .gate s).modGate fun g =>
        { g with dwellTimer := .stopped, travelTimer := .stopped, postDeferred := false }
      (stDone,
        if !c.enable then gateGo .disabled (halt s1)
        else if mode = .fault then s1
        else gateRederiveUnknown (lauSettle (gateGo .unknown (halt s1))))

/-- ZONE_SET (R167). The LAU judges a withdrawal before the re-derivation (R121). The commanded level, target, curve value, fault flags
and retry counter are kept (log entry 84). -/
def zoneSetOp (ops : List Word) (s : State) : Nat × State :=
  match parseZone ops with
  | none => (stRange, s)
  | some (z, c) =>
    let old := s.zoneCfg z
    if !(!c.enable || (s.commandOk [.zone z] c.dim && s.kindOk .feedback c.current && s.kindOk .analog c.luminance)) then
      (stRange, s)
    else
      let s1 := s.modCfg fun t => { t with zones := Tab.put t.zones z c }
      let s2 := withdraw (.zone z) (releaseRole (.zone z) old.enable c.enable old.dim c.dim s1)
      let s3 := lauSettle (s2.modZone z fun t =>
        { t with mode := if c.enable then .unknown else .disabled, postDeferred := false, reserve := none, faultCounter := 0 })
      (stDone, zoneReport z
        (if c.enable && !(s.stc.hold == .held) && !(s.flc.line == .quenched) then zoneRederive z s3 else s3))

/-- CURVE_SET (R168). -/
def curveSetOp (ops : List Word) (s : State) : Nat × State :=
  match parseCurve ops with
  | some (c, i, b) =>
    (stDone, s.modCfg fun t => { t with curves := Tab.put t.curves c (Tab.put (Tab.get t.curves c) i b) })
  | none => (stRange, s)

/-! ## Maps -/

/-- MAP_WRITE (R34 to R38): status, data words and state. -/
def mapWriteOp (ops : List Word) (s : State) : Nat × List Word × State :=
  match parseMapWrite ops with
  | none => (stRange, [], s)
  | some r => match r with
    | .clear l => (stDone, locWords l, invalidate l s)
    | .slot i f => (stDone, locWords (.pinned i), writePinned i f s)
    | .pinnedAuto f => match placePinned f s with
      | some (l, s') => (stDone, locWords l, s')
      | none => (stMapFull, [], s)
    | .setWay i w f =>
      if setIndex f.plan f.station f.channel = i then (stDone, locWords (.setMap i w), writeSet i w f s)
      else (stIndexMismatch, [], s)
    | .setAuto f =>
      let r := placeSet f s
      (stDone, locWords r.1, r.2)

/-- DEMAP_KEY (R40). -/
def demapKeyOp (ops : List Word) (s : State) : Nat × List Word × State :=
  match parseKey ops 0 with
  | some k =>
    let r := demapOfKey k s
    (stDone, [word r.1], r.2)
  | none => (stRange, [], s)

/-- DEMAP_PLAN (R41). -/
def demapPlanOp (ops : List Word) (s : State) : Nat × List Word × State :=
  match opIn ops 0 0 3 with
  | some p =>
    let plan : Plan := BitVec.ofNat 2 p
    let r := demap (fun f => f.plan == plan && !f.isGlobal && !f.lock) (fun f => f.plan == plan) s
    (stDone, [word r.1], r.2)
  | none => (stRange, [], s)

/-- DEMAP_ALL (R41). -/
def demapAllOp (s : State) : Nat × List Word × State :=
  let r := demap (fun f => !f.lock) (fun _ => true) s
  (stDone, [word r.1], r.2)

/-! ## Device resets -/

/-- PUMP_RESET (R141). -/
def pumpResetOp (ops : List Word) (s : State) : Nat × State :=
  match opIndex 8 ops 0 1 with
  | none => (stRange, s)
  | some p =>
    let c := s.pumpCfg p
    let faultOne := match c.faultFeedback with
      | some q => (s.point q).raw == 1
      | none => false
    if (s.pump p).mode = .faulted ∧ s.goodAt c.runFeedback 0 ∧ faultOne = false then
      (stDone, pumpSettle p (s.modPump p fun t => { t with fault := 0 }))
    else (stNotReady, s)

/-- BARRIER_RESET of a barrier (R162). -/
def barrierResetOne (b : BarrierId) (s : State) : Nat × State :=
  let t := s.barrier b
  if t.mode.isFault then
    if s.limitsGood b && !bothLimits b s then
      let s1 := barrierRederive b (s.modBarrier b fun t => { t with fault := 0, reversals := 0 })
      (stDone, if s.stc.hold = .running then barrierEval b s1 else s1)
    else (stNotReady, s)
  else if t.mode.moves then (stBusy, s)
  else (stNotReady, if t.headFault then aspectJudge true b s else s)

/-- BARRIER_RESET of the gate (R162). -/
def gateReset (s : State) : Nat × State :=
  let g := s.gsq.gate
  if g.mode = .fault then
    if s.gateLimitsGood && !(s.limitSet s.cfg.gate.openLimit && s.limitSet s.cfg.gate.closedLimit) then
      let s1 := gateRederive (s.modGate fun g => { g with fault := 0 })
      (stDone, if s.stc.hold = .running then gateEval s1 else s1)
    else (stNotReady, s)
  else if g.mode.moves then (stBusy, s)
  else (stNotReady, s)

/-- BARRIER_RESET (R162). -/
def barrierResetOp (ops : List Word) (s : State) : Nat × State :=
  match opIn ops 0 0 4 with
  | none => (stRange, s)
  | some 0 => gateReset s
  | some _ => match opIndex 4 ops 0 1 with
    | some b => barrierResetOne b s
    | none => (stRange, s)

end Sys2Proof.Machine
end

