-- ==== Sys2Proof/Machine/Records.lean ====
section
/-! DEFINITION. The data words of the reads: POINT_GET, MAP_READ, MISS_GET, FAULT_GET, the nine record classes (Table 1-6), and
the parts of the Snapshot Buffer (R181, R182). -/

namespace Sys2Proof.Machine

/-- POINT_GET (R60); a field of another kind is reported as 0 (Table 3-1 note 1). -/
def pointWords (s : State) (p : PointId) : List Word :=
  let c := s.pcfg p
  let t := s.point p
  let used := !(c.kind == .unused)
  let isCommand := c.kind == .command
  let owner := if isCommand then ownerOf s.cfg p else .nobody
  [ word c.kind.code,
    if used then word c.freshness else 0,
    if used then word (s.pointAge p) else 0,
    if used then qualityWord c.kind t else 0,
    if used && !isCommand then t.raw else 0,
    if c.kind.ranged then c.rawMin else 0,
    if c.kind.ranged then c.rawMax else 0,
    if c.kind == .level && c.errorMode == .accumulated then 1 else 0,
    (match c.queue with
      | some q => word q.val
      | none => 8),
    (match owner with
      | .nobody => 0
      | .pump _ => 1
      | .barrier _ => 2
      | .signal _ => 3
      | .gate => 4
      | .zone _ => 5),
    (match owner with
      | .nobody => 0
      | .pump i => word (i.val + 1)
      | .barrier b => word (b.val + 1)
      | .signal b => word (b.val + 1)
      | .gate => Config.unstatedWord 2 s.free
      | .zone z => word (z.val + 1)),
    if used then wordBool t.changed else 0,
    if isCommand then t.commanded else 0,
    if isCommand then t.confirmed else 0 ]

/-- MAP_READ (R39). -/
def mapReadWords (s : State) (l : MapLoc) : List Word :=
  let e := s.mapEntry l
  [mapFlags l e, e.fields.plan.zeroExtend 16, e.fields.station.zeroExtend 16, e.fields.channel.zeroExtend 16,
    e.fields.point.zeroExtend 16]

/-- MISS_GET (R33). -/
def missWords (m : MissCapture) : List Word :=
  [wordBool m.full, m.key.plan.zeroExtend 16, m.key.station.zeroExtend 16, m.key.channel.zeroExtend 16, m.kind.zeroExtend 16,
    word m.count]

/-- FAULT_GET (R44); an absent key is reported as station 0 with PLAN 0 and channel 0, and the age of a record that nothing has
written rises from POR (log entry 57). -/
def faultWords (s : State) : List Word :=
  let f := s.pmu.fault
  let k := f.stored.key.getD {}
  [wordBool f.fv, wordBool f.ow, word f.stored.cls.code, word f.stored.detail, k.plan.zeroExtend 16, k.station.zeroExtend 16,
    k.channel.zeroExtend 16, word (mapWord f.stored.loc), word (mapIndex f.stored.loc), f.stored.kind.zeroExtend 16,
    word (ageUnits s.now f.writtenAt)]

/-- RECORD_GET of class STAGE (R100). -/
def stageWords (s : State) : List Word :=
  let c := s.stc
  [word c.stage.code, word (min 65535 ((s.now - c.enteredAt) / 1000)), word c.cause.sump, word c.cause.test,
    word c.demanded.code, word c.confirm, secondsLeft s.now c.descent, secondsLeft s.now c.reopen, word c.hold.code,
    s.planInForce.zeroExtend 16, s.stageFlags]

/-- RECORD_GET of class SUPPLY (R127); the head class is 0 with an empty queue (log entry 36). -/
def supplyWords (s : State) : List Word :=
  let l := s.lau
  [word l.mode.code, word s.allowance, word l.committed, word l.pumpPart, word l.motorPart, word l.lightingPart,
    word l.inrushPart, word l.queue.length,
    (match l.queue with
      | r :: _ => word r.device.code
      | [] => 0),
    (match l.queue with
      | r :: _ => word r.cls
      | [] => 0),
    word s.headWait,
    (match l.window with
      | some w => word w.device.code
      | none => 0),
    (match l.window with
      | some w => word (ceilDiv (w.timer.left s.now) 100)
      | none => 0),
    s.supplyFlags]

/-- The remaining time of the entry nearest its expiry, in minutes rounded up (R113). -/
def State.nearestExpiry (s : State) : Nat :=
  match s.cau.overrides with
  | [] => 0
  | e :: rest => rest.foldl (fun n x => min n (x.minutesLeft s.now)) (e.minutesLeft s.now)

/-- RECORD_GET of class AUTHORITY (R113). -/
def authorityWords (s : State) : List Word :=
  [wordPoint s.cfg.supply.panelKey, wordBool s.cau.keyLocal, word s.keyQuality, wordBool s.cau.keyChanged,
    word s.cfg.supply.lifetime, word s.cau.overrides.length, word s.nearestExpiry]

/-- RECORD_GET of class SUMP (R82). -/
def sumpWords (s : State) (k : SumpId) : List Word :=
  let t := s.sumpShown k
  [word t.source.code, word t.levelQuality.code, word t.cycleLevel, word (filteredOf t.filter), highWord t.filter.toNat,
    lowWord t.filter.toNat, highWord t.volume, lowWord t.volume, wordInt t.inflow, wordBool (!t.inflowGood), wordInt t.rate,
    word t.blindCount, word t.ring.length, s.sumpFlags k]

/-- The place of a pump in its duty list, 1 to 8, or 0 when DISABLED (R146). -/
def State.dutyPlace (s : State) (p : PumpId) : Nat :=
  if (s.pump p).mode = .disabled then 0
  else match (s.dutyList (s.pumpCfg p).sump).findIdx? (fun q => q == p) with
    | some i => i + 1
    | none => 0

/-- The run minutes of a pump (R136). -/
def State.runMinutes (s : State) (p : PumpId) : Nat := min 4294967295 (s.runTime p / 60000)

/-- RECORD_GET of class PUMP (R146). -/
def pumpWords (s : State) (p : PumpId) : List Word :=
  let t := s.pump p
  [word t.mode.code, word t.stopReason.code, word t.fault, word (s.dutyPlace p), highWord (s.runMinutes p),
    lowWord (s.runMinutes p), highWord t.startCount, lowWord t.startCount, word t.startsInWindow,
    secondsLeft s.now t.hourWindow, secondsLeft s.now t.offTimer, s.pumpFlags p] ++ s.entryWords (s.pumpCfg p).runPoint

/-- RECORD_GET of class BARRIER (R165; log entry 32 for paused timers). -/
def barrierWords (s : State) (b : BarrierId) : List Word :=
  let t := s.barrier b
  [word t.mode.code, word t.fault, word t.reversals,
    (match t.aspect with
      | some a => word a.code
      | none => 4),
    (if t.warnTimer.isRunning then secondsLeft s.now t.warnTimer else runningSeconds s.now t.clearTimer),
    secondsLeft s.now t.travelTimer, s.barrierFlags b] ++
  s.entryWords (s.barrierCfg b).drive ++ s.entryWords (s.barrierCfg b).head

/-- RECORD_GET of class GATE (R165; log entry 7 for words the spec leaves without a value). -/
def gateWords (s : State) : List Word :=
  let c := s.cfg.gate
  let g := s.gsq.gate
  [word g.mode.code, word g.fault,
    (match c.outfall with
      | some p => (s.point p).raw
      | none => Config.unstatedWord 0 s.free),
    (match dataFor s.gsq.data c.linkedSump with
      | some d => word d.filtered
      | none => Config.unstatedWord 1 s.free),
    secondsLeft s.now g.dwellTimer, secondsLeft s.now g.travelTimer, s.gateFlags] ++ s.entryWords c.drive

/-- RECORD_GET of class ZONE (R175). -/
def zoneWords (s : State) (z : ZoneId) : List Word :=
  let t := s.zone z
  [word t.mode.code, word t.level, word t.target, word t.curveValue, word (s.zoneCfg z).safety, word (s.increment z),
    (match t.reserve with
      | some r => word r
      | none => 0),
    word (Tab.get s.lau.zoneLoad z), word t.faultCounter, word (s.measured z), word (s.expected z), s.zoneFlags z] ++
  s.entryWords (s.zoneCfg z).dim

/-- RECORD_GET of class LEVEL_QUEUE (R56). -/
def queueWords (s : State) (q : QueueId) : List Word :=
  let t := s.levelQueue q
  let holder := s.queueHolder q
  [wordPoint holder,
    (match holder with
      | some p => if (s.pcfg p).errorMode = .accumulated then 1 else 0
      | none => Config.unstatedWord 3 s.free),
    word t.entries.length, wordBool t.overrun, wordBool t.accInvalid, wordBool t.accRange]

/-! ## The Snapshot Buffer -/

/-- The parts of one record: heading words, then at most 12 fields (R182). -/
def snapshotParts (cls index : Nat) (fields : List Word) : List (List Word) :=
  if fields.length ≤ 12 then [word cls :: word index :: fields]
  else [word cls :: word index :: fields.take 12, word cls :: word (index + 12 * 256) :: fields.drop 12]

/-- The 44 parts of a snapshot taken now (R181). -/
def snapshotNow (s : State) : List (List Word) :=
  snapshotParts 0 0 (stageWords s) ++ snapshotParts 1 0 (supplyWords s) ++
  fourIds.flatMap (fun k => snapshotParts 3 (k.val + 1) (sumpWords s.atCompletion k)) ++
  pumpIds.flatMap (fun p => snapshotParts 4 (p.val + 1) (pumpWords s p)) ++
  fourIds.flatMap (fun b => snapshotParts 5 (b.val + 1) (barrierWords s b)) ++
  snapshotParts 6 0 (gateWords s) ++
  zoneIds.flatMap (fun z => snapshotParts 7 (z.val + 1) (zoneWords s z))

/-- A read that may have returned a free value takes the next index of free values (log entry 7). -/
def State.nextFree (s : State) : State := { s with free := s.free + 1 }

end Sys2Proof.Machine
end

