-- ==== Sys2Proof/Machine/Reset.lean ====
section
/-! DEFINITION. Power-on reset from the Table Store (R184, R10, R23, R45, R63, R83, R101, R114, R128, R147, R166, R176), the
RESTART (R185), and the commit (R183). -/

namespace Sys2Proof.Machine

/-! ## Running state after POR and after RESTART, from a configuration and a time -/

/-- The PIM (R63). -/
def resetPim (t : Tables) (now : Nat) : Pim :=
  { scanDue := t.scan.map fun c => if c.enable then .start now (100 * c.interval) else .stopped }

/-- The SAU (R83). -/
def resetSau (t : Tables) (now : Nat) : Sau :=
  { sumps := t.geometry.map fun g => { geometryValid := (validGeometry g).isSome }
    cycleTimer := .start now t.line.cyclePeriod, timerPeriod := t.line.cyclePeriod }

/-- The STC (R101); its flags of the GSQ's and the PSC's reports are 0 until those are made. -/
def resetStc (now : Nat) : Stc :=
  { enteredAt := now, derive := .start now 10000, allClosed := false, allOpen := false, pscReady := false, gsqReady := false }

/-- The CAU (R114). -/
def resetCau (t : Tables) : Cau := { keyLocal := t.supply.panelKey.isSome }

/-- The LAU (R128): a zone that is not DISABLED counts at its rated kW. -/
def resetLau (t : Tables) : Lau :=
  { clearToStart := t.supply.clearToStart.isNone
    zoneLoad := t.zones.map fun c => if c.enable then c.ratedKw else 0 }

/-- The mode of a pump record that is set anew (R147). -/
def pumpModeOf (c : PumpCfg) : PumpMode := if c.enable then .unknown else .disabled

/-- The duty list of a sump after POR (R131). -/
def resetDuty (t : Tables) (k : SumpId) : List PumpId :=
  pumpIds.filter fun p => (Tab.get t.pumps p).enable && (Tab.get t.pumps p).sump == k

/-- The PSC after POR (R147), the start sequence number of each pump 0 as the counter is (log entry 72); a DISABLED pump takes the
values of an enabled one (log entry 83). -/
def resetPsc (t : Tables) : Psc :=
  { pumps := t.pumps.map fun c => { mode := pumpModeOf c }
    duty := #v[resetDuty t 0, resetDuty t 1, resetDuty t 2, resetDuty t 3] }

/-- The PSC after RESTART: duty lists, run time, start counts and hour windows are kept (R147); the stop reason is NORMAL and no
completion data is held (log entry 62), and the parts of a minute of the run time are kept (log entry 81). The start sequence number
of each pump is 0 as the counter is (log entry 72). A DISABLED pump takes the values of an enabled one, its fault cause none among them
(log entry 83). -/
def restartPsc (s : State) : Psc :=
  { pumps := (s.cfg.pumps.zip s.psc.pumps).map fun x =>
      { mode := pumpModeOf x.1
        hourWindow := x.2.hourWindow, startsInWindow := x.2.startsInWindow, startCount := x.2.startCount
        runMs := x.2.runMs + (match x.2.runningSince with
          | some t => s.now - t
          | none => 0) }
    duty := s.psc.duty }

/-- The GSQ (R166), before its first reports; a DISABLED barrier or gate takes the values of an enabled one (log entry 83). -/
def resetGsq (t : Tables) : Gsq :=
  { barriers := t.barriers.map fun c => { mode := if c.enable then .unknown else .disabled }
    gate := { mode := if t.gate.enable then .unknown else .disabled }
    reported := none }

/-- The LTU (R176); a DISABLED zone takes the values of an enabled one (log entry 83). -/
def resetLtu (t : Tables) (now : Nat) : Ltu :=
  { zones := t.zones.map fun c => { mode := if c.enable then .unknown else .disabled }, timer := .start now 1000 }

/-- The reports that the PSC and the GSQ make once their records are set (R144, R158). -/
def firstReports (s : State) : State := quiesce (gsqReadiness (summaryReport (pscReadiness s)))

/-! ## Power-on reset -/

/-- A map entry loaded from the store (R45). -/
def loadEntry (f : MapFields) : MapEntry := .written f false

/-- POR (R184): the store is read, each block takes its part of the image or its defaults, and its POR values. The commands that
wait, the power-fail pin and the index of free values are not the part's (log entry 1). -/
def por (s : State) : State :=
  let cfg : Tables := match s.mgu.store with
    | some i => i.tables
    | none => {}
  let pmu : Pmu := match s.mgu.store with
    | some i => { pinned := i.pinned.map loadEntry, sets := i.sets.map loadEntry }
    | none => {}
  firstReports
    { pending := s.pending, free := s.free, powerFail := s.powerFail, cfg := cfg, pmu := pmu
      pim := resetPim cfg 0, sau := resetSau cfg 0, stc := resetStc 0, cau := resetCau cfg, lau := resetLau cfg
      psc := resetPsc cfg, gsq := resetGsq cfg, ltu := resetLtu cfg 0
      mgu := { store := s.mgu.store, storeInvalid := s.mgu.store.isNone } }

/-! ## RESTART -/

/-- The UPP after RESTART (R10; log entry 40 for the transmitter). -/
def restartUpp (s : State) : Upp :=
  { transmitter := s.upp.transmitter, link := s.upp.link
    silence := if s.upp.link = .up then .start s.now (1000 * s.cfg.line.silencePeriod) else .stopped }

/-- The performance of a RESTART, taken whole (R185). -/
def restartPerformed (s : State) : State :=
  firstReports
    { s with
      signals := [], upp := restartUpp s, flc := {}, pim := resetPim s.cfg s.now, sau := resetSau s.cfg s.now
      stc := resetStc s.now, cau := resetCau s.cfg, lau := resetLau s.cfg, psc := restartPsc s, gsq := resetGsq s.cfg
      ltu := resetLtu s.cfg s.now
      mgu := { s.mgu with snapshot := none, restart := .none } }

/-! ## The commit -/

/-- The image of the tables as they stand (Table 11-3). -/
def State.image (s : State) : StoreImage :=
  { tables := s.cfg, pinned := s.pmu.pinned.map MapEntry.fields, sets := s.pmu.sets.map MapEntry.fields }

/-- STORE_COMMIT with no commit in flight (R183; log entry 8 for the store while it is rewritten). -/
def commitOp (tag : Tag) (s : State) : State :=
  if s.powerFail then answer tag 57 stNotReady [] s
  else s.modMgu fun m => { m with commit := some { tag := tag, image := s.image }, store := none }

/-- The completion of a commit (R183, R184). -/
def commitCompletes (s : State) : State :=
  match s.mgu.commit with
  | some c =>
    answer c.tag 57 stDone []
      (s.modMgu fun m => { m with commit := none, store := some c.image, storeInvalid := false })
  | none => s

end Sys2Proof.Machine
end

