-- ==== Sys2Proof/Machine/Manage.lean ====
section
/-! DEFINITION. The Management Unit (chapter 11): the taking of each management operation with its ANSWER (R177, R178), the
operations that wait for the completion of a DRAINAGE CYCLE (R66), and the operation that a MANAGE frame names (Table 1-5). -/

namespace Sys2Proof.Machine

/-! ## Taking and answering -/

/-- Takes an operation: BUSY in RESTART_PENDING (R185), and BUSY for one that alters the stored image while a commit is in flight
(R178). -/
def takeOp (tag : Tag) (code : Nat) (stored : Bool) (act : State → State) (s : State) : State :=
  if s.mgu.restart ≠ .none ∨ (stored = true ∧ s.mgu.commit.isSome = true) then answer tag code stBusy [] s
  else act s

/-- Offers the ANSWER of an operation without data. -/
def reply (tag : Tag) (code : Nat) (r : Nat × State) : State := answer tag code r.1 [] r.2

/-- Offers the ANSWER of an operation with data. -/
def replyData (tag : Tag) (code : Nat) (r : Nat × List Word × State) : State := answer tag code r.1 r.2.1 r.2.2

/-- A configuration operation without data (R178). -/
def configure (tag : Tag) (code : Nat) (op : State → Nat × State) (s : State) : State :=
  takeOp tag code true (fun s => reply tag code (op s)) s

/-- A map operation that alters the maps (R178). -/
def alterMaps (tag : Tag) (code : Nat) (op : State → Nat × List Word × State) (s : State) : State :=
  takeOp tag code true (fun s => replyData tag code (op s)) s

/-! ## Reads -/

/-- A RECORD_GET of a class (code 32): operands index and clear; the data are formed before the clearing. -/
def recordOp (n : Nat) (first : Nat) (data : State → Fin n → List Word) (clear : Fin n → State → State) (ops : List Word)
    (s : State) : Nat × List Word × State :=
  match opIndex n ops 0 first, opFlag ops 1 with
  | some i, some c => (stDone, data s i, if c then clear i s else s)
  | _, _ => (stRange, [], s)

def recordGet (tag : Tag) (op : State → Nat × List Word × State) (s : State) : State :=
  takeOp tag 32 false (fun s => replyData tag 32 (op s)) s

def stageRead (ops : List Word) (s : State) : Nat × List Word × State :=
  recordOp 1 0 (fun s _ => stageWords s) (fun _ s => s) ops s

def supplyRead (ops : List Word) (s : State) : Nat × List Word × State :=
  recordOp 1 0 (fun s _ => supplyWords s) (fun _ s => s) ops s

def authorityRead (ops : List Word) (s : State) : Nat × List Word × State :=
  recordOp 1 0 (fun s _ => authorityWords s) (fun _ s => s.modCau fun c => { c with keyChanged := false }) ops s

def sumpRead (ops : List Word) (s : State) : Nat × List Word × State :=
  recordOp 4 1 sumpWords (fun k s => s.modSump k SumpState.clearSticky) ops s

def pumpRead (ops : List Word) (s : State) : Nat × List Word × State := recordOp 8 1 pumpWords (fun _ s => s) ops s

def barrierRead (ops : List Word) (s : State) : Nat × List Word × State := recordOp 4 1 barrierWords (fun _ s => s) ops s

def gateRead (ops : List Word) (s : State) : Nat × List Word × State :=
  recordOp 1 0 (fun s _ => gateWords s) (fun _ s => s) ops s

def zoneRead (ops : List Word) (s : State) : Nat × List Word × State := recordOp 6 1 zoneWords (fun _ s => s) ops s

def queueRead (ops : List Word) (s : State) : Nat × List Word × State :=
  recordOp 8 0 queueWords (fun q s => s.modQueue q clearQueueFlags) ops s

/-- MAP_READ (R39). -/
def mapReadOp (ops : List Word) (s : State) : Nat × List Word × State :=
  match parseMapRead ops with
  | some l => (stDone, mapReadWords s l, s)
  | none => (stRange, [], s)

/-- MISS_GET (R33). -/
def missGetOp (ops : List Word) (s : State) : Nat × List Word × State :=
  match opFlag ops 0 with
  | some c => (stDone, missWords s.pmu.miss, if c then s.modPmu fun m => { m with miss := {} } else s)
  | none => (stRange, [], s)

/-- FAULT_GET (R44). -/
def faultGetOp (ops : List Word) (s : State) : Nat × List Word × State :=
  match opFlag ops 0 with
  | some c =>
    (stDone, faultWords s, if c then s.modPmu fun m => { m with fault := { m.fault with fv := false, ow := false } } else s)
  | none => (stRange, [], s)

/-- POINT_GET (R60). -/
def pointGetOp (ops : List Word) (s : State) : Nat × List Word × State :=
  match opIndex 256 ops 0 0 with
  | some p => (stDone, pointWords s p, s.nextFree.modPoint p fun t => { t with changed := false })
  | none => (stRange, [], s)

/-- SNAPSHOT_TAKE (R181). -/
def snapshotTakeOp (s : State) : Nat × List Word × State :=
  (stDone, [], s.nextFree.modMgu fun m => { m with snapshot := some (snapshotNow s, 0) })

/-- SNAPSHOT_NEXT (R182). -/
def snapshotNextOp (s : State) : Nat × List Word × State :=
  match s.mgu.snapshot with
  | some (parts, i) => match parts[i]? with
    | some part => (stDone, part, s.modMgu fun m => { m with snapshot := some (parts, i + 1) })
    | none => (stDone, [15, 0], s)
  | none => (stDone, [15, 0], s)

/-! ## The operations of Table 1-5 -/

def manageMapWrite (tag : Tag) (ops : List Word) (s : State) : State := alterMaps tag 1 (mapWriteOp ops) s
def manageMapRead (tag : Tag) (ops : List Word) (s : State) : State :=
  takeOp tag 2 false (fun s => replyData tag 2 (mapReadOp ops s)) s
def manageDemapKey (tag : Tag) (ops : List Word) (s : State) : State := alterMaps tag 3 (demapKeyOp ops) s
def manageDemapPlan (tag : Tag) (ops : List Word) (s : State) : State := alterMaps tag 4 (demapPlanOp ops) s
def manageDemapAll (tag : Tag) (s : State) : State := alterMaps tag 5 demapAllOp s
def manageMissGet (tag : Tag) (ops : List Word) (s : State) : State :=
  takeOp tag 6 false (fun s => replyData tag 6 (missGetOp ops s)) s
def managePointSet (tag : Tag) (ops : List Word) (s : State) : State := configure tag 16 (pointSetOp ops) s
def managePointGet (tag : Tag) (ops : List Word) (s : State) : State :=
  takeOp tag 17 false (fun s => replyData tag 17 (pointGetOp ops s)) s
def manageScanSet (tag : Tag) (ops : List Word) (s : State) : State := configure tag 18 (scanSetOp ops) s

/-- Puts an operation among those that wait for the completion of the cycle in flight (R66). -/
def deferOp (d : Deferred) (s : State) : State := s.modSau fun a => { a with deferred := a.deferred ++ [d] }

/-- SUMP_SET as taken with no cycle in flight, or at a completion (R66, R178). -/
def takeSumpSet (tag : Tag) (ops : List Word) (s : State) : State :=
  if s.mgu.commit.isSome then answer tag 19 stBusy [] s else reply tag 19 (sumpSetOp ops s)

/-- GEOMETRY_SET as taken with no cycle in flight, or at a completion (R66, R178). -/
def takeGeometrySet (tag : Tag) (ops : List Word) (s : State) : State :=
  if s.mgu.commit.isSome then answer tag 20 stBusy [] s else reply tag 20 (geometrySetOp ops s)

def manageSumpSet (tag : Tag) (ops : List Word) (s : State) : State :=
  takeOp tag 19 false (fun s => if s.sau.cycle.isSome then deferOp (.sumpSet tag ops) s else takeSumpSet tag ops s) s
def manageGeometrySet (tag : Tag) (ops : List Word) (s : State) : State :=
  takeOp tag 20 false (fun s => if s.sau.cycle.isSome then deferOp (.geometrySet tag ops) s else takeGeometrySet tag ops s) s

/-- PUMP_SET: word 1 of 0 selects the pumping settings of a sump (Table 1-5 note 1). -/
def managePumpSet (tag : Tag) (ops : List Word) (s : State) : State :=
  match ops with
  | w :: rest => if w = 0 then configure tag 21 (pumpingSetOp rest) s else configure tag 21 (pumpSetOp ops) s
  | [] => configure tag 21 (pumpSetOp []) s
def managePumpingSet (tag : Tag) (ops : List Word) (s : State) : State := configure tag 21 (pumpingSetOp ops) s
def manageBarrierSet (tag : Tag) (ops : List Word) (s : State) : State := configure tag 22 (barrierSetOp ops) s
def manageGateSet (tag : Tag) (ops : List Word) (s : State) : State := configure tag 23 (gateSetOp ops) s
def manageZoneSet (tag : Tag) (ops : List Word) (s : State) : State := configure tag 24 (zoneSetOp ops) s
def manageCurveSet (tag : Tag) (ops : List Word) (s : State) : State := configure tag 25 (curveSetOp ops) s
def manageStageSet (tag : Tag) (ops : List Word) (s : State) : State := configure tag 26 (stageSetOp ops) s
def managePlanSet (tag : Tag) (ops : List Word) (s : State) : State := configure tag 27 (planSetOp ops) s
def manageSupplySet (tag : Tag) (ops : List Word) (s : State) : State := configure tag 28 (supplySetOp ops) s
def manageLineSet (tag : Tag) (ops : List Word) (s : State) : State := configure tag 29 (lineSetOp ops) s

def manageRecordStage (tag : Tag) (ops : List Word) (s : State) : State := recordGet tag (stageRead ops) s
def manageRecordSupply (tag : Tag) (ops : List Word) (s : State) : State := recordGet tag (supplyRead ops) s
def manageRecordAuthority (tag : Tag) (ops : List Word) (s : State) : State := recordGet tag (authorityRead ops) s
def manageRecordSump (tag : Tag) (ops : List Word) (s : State) : State :=
  takeOp tag 32 false
    (fun s => if s.sau.cycle.isSome then deferOp (.recordSump tag ops) s else replyData tag 32 (sumpRead ops s)) s
def manageRecordPump (tag : Tag) (ops : List Word) (s : State) : State := recordGet tag (pumpRead ops) s
def manageRecordBarrier (tag : Tag) (ops : List Word) (s : State) : State := recordGet tag (barrierRead ops) s
def manageRecordGate (tag : Tag) (ops : List Word) (s : State) : State :=
  recordGet tag (fun s => ((gateRead ops s).1, (gateRead ops s).2.1, s.nextFree)) s
def manageRecordZone (tag : Tag) (ops : List Word) (s : State) : State := recordGet tag (zoneRead ops) s
def manageRecordQueue (tag : Tag) (ops : List Word) (s : State) : State :=
  recordGet tag (fun s => ((queueRead ops s).1, (queueRead ops s).2.1, (queueRead ops s).2.2.nextFree)) s

/-- RECORD_GET by record class (Table 1-6); a missing class, END, or one not in the table is answered RANGE (log entry 21). -/
def manageRecordGet (tag : Tag) (ops : List Word) (s : State) : State :=
  match ops with
  | [] => takeOp tag 32 false (fun s => answer tag 32 stRange [] s) s
  | w :: rest => match w.toNat with
    | 0 => manageRecordStage tag rest s
    | 1 => manageRecordSupply tag rest s
    | 2 => manageRecordAuthority tag rest s
    | 3 => manageRecordSump tag rest s
    | 4 => manageRecordPump tag rest s
    | 5 => manageRecordBarrier tag rest s
    | 6 => manageRecordGate tag rest s
    | 7 => manageRecordZone tag rest s
    | 8 => manageRecordQueue tag rest s
    | _ => takeOp tag 32 false (fun s => answer tag 32 stRange [] s) s

def manageFaultGet (tag : Tag) (ops : List Word) (s : State) : State :=
  takeOp tag 33 false (fun s => replyData tag 33 (faultGetOp ops s)) s
def manageSnapshotTake (tag : Tag) (s : State) : State :=
  takeOp tag 40 false (fun s => replyData tag 40 (snapshotTakeOp s)) s
def manageSnapshotNext (tag : Tag) (s : State) : State :=
  takeOp tag 41 false (fun s => replyData tag 41 (snapshotNextOp s)) s

def manageHoldSet (tag : Tag) (s : State) : State :=
  takeOp tag 48 false (fun s => answer tag 48 stDone [] (s.modStc fun c => { c with holdRequest := true })) s
def manageHoldClear (tag : Tag) (s : State) : State :=
  takeOp tag 49 false (fun s => answer tag 49 stDone [] (s.modStc fun c => { c with holdRequest := false })) s
def manageAdvance (tag : Tag) (s : State) : State := takeOp tag 50 false (advanceOp tag) s
def manageRelease (tag : Tag) (s : State) : State := takeOp tag 51 false (releaseOp tag) s
def manageQuench (tag : Tag) (s : State) : State := takeOp tag 52 false (quenchOp tag) s
def manageUnquench (tag : Tag) (s : State) : State := takeOp tag 53 false (unquenchOp tag) s

/-- The sump part of a STATUS_CLEAR (R180). -/
def clearSumps (s : State) : State := s.modSau fun a => { a with sumps := a.sumps.map SumpState.clearSticky }

/-- STATUS_CLEAR (R180). -/
def statusClearOp (tag : Tag) (s : State) : State :=
  let s1 := s.modPim fun m => { m with queues := m.queues.map clearQueueFlags }
  if s.sau.cycle.isSome then deferOp (.statusClear tag) s1 else answer tag 54 stDone [] (clearSumps s1)

def manageStatusClear (tag : Tag) (s : State) : State := takeOp tag 54 false (statusClearOp tag) s
def managePumpReset (tag : Tag) (ops : List Word) (s : State) : State :=
  takeOp tag 55 false (fun s => reply tag 55 (pumpResetOp ops s)) s
def manageBarrierReset (tag : Tag) (ops : List Word) (s : State) : State :=
  takeOp tag 56 false (fun s => reply tag 56 (barrierResetOp ops s)) s
def manageStoreCommit (tag : Tag) (s : State) : State := takeOp tag 57 true (commitOp tag) s

/-- RESTART (R185): the ANSWER whose transmission or loss lets the RESTART be performed. -/
def restartOp (tag : Tag) (s : State) : State :=
  offerUp { frame := answerFrame tag 58 stDone [], restartAnswer := true } (s.modMgu fun m => { m with restart := .answering })

def manageRestart (tag : Tag) (s : State) : State := takeOp tag 58 true (restartOp tag) s

/-- An operation word that names no operation (R177; log entry 21 in RESTART_PENDING). -/
def manageUnknown (tag : Tag) (op : Word) (s : State) : State :=
  takeOp tag op.toNat false (fun s => answer tag op.toNat stUnknownOp [] s) s

/-- The operation that a MANAGE frame's payload names (Table 1-5, R177). -/
def manage (tag : Tag) (op : Word) (ops : List Word) (s : State) : State :=
  match op.toNat with
  | 1 => manageMapWrite tag ops s
  | 2 => manageMapRead tag ops s
  | 3 => manageDemapKey tag ops s
  | 4 => manageDemapPlan tag ops s
  | 5 => manageDemapAll tag s
  | 6 => manageMissGet tag ops s
  | 16 => managePointSet tag ops s
  | 17 => managePointGet tag ops s
  | 18 => manageScanSet tag ops s
  | 19 => manageSumpSet tag ops s
  | 20 => manageGeometrySet tag ops s
  | 21 => managePumpSet tag ops s
  | 22 => manageBarrierSet tag ops s
  | 23 => manageGateSet tag ops s
  | 24 => manageZoneSet tag ops s
  | 25 => manageCurveSet tag ops s
  | 26 => manageStageSet tag ops s
  | 27 => managePlanSet tag ops s
  | 28 => manageSupplySet tag ops s
  | 29 => manageLineSet tag ops s
  | 32 => manageRecordGet tag ops s
  | 33 => manageFaultGet tag ops s
  | 40 => manageSnapshotTake tag s
  | 41 => manageSnapshotNext tag s
  | 48 => manageHoldSet tag s
  | 49 => manageHoldClear tag s
  | 50 => manageAdvance tag s
  | 51 => manageRelease tag s
  | 52 => manageQuench tag s
  | 53 => manageUnquench tag s
  | 54 => manageStatusClear tag s
  | 55 => managePumpReset tag ops s
  | 56 => manageBarrierReset tag ops s
  | 57 => manageStoreCommit tag s
  | 58 => manageRestart tag s
  | _ => manageUnknown tag op s

/-! ## The completion of a DRAINAGE CYCLE -/

/-- An operation that has waited is taken (R66, R180). -/
def takeDeferred (d : Deferred) (s : State) : State :=
  quiesce (match d with
    | .sumpSet tag ops => takeSumpSet tag ops s
    | .geometrySet tag ops => takeGeometrySet tag ops s
    | .recordSump tag ops => replyData tag 32 (sumpRead ops s)
    | .statusClear tag => answer tag 54 stDone [] (clearSumps s))

/-- The completion of the cycle in flight (R66). -/
def cycleCompletes (s : State) : State :=
  match s.sau.cycle with
  | some c =>
    let waiting := s.sau.deferred
    waiting.foldl (fun s d => takeDeferred d s) (cycleCompute c (s.modSau fun a => { a with deferred := [] }))
  | none => s

end Sys2Proof.Machine
end

