-- ==== Sys2Proof/Machine/Ports.lean ====
section
/-! DEFINITION. The Upstream Port (section 1.2): arrivals, link supervision, the Downstream Queue and transmission. -/

namespace Sys2Proof.Machine

/-- The arrival of a valid frame for link supervision (R7, R184). -/
def linkArrival (s : State) : State :=
  let s1 := s.modUpp fun u => { u with link := .up, silence := .start s.now (1000 * s.cfg.line.silencePeriod) }
  if s.upp.link = .lost then
    let s2 := raiseNotice 1 [] s1
    if s2.mgu.storeInvalid then raiseNotice 17 [] (s2.modMgu fun m => { m with storeInvalid := false }) else s2
  else s1

/-- Offers a field-bound frame to the Downstream Queue (R6). -/
def offerDown (f : Frame) (s : State) : State :=
  if s.flc.line = .quenched then refuse f 5 s
  else if 8 ≤ s.upp.downstream.length then refuse f 1 s
  else s.modUpp fun u => { u with downstream := u.downstream ++ [f] }

/-- Sorts a valid frame from upstream by its contents (R5). -/
def sortFrame (f : Frame) (s : State) : State :=
  if f.isManagement then
    match f.payload with
    | op :: ops => manage f.tag op ops s
    | [] => s
  else if f.isFieldBound then offerDown f s
  else refuse f 4 s

/-- The arrival of a frame on the upstream port (R4, R5, R7). -/
def upstreamArrival (ws : List Word) (s : State) : State :=
  match Frame.decode ws with
  | none => logFault { cls := .line, detail := 3, kind := firstKind ws } s
  | some f => sortFrame f (linkArrival s)

/-- The silence timer's expiry (R7). -/
def linkSilent (s : State) : State := linkLost (s.modUpp fun u => { u with link := .lost, silence := .stopped })

/-- The transmission of the head of the Upstream Queue (R9). -/
def transmitHead (s : State) : State :=
  match s.upp.transmitter, s.upp.upstream with
  | none, e :: rest => s.modUpp fun u => { u with transmitter := some e, upstream := rest }
  | _, _ => s

/-- The end of a transmitted frame (R9, R185). -/
def transmitEnds (s : State) : State :=
  match s.upp.transmitter with
  | some e =>
    let s1 := s.modUpp fun u => { u with transmitter := none }
    if e.restartAnswer then s1.modMgu fun m => { m with restart := .ready } else s1
  | none => s

end Sys2Proof.Machine
end

