-- ==== Sys2Proof/Machine/ExecManage.lean ====
section
/-! DEFINITION. The meanings of the management commands and of the completions they wait for. Every command ends with the blocks at rest (log entry 19). -/

namespace Sys2Proof.Machine

/-- MAP_STORAGE_FAULT (R26). -/
def execMapStorageFault (loc : MapLoc) (flips : BitVec 24) (s : State) : Host.Outcome State Fault Refusal :=
  .next (quiesce (storageFault loc flips s))

/-- MAP_WRITE (R34). -/
def execMapWrite (tag : Tag) (operands : List Word) (s : State) : Host.Outcome State Fault Refusal :=
  .next (quiesce (manageMapWrite tag operands s))

/-- MAP_READ (R39). -/
def execMapRead (tag : Tag) (operands : List Word) (s : State) : Host.Outcome State Fault Refusal :=
  .next (quiesce (manageMapRead tag operands s))

/-- DEMAP_KEY (R40). -/
def execDemapKey (tag : Tag) (operands : List Word) (s : State) : Host.Outcome State Fault Refusal :=
  .next (quiesce (manageDemapKey tag operands s))

/-- DEMAP_PLAN (R41). -/
def execDemapPlan (tag : Tag) (operands : List Word) (s : State) : Host.Outcome State Fault Refusal :=
  .next (quiesce (manageDemapPlan tag operands s))

/-- DEMAP_ALL (R41). -/
def execDemapAll (tag : Tag) (s : State) : Host.Outcome State Fault Refusal :=
  .next (quiesce (manageDemapAll tag s))

/-- MISS_GET (R33). -/
def execMissGet (tag : Tag) (operands : List Word) (s : State) : Host.Outcome State Fault Refusal :=
  .next (quiesce (manageMissGet tag operands s))

/-- FAULT_GET (R44). -/
def execFaultGet (tag : Tag) (operands : List Word) (s : State) : Host.Outcome State Fault Refusal :=
  .next (quiesce (manageFaultGet tag operands s))

/-- POINT_SET (R46). -/
def execPointSet (tag : Tag) (operands : List Word) (s : State) : Host.Outcome State Fault Refusal :=
  .next (quiesce (managePointSet tag operands s))

/-- POINT_GET (R60). -/
def execPointGet (tag : Tag) (operands : List Word) (s : State) : Host.Outcome State Fault Refusal :=
  .next (quiesce (managePointGet tag operands s))

/-- SCAN_SET (R61). -/
def execScanSet (tag : Tag) (operands : List Word) (s : State) : Host.Outcome State Fault Refusal :=
  .next (quiesce (manageScanSet tag operands s))

/-- SUMP_SET (R64). -/
def execSumpSet (tag : Tag) (operands : List Word) (s : State) : Host.Outcome State Fault Refusal :=
  .next (quiesce (manageSumpSet tag operands s))

/-- GEOMETRY_SET (R65). -/
def execGeometrySet (tag : Tag) (operands : List Word) (s : State) : Host.Outcome State Fault Refusal :=
  .next (quiesce (manageGeometrySet tag operands s))

/-- STAGE_SET (R84). -/
def execStageSet (tag : Tag) (operands : List Word) (s : State) : Host.Outcome State Fault Refusal :=
  .next (quiesce (manageStageSet tag operands s))

/-- PLAN_SET (R85). -/
def execPlanSet (tag : Tag) (operands : List Word) (s : State) : Host.Outcome State Fault Refusal :=
  .next (quiesce (managePlanSet tag operands s))

/-- SUPPLY_SET (R115). -/
def execSupplySet (tag : Tag) (operands : List Word) (s : State) : Host.Outcome State Fault Refusal :=
  .next (quiesce (manageSupplySet tag operands s))

/-- PUMP_SET (R129). -/
def execPumpSet (tag : Tag) (operands : List Word) (s : State) : Host.Outcome State Fault Refusal :=
  .next (quiesce (managePumpSet tag operands s))

/-- PUMP_SET_SUMP_SETTINGS (R130). -/
def execPumpSetSumpSettings (tag : Tag) (operands : List Word) (s : State) : Host.Outcome State Fault Refusal :=
  .next (quiesce (managePumpingSet tag operands s))

/-- BARRIER_SET (R148). -/
def execBarrierSet (tag : Tag) (operands : List Word) (s : State) : Host.Outcome State Fault Refusal :=
  .next (quiesce (manageBarrierSet tag operands s))

/-- GATE_SET (R159). -/
def execGateSet (tag : Tag) (operands : List Word) (s : State) : Host.Outcome State Fault Refusal :=
  .next (quiesce (manageGateSet tag operands s))

/-- ZONE_SET (R167). -/
def execZoneSet (tag : Tag) (operands : List Word) (s : State) : Host.Outcome State Fault Refusal :=
  .next (quiesce (manageZoneSet tag operands s))

/-- CURVE_SET (R168). -/
def execCurveSet (tag : Tag) (operands : List Word) (s : State) : Host.Outcome State Fault Refusal :=
  .next (quiesce (manageCurveSet tag operands s))

/-- LINE_SET (R179). -/
def execLineSet (tag : Tag) (operands : List Word) (s : State) : Host.Outcome State Fault Refusal :=
  .next (quiesce (manageLineSet tag operands s))

/-- RECORD_GET_STAGE (R100). -/
def execRecordGetStage (tag : Tag) (operands : List Word) (s : State) : Host.Outcome State Fault Refusal :=
  .next (quiesce (manageRecordStage tag operands s))

/-- RECORD_GET_SUPPLY (R127). -/
def execRecordGetSupply (tag : Tag) (operands : List Word) (s : State) : Host.Outcome State Fault Refusal :=
  .next (quiesce (manageRecordSupply tag operands s))

/-- RECORD_GET_AUTHORITY (R113). -/
def execRecordGetAuthority (tag : Tag) (operands : List Word) (s : State) : Host.Outcome State Fault Refusal :=
  .next (quiesce (manageRecordAuthority tag operands s))

/-- RECORD_GET_SUMP (R82). -/
def execRecordGetSump (tag : Tag) (operands : List Word) (s : State) : Host.Outcome State Fault Refusal :=
  .next (quiesce (manageRecordSump tag operands s))

/-- RECORD_GET_PUMP (R146). -/
def execRecordGetPump (tag : Tag) (operands : List Word) (s : State) : Host.Outcome State Fault Refusal :=
  .next (quiesce (manageRecordPump tag operands s))

/-- RECORD_GET_BARRIER (R165). -/
def execRecordGetBarrier (tag : Tag) (operands : List Word) (s : State) : Host.Outcome State Fault Refusal :=
  .next (quiesce (manageRecordBarrier tag operands s))

/-- RECORD_GET_GATE (R165). -/
def execRecordGetGate (tag : Tag) (operands : List Word) (s : State) : Host.Outcome State Fault Refusal :=
  .next (quiesce (manageRecordGate tag operands s))

/-- RECORD_GET_ZONE (R175). -/
def execRecordGetZone (tag : Tag) (operands : List Word) (s : State) : Host.Outcome State Fault Refusal :=
  .next (quiesce (manageRecordZone tag operands s))

/-- RECORD_GET_LEVEL_QUEUE (R56). -/
def execRecordGetLevelQueue (tag : Tag) (operands : List Word) (s : State) : Host.Outcome State Fault Refusal :=
  .next (quiesce (manageRecordQueue tag operands s))

/-- SNAPSHOT_TAKE (R181). -/
def execSnapshotTake (tag : Tag) (s : State) : Host.Outcome State Fault Refusal :=
  .next (quiesce (manageSnapshotTake tag s))

/-- SNAPSHOT_NEXT (R182). -/
def execSnapshotNext (tag : Tag) (s : State) : Host.Outcome State Fault Refusal :=
  .next (quiesce (manageSnapshotNext tag s))

/-- HOLD_SET (R94). -/
def execHoldSet (tag : Tag) (s : State) : Host.Outcome State Fault Refusal :=
  .next (quiesce (manageHoldSet tag s))

/-- HOLD_CLEAR (R94). -/
def execHoldClear (tag : Tag) (s : State) : Host.Outcome State Fault Refusal :=
  .next (quiesce (manageHoldClear tag s))

/-- ADVANCE (R96). -/
def execAdvance (tag : Tag) (s : State) : Host.Outcome State Fault Refusal :=
  .next (quiesce (manageAdvance tag s))

/-- STEP_END (R96). -/
def execStepEnd (s : State) : Host.Outcome State Fault Refusal :=
  .next (quiesce (stepEndOp s))

/-- RELEASE (R91). -/
def execRelease (tag : Tag) (s : State) : Host.Outcome State Fault Refusal :=
  .next (quiesce (manageRelease tag s))

/-- QUENCH (R21). -/
def execQuench (tag : Tag) (s : State) : Host.Outcome State Fault Refusal :=
  .next (quiesce (manageQuench tag s))

/-- UNQUENCH (R22). -/
def execUnquench (tag : Tag) (s : State) : Host.Outcome State Fault Refusal :=
  .next (quiesce (manageUnquench tag s))

/-- STATUS_CLEAR (R180). -/
def execStatusClear (tag : Tag) (s : State) : Host.Outcome State Fault Refusal :=
  .next (quiesce (manageStatusClear tag s))

/-- PUMP_RESET (R141). -/
def execPumpReset (tag : Tag) (operands : List Word) (s : State) : Host.Outcome State Fault Refusal :=
  .next (quiesce (managePumpReset tag operands s))

/-- BARRIER_RESET (R162). -/
def execBarrierReset (tag : Tag) (operands : List Word) (s : State) : Host.Outcome State Fault Refusal :=
  .next (quiesce (manageBarrierReset tag operands s))

/-- STORE_COMMIT (R183). -/
def execStoreCommit (tag : Tag) (s : State) : Host.Outcome State Fault Refusal :=
  .next (quiesce (manageStoreCommit tag s))

/-- STORE_COMMIT_COMPLETE (R183). -/
def execStoreCommitComplete (s : State) : Host.Outcome State Fault Refusal :=
  .next (quiesce (commitCompletes s))

/-- RESTART (R185). -/
def execRestart (tag : Tag) (s : State) : Host.Outcome State Fault Refusal :=
  .next (quiesce (manageRestart tag s))

/-- RESTART_PERFORM (R185). -/
def execRestartPerform (s : State) : Host.Outcome State Fault Refusal :=
  .next (quiesce (if s.mgu.restart = .ready then restartPerformed s else s))

/-- UNKNOWN_OP (R177). -/
def execUnknownOp (tag : Tag) (opWord : Word) (s : State) : Host.Outcome State Fault Refusal :=
  .next (quiesce (manageUnknown tag opWord s))

end Sys2Proof.Machine
end

