-- ==== Sys2Proof/Machine/ExecPorts.lean ====
section
/-! DEFINITION. The meanings of the reset and port commands. Every command ends with the blocks at rest (log entry 19). -/

namespace Sys2Proof.Machine

/-- POWER_ON (R184). -/
def execPowerOn (s : State) : Host.Outcome State Fault Refusal :=
  .next (quiesce (por s))

/-- RESET_INPUT (R184). -/
def execResetInput (s : State) : Host.Outcome State Fault Refusal :=
  .next (quiesce (por s))

/-- UPSTREAM_FRAME_ARRIVAL (R4). -/
def execUpstreamFrameArrival (words : List Word) (s : State) : Host.Outcome State Fault Refusal :=
  .next (quiesce (upstreamArrival words s))

/-- LINK_SILENCE_EXPIRY (R7). -/
def execLinkSilenceExpiry (s : State) : Host.Outcome State Fault Refusal :=
  .next (quiesce (onExpiry s.upp.silence s linkSilent))

/-- UPSTREAM_TRANSMIT (R9). -/
def execUpstreamTransmit (s : State) : Host.Outcome State Fault Refusal :=
  .next (quiesce (transmitHead s))

/-- UPSTREAM_TRANSMIT_END (R9). -/
def execUpstreamTransmitEnd (s : State) : Host.Outcome State Fault Refusal :=
  .next (quiesce (transmitEnds s))

/-- FIELD_ARBITER_GRANT (R12). -/
def execFieldArbiterGrant (s : State) : Host.Outcome State Fault Refusal :=
  .next (quiesce (grantLoop 256 s))

/-- FIELD_SEND_END (R11). -/
def execFieldSendEnd (s : State) : Host.Outcome State Fault Refusal :=
  .next (quiesce (fieldSendEnds s))

/-- FIELD_FRAME_ARRIVAL (R14). -/
def execFieldFrameArrival (words : List Word) (s : State) : Host.Outcome State Fault Refusal :=
  .next (quiesce (fieldArrival words s))

/-- REPLY_WINDOW_EXPIRY (R15). -/
def execReplyWindowExpiry (s : State) : Host.Outcome State Fault Refusal :=
  .next (quiesce (fieldExpiry .awaiting .noReply s))

/-- GUARD_EXPIRY (R15). -/
def execGuardExpiry (s : State) : Host.Outcome State Fault Refusal :=
  .next (quiesce (fieldExpiry .guard .guardEnd s))

end Sys2Proof.Machine
end

