-- ==== Sys2Proof/Machine/ExecTimers.lean ====
section
/-! DEFINITION. The meanings of the commands that are expiries of the part's timers. Every command ends with the blocks at rest (log entry 19). -/

namespace Sys2Proof.Machine

/-! ## What each expiry does -/

/-- The timer of the INRUSH WINDOW (R123). -/
def Lau.windowTimer (l : Lau) : Timer :=
  match l.window with
  | some w => w.timer
  | none => .stopped

/-- The INRUSH WINDOW closes, which is a change of COMMITTED LOAD (R123). -/
def windowCloses (s : State) : State := s.modLau fun l => { l with window := none, judgeDue := true }

/-- The start confirm time passes in STARTING (R136). -/
def startUnconfirmed (p : PumpId) (s : State) : State :=
  if (s.pump p).mode = .starting then pumpFault p 2 s else s.modPump p fun t => { t with startTimer := .stopped }

/-- The stop confirm time passes in STOPPING (R137). -/
def stopUnconfirmed (p : PumpId) (s : State) : State :=
  if (s.pump p).mode = .stopping then pumpFault p 3 s else s.modPump p fun t => { t with stopTimer := .stopped }

/-- The minimum off time passes (R138). -/
def offTimePasses (p : PumpId) (s : State) : State :=
  let s1 := s.modPump p fun t => { t with offTimer := .stopped }
  if (s.pump p).mode = .resting then pumpSettle p s1 else s1

/-- The hour window passes (R138). -/
def hourPasses (p : PumpId) (s : State) : State :=
  let s1 := s.modPump p fun t => { t with hourWindow := .stopped, startsInWindow := 0 }
  if (s.pump p).mode = .resting then pumpSettle p s1 else s1

/-- The warn time passes in WARNING (R151). -/
def warnPasses (b : BarrierId) (s : State) : State :=
  let s1 := s.modBarrier b fun t => { t with warnTimer := .stopped }
  if (s.barrier b).mode = .warning then toClearing b s1 else s1

/-- The clearance time passes in CLEARING (R151). -/
def clearancePasses (b : BarrierId) (s : State) : State :=
  let s1 := s.modBarrier b fun t => { t with clearTimer := .stopped }
  if (s.barrier b).mode = .clearing then closingPost b s1 else s1

/-- The travel limit passes in motion (R153). -/
def travelPasses (b : BarrierId) (s : State) : State :=
  if (s.barrier b).mode.moves then barrierFault b .faultTravel 1 s else s.modBarrier b fun t => { t with travelTimer := .stopped }

/-- The open dwell passes in CLOSED (R160). -/
def dwellPasses (s : State) : State :=
  let s1 := s.modGate fun g => { g with dwellTimer := .stopped }
  if s.gsq.gate.mode = .closed then gatePostGo 2 .queuedOpen s1 else s1

/-- The gate's travel limit passes in motion (R161). -/
def gateTravelPasses (s : State) : State :=
  if s.gsq.gate.mode.moves then gateFault 1 s else s.modGate fun g => { g with travelTimer := .stopped }

/-- The lighting evaluation, whose timer starts again (R169, R170, R174). -/
def lightingTick (s : State) : State :=
  ltuEvaluate (s.stc.hold == .running) (s.modLtu fun c => { c with timer := .start s.now 1000 })

/-! ## The commands -/

/-- POINT_FRESHNESS_EXPIRY (R48). -/
def execPointFreshnessExpiry (point : PointId) (s : State) : Host.Outcome State Fault Refusal :=
  .next (quiesce (onExpiry (s.point point).freshTimer s (freshnessExpiry point)))

/-- SCAN_DUE_EXPIRY (R62). -/
def execScanDueExpiry (entry : ScanId) (s : State) : Host.Outcome State Fault Refusal :=
  .next (quiesce (onExpiry (Tab.get s.pim.scanDue entry) s (scanFallsDue entry)))

/-- DRAINAGE_CYCLE_START (R66). -/
def execDrainageCycleStart (s : State) : Host.Outcome State Fault Refusal :=
  .next (quiesce (onExpiry s.sau.cycleTimer s cycleStart))

/-- DRAINAGE_CYCLE_COMPLETION (R66). -/
def execDrainageCycleCompletion (s : State) : Host.Outcome State Fault Refusal :=
  .next (quiesce (cycleCompletes s))

/-- DESCENT_TIMER_EXPIRY (R88). -/
def execDescentTimerExpiry (s : State) : Host.Outcome State Fault Refusal :=
  .next (quiesce (onExpiry s.stc.descent s descend))

/-- REOPEN_TIMER_EXPIRY (R90). -/
def execReopenTimerExpiry (s : State) : Host.Outcome State Fault Refusal :=
  .next (quiesce (onExpiry s.stc.reopen s reopenExpiry))

/-- DERIVE_TIMER_EXPIRY (R93). -/
def execDeriveTimerExpiry (s : State) : Host.Outcome State Fault Refusal :=
  .next (quiesce (onExpiry s.stc.derive s deriveExpiry))

/-- OVERRIDE_EXPIRY (R107). -/
def execOverrideExpiry (point : PointId) (s : State) : Host.Outcome State Fault Refusal :=
  .next (quiesce (onExpiry (s.overrideTimer point) s (removeOverride point (ownerOf s.cfg point) .expired)))

/-- INRUSH_WINDOW_EXPIRY (R123). -/
def execInrushWindowExpiry (s : State) : Host.Outcome State Fault Refusal :=
  .next (quiesce (onExpiry s.lau.windowTimer s windowCloses))

/-- PUMP_START_CONFIRM_EXPIRY (R136). -/
def execPumpStartConfirmExpiry (pump : PumpId) (s : State) : Host.Outcome State Fault Refusal :=
  .next (quiesce (onExpiry (s.pump pump).startTimer s (startUnconfirmed pump)))

/-- PUMP_STOP_CONFIRM_EXPIRY (R137). -/
def execPumpStopConfirmExpiry (pump : PumpId) (s : State) : Host.Outcome State Fault Refusal :=
  .next (quiesce (onExpiry (s.pump pump).stopTimer s (stopUnconfirmed pump)))

/-- PUMP_MINIMUM_OFF_EXPIRY (R138). -/
def execPumpMinimumOffExpiry (pump : PumpId) (s : State) : Host.Outcome State Fault Refusal :=
  .next (quiesce (onExpiry (s.pump pump).offTimer s (offTimePasses pump)))

/-- PUMP_HOUR_WINDOW_EXPIRY (R138). -/
def execPumpHourWindowExpiry (pump : PumpId) (s : State) : Host.Outcome State Fault Refusal :=
  .next (quiesce (onExpiry (s.pump pump).hourWindow s (hourPasses pump)))

/-- BARRIER_WARN_EXPIRY (R151). -/
def execBarrierWarnExpiry (barrier : BarrierId) (s : State) : Host.Outcome State Fault Refusal :=
  .next (quiesce (onExpiry (s.barrier barrier).warnTimer s (warnPasses barrier)))

/-- BARRIER_CLEARANCE_EXPIRY (R151). -/
def execBarrierClearanceExpiry (barrier : BarrierId) (s : State) : Host.Outcome State Fault Refusal :=
  .next (quiesce (onExpiry (s.barrier barrier).clearTimer s (clearancePasses barrier)))

/-- BARRIER_TRAVEL_EXPIRY (R153). -/
def execBarrierTravelExpiry (barrier : BarrierId) (s : State) : Host.Outcome State Fault Refusal :=
  .next (quiesce (onExpiry (s.barrier barrier).travelTimer s (travelPasses barrier)))

/-- GATE_OPEN_DWELL_EXPIRY (R160). -/
def execGateOpenDwellExpiry (s : State) : Host.Outcome State Fault Refusal :=
  .next (quiesce (onExpiry s.gsq.gate.dwellTimer s dwellPasses))

/-- GATE_TRAVEL_EXPIRY (R161). -/
def execGateTravelExpiry (s : State) : Host.Outcome State Fault Refusal :=
  .next (quiesce (onExpiry s.gsq.gate.travelTimer s gateTravelPasses))

/-- LIGHTING_EVALUATION (R169). -/
def execLightingEvaluation (s : State) : Host.Outcome State Fault Refusal :=
  .next (quiesce (onExpiry s.ltu.timer s lightingTick))

end Sys2Proof.Machine
end

