-- ==== Sys2Proof/Machine/Dispatch.lean ====
section
/-! DEFINITION. The effect of each command, by its constructor. -/

namespace Sys2Proof.Machine

/-- The effect of a command on everything but the queue of commands that wait. -/
def exec (i : Instr) (s : State) : Host.Outcome State Fault Refusal :=
  match i with
  | .powerOn => Sys2Proof.Machine.execPowerOn s
  | .resetInput => Sys2Proof.Machine.execResetInput s
  | .upstreamFrameArrival words => Sys2Proof.Machine.execUpstreamFrameArrival words s
  | .linkSilenceExpiry => Sys2Proof.Machine.execLinkSilenceExpiry s
  | .upstreamTransmit => Sys2Proof.Machine.execUpstreamTransmit s
  | .upstreamTransmitEnd => Sys2Proof.Machine.execUpstreamTransmitEnd s
  | .fieldArbiterGrant => Sys2Proof.Machine.execFieldArbiterGrant s
  | .fieldSendEnd => Sys2Proof.Machine.execFieldSendEnd s
  | .fieldFrameArrival words => Sys2Proof.Machine.execFieldFrameArrival words s
  | .replyWindowExpiry => Sys2Proof.Machine.execReplyWindowExpiry s
  | .guardExpiry => Sys2Proof.Machine.execGuardExpiry s
  | .pointFreshnessExpiry point => Sys2Proof.Machine.execPointFreshnessExpiry point s
  | .scanDueExpiry entry => Sys2Proof.Machine.execScanDueExpiry entry s
  | .mapStorageFault loc flips => Sys2Proof.Machine.execMapStorageFault loc flips s
  | .mapWrite tag operands => Sys2Proof.Machine.execMapWrite tag operands s
  | .mapRead tag operands => Sys2Proof.Machine.execMapRead tag operands s
  | .demapKey tag operands => Sys2Proof.Machine.execDemapKey tag operands s
  | .demapPlan tag operands => Sys2Proof.Machine.execDemapPlan tag operands s
  | .demapAll tag => Sys2Proof.Machine.execDemapAll tag s
  | .missGet tag operands => Sys2Proof.Machine.execMissGet tag operands s
  | .faultGet tag operands => Sys2Proof.Machine.execFaultGet tag operands s
  | .pointSet tag operands => Sys2Proof.Machine.execPointSet tag operands s
  | .pointGet tag operands => Sys2Proof.Machine.execPointGet tag operands s
  | .scanSet tag operands => Sys2Proof.Machine.execScanSet tag operands s
  | .sumpSet tag operands => Sys2Proof.Machine.execSumpSet tag operands s
  | .geometrySet tag operands => Sys2Proof.Machine.execGeometrySet tag operands s
  | .stageSet tag operands => Sys2Proof.Machine.execStageSet tag operands s
  | .planSet tag operands => Sys2Proof.Machine.execPlanSet tag operands s
  | .supplySet tag operands => Sys2Proof.Machine.execSupplySet tag operands s
  | .pumpSet tag operands => Sys2Proof.Machine.execPumpSet tag operands s
  | .pumpSetSumpSettings tag operands => Sys2Proof.Machine.execPumpSetSumpSettings tag operands s
  | .barrierSet tag operands => Sys2Proof.Machine.execBarrierSet tag operands s
  | .gateSet tag operands => Sys2Proof.Machine.execGateSet tag operands s
  | .zoneSet tag operands => Sys2Proof.Machine.execZoneSet tag operands s
  | .curveSet tag operands => Sys2Proof.Machine.execCurveSet tag operands s
  | .lineSet tag operands => Sys2Proof.Machine.execLineSet tag operands s
  | .recordGetStage tag operands => Sys2Proof.Machine.execRecordGetStage tag operands s
  | .recordGetSupply tag operands => Sys2Proof.Machine.execRecordGetSupply tag operands s
  | .recordGetAuthority tag operands => Sys2Proof.Machine.execRecordGetAuthority tag operands s
  | .recordGetSump tag operands => Sys2Proof.Machine.execRecordGetSump tag operands s
  | .recordGetPump tag operands => Sys2Proof.Machine.execRecordGetPump tag operands s
  | .recordGetBarrier tag operands => Sys2Proof.Machine.execRecordGetBarrier tag operands s
  | .recordGetGate tag operands => Sys2Proof.Machine.execRecordGetGate tag operands s
  | .recordGetZone tag operands => Sys2Proof.Machine.execRecordGetZone tag operands s
  | .recordGetLevelQueue tag operands => Sys2Proof.Machine.execRecordGetLevelQueue tag operands s
  | .snapshotTake tag => Sys2Proof.Machine.execSnapshotTake tag s
  | .snapshotNext tag => Sys2Proof.Machine.execSnapshotNext tag s
  | .holdSet tag => Sys2Proof.Machine.execHoldSet tag s
  | .holdClear tag => Sys2Proof.Machine.execHoldClear tag s
  | .advance tag => Sys2Proof.Machine.execAdvance tag s
  | .stepEnd => Sys2Proof.Machine.execStepEnd s
  | .release tag => Sys2Proof.Machine.execRelease tag s
  | .quench tag => Sys2Proof.Machine.execQuench tag s
  | .unquench tag => Sys2Proof.Machine.execUnquench tag s
  | .statusClear tag => Sys2Proof.Machine.execStatusClear tag s
  | .pumpReset tag operands => Sys2Proof.Machine.execPumpReset tag operands s
  | .barrierReset tag operands => Sys2Proof.Machine.execBarrierReset tag operands s
  | .storeCommit tag => Sys2Proof.Machine.execStoreCommit tag s
  | .storeCommitComplete => Sys2Proof.Machine.execStoreCommitComplete s
  | .restart tag => Sys2Proof.Machine.execRestart tag s
  | .restartPerform => Sys2Proof.Machine.execRestartPerform s
  | .unknownOp tag opWord => Sys2Proof.Machine.execUnknownOp tag opWord s
  | .drainageCycleStart => Sys2Proof.Machine.execDrainageCycleStart s
  | .drainageCycleCompletion => Sys2Proof.Machine.execDrainageCycleCompletion s
  | .descentTimerExpiry => Sys2Proof.Machine.execDescentTimerExpiry s
  | .reopenTimerExpiry => Sys2Proof.Machine.execReopenTimerExpiry s
  | .deriveTimerExpiry => Sys2Proof.Machine.execDeriveTimerExpiry s
  | .overrideExpiry point => Sys2Proof.Machine.execOverrideExpiry point s
  | .inrushWindowExpiry => Sys2Proof.Machine.execInrushWindowExpiry s
  | .pumpStartConfirmExpiry pump => Sys2Proof.Machine.execPumpStartConfirmExpiry pump s
  | .pumpStopConfirmExpiry pump => Sys2Proof.Machine.execPumpStopConfirmExpiry pump s
  | .pumpMinimumOffExpiry pump => Sys2Proof.Machine.execPumpMinimumOffExpiry pump s
  | .pumpHourWindowExpiry pump => Sys2Proof.Machine.execPumpHourWindowExpiry pump s
  | .barrierWarnExpiry barrier => Sys2Proof.Machine.execBarrierWarnExpiry barrier s
  | .barrierClearanceExpiry barrier => Sys2Proof.Machine.execBarrierClearanceExpiry barrier s
  | .barrierTravelExpiry barrier => Sys2Proof.Machine.execBarrierTravelExpiry barrier s
  | .gateOpenDwellExpiry => Sys2Proof.Machine.execGateOpenDwellExpiry s
  | .gateTravelExpiry => Sys2Proof.Machine.execGateTravelExpiry s
  | .lightingEvaluation => Sys2Proof.Machine.execLightingEvaluation s

end Sys2Proof.Machine
end

