-- ==== Sys2Proof/WellFormed.lean ====
section
/-! DEFINITION. The commands that can occur: those whose operands a frame can carry, or a fault can make. -/

namespace Sys2Proof

/-- The operation codes of Table 1-5. -/
def opCodes : List Nat :=
  [1, 2, 3, 4, 5, 6, 16, 17, 18, 19, 20, 21, 22, 23, 24, 25, 26, 27, 28, 29, 32, 33, 40, 41, 48, 49, 50, 51, 52, 53, 54, 55,
    56, 57, 58]

/-- An operation word names an operation of Table 1-5 (R177). -/
def knownOp (w : Word) : Bool := opCodes.contains w.toNat

/-- A storage fault alters an odd number of the bits that the check bit covers, so that the check bit of an entry that did not
fail comes to fail (R26). -/
def oddFlips (flips : BitVec 24) : Bool :=
  [0, 1, 2, 3, 4, 5, 6, 7, 8, 9, 10, 11, 12, 13, 14, 15, 16, 17, 18, 19, 20, 21, 22, 23].foldl
    (fun p i => p != flips.getLsbD i) false

/-- An entry of the Set Map stores no global and no lock flag (Table 2-2). -/
def inSetMap (loc : MapLoc) (flips : BitVec 24) : Bool :=
  match loc with
  | .pinned _ => true
  | .setMap _ _ => !flips.getLsbD 22 && !flips.getLsbD 21

/-- A command whose operands can occur: a MANAGE frame carries at most 15 operand words (Table 1-3), a PUMP_SET of a pump record
has word 1 other than 0 (R129, R130), UNKNOWN_OP has an operation word that names no operation (R177). -/
def Instr.wellFormed : Instr → Bool
  | .powerOn => true
  | .resetInput => true
  | .upstreamFrameArrival _ => true
  | .linkSilenceExpiry => true
  | .upstreamTransmit => true
  | .upstreamTransmitEnd => true
  | .fieldArbiterGrant => true
  | .fieldSendEnd => true
  | .fieldFrameArrival _ => true
  | .replyWindowExpiry => true
  | .guardExpiry => true
  | .pointFreshnessExpiry _ => true
  | .scanDueExpiry _ => true
  | .mapStorageFault loc flips => oddFlips flips && inSetMap loc flips
  | .mapWrite _ operands => decide (operands.length ≤ 15)
  | .mapRead _ operands => decide (operands.length ≤ 15)
  | .demapKey _ operands => decide (operands.length ≤ 15)
  | .demapPlan _ operands => decide (operands.length ≤ 15)
  | .demapAll _ => true
  | .missGet _ operands => decide (operands.length ≤ 15)
  | .faultGet _ operands => decide (operands.length ≤ 15)
  | .pointSet _ operands => decide (operands.length ≤ 15)
  | .pointGet _ operands => decide (operands.length ≤ 15)
  | .scanSet _ operands => decide (operands.length ≤ 15)
  | .sumpSet _ operands => decide (operands.length ≤ 15)
  | .geometrySet _ operands => decide (operands.length ≤ 15)
  | .stageSet _ operands => decide (operands.length ≤ 15)
  | .planSet _ operands => decide (operands.length ≤ 15)
  | .supplySet _ operands => decide (operands.length ≤ 15)
  | .pumpSet _ operands => decide (operands.length ≤ 15) && !(operands.head? == some 0)
  | .pumpSetSumpSettings _ operands => decide (operands.length ≤ 14)
  | .barrierSet _ operands => decide (operands.length ≤ 15)
  | .gateSet _ operands => decide (operands.length ≤ 15)
  | .zoneSet _ operands => decide (operands.length ≤ 15)
  | .curveSet _ operands => decide (operands.length ≤ 15)
  | .lineSet _ operands => decide (operands.length ≤ 15)
  | .recordGetStage _ operands => decide (operands.length ≤ 14)
  | .recordGetSupply _ operands => decide (operands.length ≤ 14)
  | .recordGetAuthority _ operands => decide (operands.length ≤ 14)
  | .recordGetSump _ operands => decide (operands.length ≤ 14)
  | .recordGetPump _ operands => decide (operands.length ≤ 14)
  | .recordGetBarrier _ operands => decide (operands.length ≤ 14)
  | .recordGetGate _ operands => decide (operands.length ≤ 14)
  | .recordGetZone _ operands => decide (operands.length ≤ 14)
  | .recordGetLevelQueue _ operands => decide (operands.length ≤ 14)
  | .snapshotTake _ => true
  | .snapshotNext _ => true
  | .holdSet _ => true
  | .holdClear _ => true
  | .advance _ => true
  | .stepEnd => true
  | .release _ => true
  | .quench _ => true
  | .unquench _ => true
  | .statusClear _ => true
  | .pumpReset _ operands => decide (operands.length ≤ 15)
  | .barrierReset _ operands => decide (operands.length ≤ 15)
  | .storeCommit _ => true
  | .storeCommitComplete => true
  | .restart _ => true
  | .restartPerform => true
  | .unknownOp _ opWord => !knownOp opWord
  | .drainageCycleStart => true
  | .drainageCycleCompletion => true
  | .descentTimerExpiry => true
  | .reopenTimerExpiry => true
  | .deriveTimerExpiry => true
  | .overrideExpiry _ => true
  | .inrushWindowExpiry => true
  | .pumpStartConfirmExpiry _ => true
  | .pumpStopConfirmExpiry _ => true
  | .pumpMinimumOffExpiry _ => true
  | .pumpHourWindowExpiry _ => true
  | .barrierWarnExpiry _ => true
  | .barrierClearanceExpiry _ => true
  | .barrierTravelExpiry _ => true
  | .gateOpenDwellExpiry => true
  | .gateTravelExpiry => true
  | .lightingEvaluation => true

end Sys2Proof
end

