-- ==== Sys2Proof/Machine/ManageFrames.lean ====
section
/-! DEFINITION. The MANAGE frame that carries each management command (Table 1-5, Table 1-6, R5). -/

namespace Sys2Proof.Machine

/-- A MANAGE frame of the supervisory station (R5). -/
def manageFrame (tag : Tag) (payload : List Word) : Frame :=
  { kind := kindManage, tag := tag, dst := 63, src := 62, payload := payload }

/-- The MANAGE frame that carries a management command, none for any other command. -/
def commandFrame : Instr → Option Frame
  | .powerOn => none
  | .resetInput => none
  | .upstreamFrameArrival _ => none
  | .linkSilenceExpiry => none
  | .upstreamTransmit => none
  | .upstreamTransmitEnd => none
  | .fieldArbiterGrant => none
  | .fieldSendEnd => none
  | .fieldFrameArrival _ => none
  | .replyWindowExpiry => none
  | .guardExpiry => none
  | .pointFreshnessExpiry _ => none
  | .scanDueExpiry _ => none
  | .mapStorageFault _ _ => none
  | .mapWrite tag operands => some (manageFrame tag (1 :: operands))
  | .mapRead tag operands => some (manageFrame tag (2 :: operands))
  | .demapKey tag operands => some (manageFrame tag (3 :: operands))
  | .demapPlan tag operands => some (manageFrame tag (4 :: operands))
  | .demapAll tag => some (manageFrame tag [5])
  | .missGet tag operands => some (manageFrame tag (6 :: operands))
  | .faultGet tag operands => some (manageFrame tag (33 :: operands))
  | .pointSet tag operands => some (manageFrame tag (16 :: operands))
  | .pointGet tag operands => some (manageFrame tag (17 :: operands))
  | .scanSet tag operands => some (manageFrame tag (18 :: operands))
  | .sumpSet tag operands => some (manageFrame tag (19 :: operands))
  | .geometrySet tag operands => some (manageFrame tag (20 :: operands))
  | .stageSet tag operands => some (manageFrame tag (26 :: operands))
  | .planSet tag operands => some (manageFrame tag (27 :: operands))
  | .supplySet tag operands => some (manageFrame tag (28 :: operands))
  | .pumpSet tag operands => some (manageFrame tag (21 :: operands))
  | .pumpSetSumpSettings tag operands => some (manageFrame tag (21 :: 0 :: operands))
  | .barrierSet tag operands => some (manageFrame tag (22 :: operands))
  | .gateSet tag operands => some (manageFrame tag (23 :: operands))
  | .zoneSet tag operands => some (manageFrame tag (24 :: operands))
  | .curveSet tag operands => some (manageFrame tag (25 :: operands))
  | .lineSet tag operands => some (manageFrame tag (29 :: operands))
  | .recordGetStage tag operands => some (manageFrame tag (32 :: 0 :: operands))
  | .recordGetSupply tag operands => some (manageFrame tag (32 :: 1 :: operands))
  | .recordGetAuthority tag operands => some (manageFrame tag (32 :: 2 :: operands))
  | .recordGetSump tag operands => some (manageFrame tag (32 :: 3 :: operands))
  | .recordGetPump tag operands => some (manageFrame tag (32 :: 4 :: operands))
  | .recordGetBarrier tag operands => some (manageFrame tag (32 :: 5 :: operands))
  | .recordGetGate tag operands => some (manageFrame tag (32 :: 6 :: operands))
  | .recordGetZone tag operands => some (manageFrame tag (32 :: 7 :: operands))
  | .recordGetLevelQueue tag operands => some (manageFrame tag (32 :: 8 :: operands))
  | .snapshotTake tag => some (manageFrame tag [40])
  | .snapshotNext tag => some (manageFrame tag [41])
  | .holdSet tag => some (manageFrame tag [48])
  | .holdClear tag => some (manageFrame tag [49])
  | .advance tag => some (manageFrame tag [50])
  | .stepEnd => none
  | .release tag => some (manageFrame tag [51])
  | .quench tag => some (manageFrame tag [52])
  | .unquench tag => some (manageFrame tag [53])
  | .statusClear tag => some (manageFrame tag [54])
  | .pumpReset tag operands => some (manageFrame tag (55 :: operands))
  | .barrierReset tag operands => some (manageFrame tag (56 :: operands))
  | .storeCommit tag => some (manageFrame tag [57])
  | .storeCommitComplete => none
  | .restart tag => some (manageFrame tag [58])
  | .restartPerform => none
  | .unknownOp tag opWord => some (manageFrame tag [opWord])
  | .drainageCycleStart => none
  | .drainageCycleCompletion => none
  | .descentTimerExpiry => none
  | .reopenTimerExpiry => none
  | .deriveTimerExpiry => none
  | .overrideExpiry _ => none
  | .inrushWindowExpiry => none
  | .pumpStartConfirmExpiry _ => none
  | .pumpStopConfirmExpiry _ => none
  | .pumpMinimumOffExpiry _ => none
  | .pumpHourWindowExpiry _ => none
  | .barrierWarnExpiry _ => none
  | .barrierClearanceExpiry _ => none
  | .barrierTravelExpiry _ => none
  | .gateOpenDwellExpiry => none
  | .gateTravelExpiry => none
  | .lightingEvaluation => none

end Sys2Proof.Machine
end

