-- ==== Sys2Proof/Safety.lean ====
section
/-! DEFINITION. What counts as a safe state and a safe run of the part. -/

namespace Sys2Proof.Machine

/-- A step that goes on: it ends in no fault and no refusal. -/
def goesOn (o : Host.Outcome State Fault Refusal) : Prop := ∃ t, o = .next t

/-- The blocks are at rest between commands: no event is under delivery and no judgement of the LAU is due (log entry 19). -/
def State.AtRest (s : State) : Prop := s.signals = [] ∧ s.lau.judgeDue = false

/-- The Command Queue holds no two entries for one command point (R17). -/
def State.CommandsDistinct (s : State) : Prop := (s.flc.commandQueue.map CommandEntry.point).Nodup

/-- The bounds of the queues of the ports: Downstream 8 (R6), Upstream 16 (R8). -/
def State.QueuesBounded (s : State) : Prop := s.upp.downstream.length ≤ 8 ∧ s.upp.upstream.length ≤ 16

/-- Management operations are taken: the blocks are at rest and no RESTART is pending (R185). -/
def State.Taking (s : State) : Prop := s.AtRest ∧ s.mgu.restart = .none

/-- Operations that alter the stored image are taken too: no Table Store commit is in flight (R178). -/
def State.Altering (s : State) : Prop := s.Taking ∧ s.mgu.commit = none

/-! ## Invariants -/

/-- While the line is QUENCHED no work waits for it and no request waits for a grant (R21, R22, R128). -/
def State.QuenchedIdle (s : State) : Prop :=
  s.flc.line = .quenched →
    s.flc.transaction = none ∧ s.flc.commandQueue = [] ∧ s.flc.scanPending = [] ∧ s.upp.downstream = [] ∧ s.lau.queue = []

/-- A level sample queue holds at most 4 entries (R53). -/
def State.LevelQueuesBounded (s : State) : Prop := ∀ q : QueueId, (s.levelQueue q).entries.length ≤ 4

/-- The ranges of the computed quantities of a sump (R66 to R80). -/
def SumpState.InRange (t : SumpState) : Prop :=
  t.cycleLevel ≤ 20000 ∧ 0 ≤ t.filter ∧ t.filter ≤ 320000 ∧ t.volume ≤ 100000000 ∧
  -32768 ≤ t.inflow ∧ t.inflow ≤ 32767 ∧ -32768 ≤ t.rate ∧ t.rate ≤ 32767 ∧ t.blindCount ≤ 255 ∧ t.ring.length ≤ 16

/-- The filter constant and the ring size of every sump lie in the ranges of Table 4-1. -/
def Tables.SumpsInRange (t : Tables) : Prop :=
  ∀ k : SumpId, (Tab.get t.sumps k).filterK ≤ 16 ∧ (Tab.get t.sumps k).ringSize ≤ 16

/-- Every sump's computed quantities are in range, and so are the sump settings in force, in the store and in a commit. -/
def State.SumpsInRange (s : State) : Prop :=
  (∀ k : SumpId, (s.sump k).InRange) ∧ s.cfg.SumpsInRange ∧ (∀ i, s.mgu.store = some i → i.tables.SumpsInRange) ∧
  ∀ c, s.mgu.commit = some c → c.image.tables.SumpsInRange

/-- A step record stands exactly in STEPPING, and the PSC holds the hold state of the STC (R96, R147). -/
def State.HoldConsistent (s : State) : Prop := (s.stc.step.isSome = true ↔ s.stc.hold = .stepping) ∧ s.psc.hold = s.stc.hold

/-- The Override Table holds at most one entry per point and at most 16, and none while the STAGE is ALERT or higher or the key
state LOCAL (R106, R108, R110). -/
def State.OverridesLawful (s : State) : Prop :=
  s.cau.overrides.Pairwise (fun a b => a.point < b.point) ∧ s.cau.overrides.length ≤ 16 ∧
  (Stage.alert.code ≤ s.stc.stage.code ∨ s.cau.keyLocal = true → s.cau.overrides = [])

/-- The Start Queue holds at most one request per device and at most 16, in order of class (R120, R122). -/
def State.StartQueueLawful (s : State) : Prop :=
  (s.lau.queue.map Request.device).Nodup ∧ s.lau.queue.length ≤ 16 ∧ s.lau.queue.Pairwise (fun a b => a.cls ≤ b.cls)

/-- The pump part, the motor part and the START ORDER that the LAU holds are those of the device records (R118, R125). -/
def State.LoadsAgree (s : State) : Prop :=
  (∀ p : PumpId, Tab.get s.lau.pumpLoad p = if (s.pump p).mode.counts then (s.pumpCfg p).ratedKw else 0) ∧
  (∀ b : BarrierId, Tab.get s.lau.motorLoad (b.castLE (by decide)) = if (s.barrier b).mode.moves then (s.barrierCfg b).motorKw else 0) ∧
  (Tab.get s.lau.motorLoad 4 = if s.gsq.gate.mode.moves then s.cfg.gate.motorKw else 0) ∧
  s.lau.startOrder.Nodup ∧ (∀ p : PumpId, p ∈ s.lau.startOrder ↔ (s.pump p).mode.inStartOrder = true) ∧
  ∀ p : PumpId, s.lau.shedOrder = some p → (s.pump p).mode.counts = true

/-- The pair last reported to the STC is that of the barriers as they stand; before the first report some enabled barrier is
UNKNOWN (R158). -/
def State.ReportsCurrent (s : State) : Prop :=
  match s.gsq.reported with
  | some x => x = s.barrierSummary
  | none => ∃ b ∈ s.enabledBarriers, (s.barrier b).mode = .unknown

/-- No sump has more pumps QUEUED, STARTING, RUNNING or STOPPING than its run limit; the duty lists hold pumps enabled for their
sump, and a pump not enabled is DISABLED (R131, R133). -/
def State.RunLimitsKept (s : State) : Prop :=
  (∀ k : SumpId, s.countPumps k PumpMode.claims ≤ (s.pumpingCfg k).runLimit) ∧
  (∀ k : SumpId, ∀ p ∈ s.dutyList k, (s.pumpCfg p).enable = true ∧ (s.pumpCfg p).sump = k) ∧
  ∀ p : PumpId, (s.pump p).mode ≠ .disabled → (s.pumpCfg p).enable = true

/-- The safety level of every zone lies in the range of Table 10-1. -/
def Tables.ZonesInRange (t : Tables) : Prop := ∀ z : ZoneId, (Tab.get t.zones z).safety ≤ 100

/-- The commanded level of a zone in NORMAL, SHED or RESTORE_QUEUED is not below its safety level (R170), and the safety levels
in force, in the store and in a commit are in range. -/
def State.ZonesAboveSafety (s : State) : Prop :=
  (∀ z : ZoneId, (s.zone z).mode ≠ .disabled → (s.zone z).mode ≠ .unknown → (s.zoneCfg z).safety ≤ (s.zone z).level) ∧
  s.cfg.ZonesInRange ∧ (∀ i, s.mgu.store = some i → i.tables.ZonesInRange) ∧
  ∀ c, s.mgu.commit = some c → c.image.tables.ZonesInRange

/-! ## What the delivery of events leaves alone -/

/-- The part of the state that no delivery of events between the blocks changes (log entry 19): everything but the Upstream
Queue and the notice counter, the Command Queue with the command fields of the points, the inflow quality of the sumps, the
stage record less what is kept here, the Start Queue with its loads and shedding, the records of the pumps, barriers, gate and
zones, and the reports of the GSQ. -/
def State.steady (s : State) : State :=
  { s with
    signals := []
    upp := { s.upp with upstream := [], noticeSeq := 0 }
    flc := { s.flc with commandQueue := [] }
    pim := { s.pim with points := s.pim.points.map fun t => { t with changed := false, commanded := 0, command := .idle } }
    sau := { s.sau with sumps := s.sau.sumps.map fun t => { t with inflowGood := false } }
    stc := { hold := s.stc.hold, holdRequest := s.stc.holdRequest, step := s.stc.step, data := s.stc.data
             derivePending := s.stc.derivePending, derive := s.stc.derive, deriveExpired := s.stc.deriveExpired
             demanded := s.stc.demanded }
    lau := { mode := s.lau.mode, clearToStart := s.lau.clearToStart }
    psc := { duty := s.psc.duty, step := s.psc.step, data := s.psc.data, hold := s.psc.hold }
    gsq := { data := s.gsq.data }
    ltu := { timer := s.ltu.timer } }

/-! ## Words and outcomes that the statements share -/

/-- The point that an operand word names: 0 to 255, and none beyond. -/
def namedPoint (w : Word) : Option PointId := if h : w.toNat < 256 then some ⟨w.toNat, h⟩ else none

/-- What an outcome shows of a command for a point of kind COMMAND that FAILED in the state u (R19, R57): without an owner the
command state alone changes. With one, that owner has taken the outcome: a pump is FAULTED with cause COMMAND (R139), a barrier
and the gate are in a fault with cause COMMAND (R156, R161), a head and a zone have their fault flag (R157, R170). -/
def commandFails (p : PointId) (u : State) (o : Host.Outcome State Fault Refusal) : Prop :=
  (ownerOf u.cfg p = .nobody →
    o = .next (u.modPoint p fun x => { x with command := .failed, changed := x.changed || !(x.command == .failed) })) ∧
  (ownerOf u.cfg p ≠ .nobody → ∃ t, o = .next t ∧ ((t.point p).command = .failed ∨ (t.point p).command = .pending)) ∧
  (∀ i, ownerOf u.cfg p = .pump i → (u.pump i).mode ≠ .disabled → (u.pump i).mode ≠ .faulted →
    ∃ t, o = .next t ∧ (t.pump i).mode = .faulted ∧ (t.pump i).fault = 4) ∧
  (∀ b, ownerOf u.cfg p = .barrier b → (u.barrier b).mode ≠ .disabled → (u.barrier b).mode ≠ .unknown →
    (u.barrier b).mode.isFault = false → ∃ t, o = .next t ∧ (t.barrier b).mode = .faultTravel ∧ (t.barrier b).fault = 5) ∧
  (ownerOf u.cfg p = .gate → u.gsq.gate.mode ≠ .disabled → u.gsq.gate.mode ≠ .unknown → u.gsq.gate.mode ≠ .fault →
    ∃ t, o = .next t ∧ t.gsq.gate.mode = .fault ∧ t.gsq.gate.fault = 5) ∧
  (∀ b, ownerOf u.cfg p = .signal b → ∃ t, o = .next t ∧ (t.barrier b).headFault = true) ∧
  ∀ z, ownerOf u.cfg p = .zone z → ∃ t, o = .next t ∧ (t.zone z).dimmerFault = true

end Sys2Proof.Machine
end

