-- ==== Sys2Proof/Certificates/Slice0/Obligations.lean ====
section
/-! DEFINITION. The statements for the provers, each said of every state and every operand that meets its hypotheses. Where a
command may set off work of other blocks, the statement gives what that work leaves alone by State.steady (Sys2Proof/Safety.lean),
and says of the rest what holds after it. -/

open Sys2Proof Sys2Proof.Machine

/-! ## The commands and the step -/

/-- The step takes the command at the front of the queue. The clause for an empty queue, 1 ms passing, is the model's choice (log
entry 2). -/
def Obligations.StepRunsFrontCommand : Prop :=
  (∀ (c : Instr) (rest : List Instr) (s : State), s.pending = c :: rest → step s = exec c { s with pending := rest }) ∧
  ∀ s : State, s.pending = [] → step s = .next { s with now := s.now + 1 }

/-- Every command goes on from every state and leaves the blocks at rest. That the commands waiting and the power-fail pin are the
environment's is the model's choice (log entries 1, 5, 19 and 45), and so is the index of free words (log entry 7). -/
def Obligations.EveryCommandGoesOn : Prop :=
  ∀ (c : Instr) (s : State), ∃ t, exec c s = .next t ∧ t.AtRest ∧ t.pending = s.pending ∧ t.powerFail = s.powerFail ∧ s.free ≤ t.free

/-- The invariants below hold at the state right after reset; what State.reset is, is the model's choice (log entry 1). -/
def Obligations.ResetMeetsInvariants : Prop :=
  State.reset.AtRest ∧ State.reset.CommandsDistinct ∧ State.reset.QueuesBounded ∧ State.reset.QuenchedIdle ∧
  State.reset.LevelQueuesBounded ∧ State.reset.SumpsInRange ∧ State.reset.HoldConsistent ∧ State.reset.OverridesLawful ∧
  State.reset.StartQueueLawful ∧ State.reset.LoadsAgree ∧ State.reset.ReportsCurrent ∧ State.reset.RunLimitsKept ∧ State.reset.ZonesAboveSafety

/-! ## Frames and the upstream port -/

/-- Encoding and decoding of frames are inverse to each other (R1). -/
def Obligations.FrameCodingRoundTrip : Prop :=
  ∀ (ws : List Word) (f : Frame), Frame.decode ws = some f ↔ f.payload.length ≤ 31 ∧ ws = f.encode

/-- The arrival of the MANAGE frame of a management command is that command, taken after the frame has counted for the link (R4, R5,
R177). That the arrival performs the operation in the same command is DEDUCED (log entry 4). -/
def Obligations.ManagementFrameIsCommand : Prop :=
  ∀ (c : Instr) (f : Frame) (s : State), c.wellFormed = true → commandFrame c = some f →
    exec (.upstreamFrameArrival f.encode) s = exec c (linkArrival s)

/-- What R5 passes to the MGU and what it finds field-bound; the forms of a REFUSE and of an ANSWER (R2, R3, R177); and the arrival
of a frame that is no MANAGE frame: logged when it fails its check, otherwise queued or refused (R4, R5, R6). -/
def Obligations.UpstreamFrameSorted : Prop :=
  (∀ f : Frame,
     (f.isManagement = true ↔
       f.dst = 63 ∧ f.kind = 6 ∧ f.src = 62 ∧ 1 ≤ f.payload.length ∧ f.payload.length ≤ 16 ∧ f.reserved = 0) ∧
     (f.isFieldBound = true ↔
       f.dst.toNat ≤ 61 ∧ f.src = 62 ∧ f.reserved = 0 ∧
       ((f.kind = 0 ∧ f.dst ≠ 0 ∧ ∃ w : Word, f.payload = [w] ∧ 1 ≤ w.toNat ∧ w.toNat ≤ 8 ∧ f.channel.toNat + w.toNat ≤ 16) ∨
         (f.kind = 2 ∧ 1 ≤ f.payload.length ∧ f.payload.length ≤ 8 ∧ f.channel.toNat + f.payload.length ≤ 16)))) ∧
  ((∀ (f : Frame) (reason : Nat) (s : State), reason < 65536 →
     refuse f reason s =
       offerUp { frame := { kind := 4, tag := f.tag, reserved := 0, dst := 62, src := f.dst, channel := f.channel
                            payload := [BitVec.ofNat 16 reason] }
                 restartAnswer := false } s) ∧
   ∀ (tag : Tag) (code status : Nat) (data : List Word) (s : State), code < 256 →
     answer tag code status data s =
       offerUp { frame := { kind := 7, tag := tag, reserved := 0, dst := 62, src := 63, channel := 0
                            payload := BitVec.ofNat 16 code :: BitVec.ofNat 16 status :: (if status = 0 then data else []) }
                 restartAnswer := false } s) ∧
  (∀ (ws : List Word) (s : State), s.AtRest →
     (Frame.decode ws = none →
       exec (.upstreamFrameArrival ws) s =
         .next (logFault { cls := .line, detail := 3, key := none, loc := none, kind := firstKind ws } s)) ∧
     ∀ f : Frame, Frame.decode ws = some f → f.isManagement = false →
       let t := linkArrival s
       exec (.upstreamFrameArrival ws) s = .next (
         if f.isFieldBound = true then
           if s.flc.line = .quenched then refuse f 5 t
           else if s.upp.downstream.length < 8 then { t with upp := { t.upp with downstream := s.upp.downstream ++ [f] } }
           else refuse f 1 t
         else refuse f 4 t))

/-- What a valid arrival and a silence do to the link, the notices with them, and to a control hold (R7, R98, R184): HOLD_LEFT with
cause 1 and the re-derivation of a leaving of HELD (R99). The notice before the judgements of that leaving is the model's choice
(log entry 18), and so is that a silence expiry without a running timer changes nothing, and that the clock moves to the deadline
(log entry 3). -/
def Obligations.LinkSupervision : Prop :=
  (∀ s : State, s.upp.link = .up →
    linkArrival s = { s with upp := { s.upp with silence := .running (s.now + 1000 * s.cfg.line.silencePeriod) } }) ∧
  (∀ s : State, s.upp.link = .lost →
    let t := raiseNotice 1 []
      { s with upp := { s.upp with link := .up, silence := .running (s.now + 1000 * s.cfg.line.silencePeriod) } }
    linkArrival s =
      if s.mgu.storeInvalid = true then raiseNotice 17 [] { t with mgu := { t.mgu with storeInvalid := false } } else t) ∧
  ∀ s : State, s.AtRest →
    (∀ d : Nat, s.upp.silence = .running d →
      let u := { s with now := max s.now d, upp := { s.upp with link := .lost, silence := .stopped }
                        stc := { s.stc with holdRequest := false } }
      (s.stc.hold = .running → exec .linkSilenceExpiry s = .next u) ∧
      (s.stc.hold = .stepping →
        exec .linkSilenceExpiry s =
          .next { u with stc := { u.stc with step := s.stc.step.map fun r => { r with linkLost := true } } }) ∧
      let descent : Timer := match s.stc.descent with
        | .paused r => .running (u.now + r)
        | x => x
      let left := { u with stc := { u.stc with hold := .running, descent := descent }, psc := { u.psc with hold := .running } }
      (s.stc.hold = .held → exec .linkSilenceExpiry s = .next (rederiveAll (raiseNotice 7 [1] left)) ∧
        ∃ t, exec .linkSilenceExpiry s = .next t ∧ t.steady = left.steady)) ∧
    ((∀ d : Nat, s.upp.silence ≠ .running d) → exec .linkSilenceExpiry s = .next s)

/-- The admission of frames and notices to the Upstream Queue (R8); a dropped ANSWER of a RESTART lets it be performed (R185). -/
def Obligations.UpstreamQueueOffer : Prop :=
  (∀ (e : UpEntry) (s : State), s.upp.upstream.length < 16 →
    offerUp e s = { s with upp := { s.upp with upstream := s.upp.upstream ++ [e] } }) ∧
  (∀ (e n : UpEntry) (before after : List UpEntry) (s : State), 16 ≤ s.upp.upstream.length →
    s.upp.upstream = before ++ n :: after → n.frame.isNotice = true → (∀ x ∈ before, x.frame.isNotice = false) →
    offerUp e s = { s with upp := { s.upp with upstream := before ++ after ++ [e] } }) ∧
  (∀ (e : UpEntry) (s : State), 16 ≤ s.upp.upstream.length → (∀ x ∈ s.upp.upstream, x.frame.isNotice = false) →
    offerUp e s =
      logFault { cls := .upstreamOverrun, detail := 0, key := none, loc := none, kind := e.frame.kind }
        (if e.restartAnswer = true then { s with mgu := { s.mgu with restart := .ready } } else s)) ∧
  ∀ (code : Nat) (data : List Word) (s : State),
    let e : UpEntry :=
      { frame := { kind := 7, tag := s.upp.noticeSeq, reserved := 0, dst := 62, src := 63, channel := 0
                   payload := BitVec.ofNat 16 (0x8000 + code) :: data }
        restartAnswer := false }
    (s.upp.upstream.length < 16 →
      raiseNotice code data s =
        { s with upp := { s.upp with noticeSeq := s.upp.noticeSeq + 1, upstream := s.upp.upstream ++ [e] } }) ∧
    (16 ≤ s.upp.upstream.length →
      raiseNotice code data s = { s with upp := { s.upp with noticeSeq := s.upp.noticeSeq + 1 } })

/-- One update of the Path Fault Record (R43), with the ranks of Table 2-4. -/
def Obligations.PathFaultRecordUpdate : Prop :=
  FaultClass.rank .line = 0 ∧ FaultClass.rank .upstreamOverrun = 0 ∧ FaultClass.rank .authority = 1 ∧ FaultClass.rank .map = 2 ∧
  ∀ (u : FaultUpdate) (s : State),
    (s.pmu.fault.fv = false →
      let k := u.key.getD { plan := 0, station := 0, channel := 0 }
      logFault u s =
        raiseNotice 3 [word u.cls.code, word u.detail, k.plan.zeroExtend 16, k.station.zeroExtend 16, k.channel.zeroExtend 16]
          { s with pmu := { s.pmu with fault := { fv := true, ow := false, stored := u, writtenAt := s.now } } }) ∧
    (s.pmu.fault.fv = true → s.pmu.fault.stored.cls.rank ≤ u.cls.rank →
      logFault u s = { s with pmu := { s.pmu with fault := { fv := true, ow := true, stored := u, writtenAt := s.now } } }) ∧
    (s.pmu.fault.fv = true → u.cls.rank < s.pmu.fault.stored.cls.rank →
      logFault u s = { s with pmu := { s.pmu with fault := { s.pmu.fault with ow := true } } })

/-- The upstream transmitter (R9); the end of a RESTART's ANSWER lets the RESTART be performed (R185). -/
def Obligations.UpstreamTransmission : Prop :=
  ∀ s : State, s.AtRest →
    (∀ (e : UpEntry) (rest : List UpEntry), s.upp.transmitter = none → s.upp.upstream = e :: rest →
      exec .upstreamTransmit s = .next { s with upp := { s.upp with transmitter := some e, upstream := rest } }) ∧
    (s.upp.transmitter.isSome = true ∨ s.upp.upstream = [] → exec .upstreamTransmit s = .next s) ∧
    (∀ e : UpEntry, s.upp.transmitter = some e →
      exec .upstreamTransmitEnd s =
        .next { s with upp := { s.upp with transmitter := none }
                       mgu := { s.mgu with restart := if e.restartAnswer = true then .ready else s.mgu.restart } }) ∧
    (s.upp.transmitter = none → exec .upstreamTransmitEnd s = .next s)

/-- Every step keeps the queues of the ports and the level sample queues within their capacities (R6, R8, R53). -/
def Obligations.QueuesStayBounded : Prop :=
  (∀ s t : State, s.QueuesBounded → step s = .next t → t.QueuesBounded) ∧
  ∀ s t : State, s.LevelQueuesBounded → step s = .next t → t.LevelQueuesBounded

/-! ## The field line -/

/-- What a grant of the Field Arbiter sends (R12, R13, R18, R20), a scan entry that is not enabled (R20), and the command search
that finds no entry (R18, R19). That a transaction keeps the reply window in force at its start is DEDUCED (log entry 10). -/
def Obligations.ArbiterGrants : Prop :=
  ∀ s : State, s.AtRest →
    (s.flc.line ≠ .running ∨ s.flc.transaction.isSome = true ∨
        (s.flc.commandQueue = [] ∧ s.upp.downstream = [] ∧ s.flc.scanPending = []) →
      exec .fieldArbiterGrant s = .next s) ∧
    (s.flc.line = .running → s.flc.transaction = none →
      (∀ (e : CommandEntry) (rest : List CommandEntry) (station : Station) (channel : Channel) (u : State),
        s.flc.commandQueue = e :: rest →
        commandSearch e.point { s with flc := { s.flc with commandQueue := rest } } = (some (station, channel), u) →
        exec .fieldArbiterGrant s = .next { u with flc :=
          { s.flc with
            commandQueue := rest
            ownTag := s.flc.ownTag + 1
            transaction := some
              { origin := .command e.point e.value e.attempt
                frame := { kind := 2, tag := s.flc.ownTag, dst := station, src := 63, channel := channel, payload := [e.value] }
                phase := .sending, window := s.cfg.line.replyWindow, timer := .stopped } } }) ∧
      (∀ (w : Frame) (ws : List Frame), s.flc.commandQueue = [] → s.upp.downstream = w :: ws → w.kind = 0 →
        (s.flc.scanPending = [] ∨ s.flc.pairTurn = .downstream) →
        exec .fieldArbiterGrant s = .next { s with
          upp := { s.upp with downstream := ws }
          flc := { s.flc with
            pairTurn := .scan
            transaction := some
              { origin := .supervisory w, frame := w, phase := .sending, window := s.cfg.line.replyWindow, timer := .stopped } } }) ∧
      (∀ (e : ScanId) (es : List ScanId), s.flc.commandQueue = [] → s.flc.scanPending = e :: es → (s.scanCfg e).enable = true →
        (s.scanCfg e).span ≤ 8 → (s.upp.downstream = [] ∨ s.flc.pairTurn = .scan) →
        exec .fieldArbiterGrant s = .next { s with flc :=
          { s.flc with
            scanPending := es
            pairTurn := .downstream
            ownTag := s.flc.ownTag + 1
            transaction := some
              { origin := .scan e
                frame := { kind := 0, tag := s.flc.ownTag, dst := (s.scanCfg e).station, src := 63, channel := (s.scanCfg e).channel
                           payload := [BitVec.ofNat 16 (s.scanCfg e).span] }
                phase := .sending, window := s.cfg.line.replyWindow, timer := .stopped } } }) ∧
      (∀ e : ScanId, s.flc.commandQueue = [] → s.upp.downstream = [] → s.flc.scanPending = [e] → (s.scanCfg e).enable = false →
        exec .fieldArbiterGrant s = .next { s with flc := { s.flc with scanPending := [], pairTurn := .downstream } }) ∧
      (∀ (e : CommandEntry) (u : State), s.flc.commandQueue = [e] → s.upp.downstream = [] → s.flc.scanPending = [] →
        commandSearch e.point { s with flc := { s.flc with commandQueue := [] } } = (none, u) →
        (s.pcfg e.point).kind = .command → commandFails e.point u (exec .fieldArbiterGrant s)))

/-- The command search (R18): over maps without a failing check bit, and over any maps, where it invalidates the failing valid
COMMAND entries that it meets before it ends and logs the first of them (R27, R29). That the search goes on past failing entries and
logs the first of them is DEDUCED (log entry 11). -/
def Obligations.CommandSearchFindsFirst : Prop :=
  (∀ (p : PointId) (s : State), (∀ l : MapLoc, (s.mapEntry l).checkGood = true) →
    let good := fun l : MapLoc =>
      (s.mapEntry l).fields.valid = true ∧ (s.mapEntry l).fields.direction = .command ∧ pointOf (s.mapEntry l).fields.point = p ∧
        ((s.mapEntry l).fields.isGlobal = true ∨ (s.mapEntry l).fields.plan = s.planInForce)
    (∀ (before after : List MapLoc) (l : MapLoc), allPlaces = before ++ l :: after → (∀ x ∈ before, ¬ good x) → good l →
      commandSearch p s =
        (some ((s.mapEntry l).fields.station, (s.mapEntry l).fields.channel), s.putEntry l { s.mapEntry l with used := true })) ∧
    ((∀ l ∈ allPlaces, ¬ good l) → commandSearch p s = (none, s))) ∧
  ∀ (p : PointId) (s : State),
    let f := fun l : MapLoc => (s.mapEntry l).fields
    let candidate := fun l : MapLoc => (f l).valid = true ∧ (f l).direction = .command
    let good := fun l : MapLoc =>
      candidate l ∧ (s.mapEntry l).checkGood = true ∧ pointOf (f l).point = p ∧
        ((f l).isGlobal = true ∨ (f l).plan = s.planInForce)
    let failing := fun places : List MapLoc =>
      places.filter fun l => (f l).valid && (f l).direction == .command && !(s.mapEntry l).checkGood
    let logged := fun (met : List MapLoc) => match met with
      | [] => s
      | l :: _ =>
        let detail := match l with
          | .pinned _ => 32
          | .setMap _ _ => 33
        logFault
          { cls := .map, detail := detail, key := some { plan := (f l).plan, station := (f l).station, channel := (f l).channel }
            loc := some l, kind := 2 } s
    let r := commandSearch p s
    let shows := fun (met : List MapLoc) (found : Option MapLoc) =>
      (∀ x : MapLoc, r.2.mapEntry x =
        if found = some x then { s.mapEntry x with used := true }
        else if x ∈ met then (s.mapEntry x).invalidated else s.mapEntry x) ∧
      { r.2 with pmu := { r.2.pmu with pinned := s.pmu.pinned, sets := s.pmu.sets } } = logged met
    (∀ (before after : List MapLoc) (l : MapLoc), allPlaces = before ++ l :: after → (∀ x ∈ before, ¬ good x) → good l →
      r.1 = some ((f l).station, (f l).channel) ∧ shows (failing before) (some l)) ∧
    ((∀ l ∈ allPlaces, ¬ good l) → r.1 = none ∧ shows (failing allPlaces) none)

/-- The judgement of a supervisory WRITE: one that reaches an OWNED COMMAND POINT (R103, R104, R105, R106), one that does not (R13,
R30), and the taking of a WRITE, broadcast or unicast, by the Field Arbiter (R13). That a REFUSE is offered before the refusal is
logged is the model's choice (log entry 49). That TAKEN is offered before what the other blocks do at the new entry is the model's
choice (log entry 19); that a forwarded WRITE keeps the reply window in force at its start is DEDUCED (log entry 10). -/
def Obligations.SupervisoryWriteAuthority : Prop :=
  (∀ (w : Frame) (s : State), 1 < w.payload.length →
    let k : Key := { plan := s.planInForce, station := w.dst, channel := w.channel }
    let r := lookups s.planInForce w.dst .command 2 w.channel.toNat w.payload.length s
    (∀ l ∈ r.1, l.parityFault = false ∧ l.result ≠ .multiHit) →
    (∃ l ∈ r.1, ∃ p, l.result = .hit p ∧ ownerOf s.cfg p ≠ .nobody) →
    judgeWrite w s = logFault { cls := .authority, detail := 11, key := some k, loc := none, kind := 2 } (refuse w 11 r.2)) ∧
  (∀ (w : Frame) (v : Word) (p : PointId) (s : State), s.AtRest → w.payload = [v] →
    let k : Key := { plan := s.planInForce, station := w.dst, channel := w.channel }
    let r := lookup k .command 2 s
    let sent : Transaction :=
      { origin := .supervisory w, frame := w, phase := .sending, window := s.cfg.line.replyWindow, timer := .stopped }
    r.1.result = .hit p → r.1.parityFault = false → ownerOf s.cfg p ≠ .nobody →
    let refused := fun reason : Nat =>
      judgeWrite w s = logFault { cls := .authority, detail := reason, key := some k, loc := none, kind := 2 } (refuse w reason r.2)
    if s.stc.hold = .held then
      judgeWrite w s = { r.2 with flc := { r.2.flc with transaction := some sent } }
    else if s.cau.keyLocal = true then refused 7
    else if Stage.alert.code ≤ s.stc.stage.code then refused 6
    else if (ownerOf s.cfg p).accepts v = false then refused 4
    else if s.override (some p) = none ∧ 16 ≤ s.cau.overrides.length then refused 8
    else
      (judgeWrite w s).override (some p) =
        some { point := p, value := v, expiry := s.now + 60000 * s.cfg.supply.lifetime, tag := w.tag } ∧
      (∀ q : PointId, q ≠ p → (judgeWrite w s).override (some q) = s.override (some q)) ∧
      (judgeWrite w s).flc.transaction = s.flc.transaction ∧
      let taken : Frame :=
        { kind := 5, tag := w.tag, reserved := 0, dst := 62, src := w.dst, channel := w.channel
          payload := [word s.cfg.supply.lifetime] }
      (offerUp { frame := taken, restartAnswer := false } r.2).upp.upstream <+: (judgeWrite w s).upp.upstream) ∧
  (∀ (v : Word) (i : PumpId) (b : BarrierId) (z : ZoneId),
    ((Owner.pump i).accepts v = true ↔ v = 0 ∨ v = 1) ∧ ((Owner.barrier b).accepts v = true ↔ v = 1 ∨ v = 2) ∧
    ((Owner.signal b).accepts v = true ↔ v.toNat ≤ 3) ∧ (Owner.gate.accepts v = true ↔ v = 1 ∨ v = 2) ∧
    ((Owner.zone z).accepts v = true ↔ v.toNat ≤ 100)) ∧
  (∀ (w : Frame) (s : State),
    let r := lookups s.planInForce w.dst .command 2 w.channel.toNat w.payload.length s
    let sent : Transaction :=
      { origin := .supervisory w, frame := w, phase := .sending, window := s.cfg.line.replyWindow, timer := .stopped }
    let forwarded := { r.2 with flc := { r.2.flc with transaction := some sent } }
    ((∃ l ∈ r.1, l.parityFault = true ∨ l.result = .multiHit) → judgeWrite w s = refuse w 10 r.2) ∧
    ((∀ l ∈ r.1, l.parityFault = false ∧ l.result ≠ .multiHit) →
      (∀ l ∈ r.1, ∀ p, l.result = .hit p → ownerOf s.cfg p = .nobody) →
      ((∀ l ∈ r.1, l.result ≠ .miss) ∨ s.cfg.line.refuseUnmapped = false → judgeWrite w s = forwarded) ∧
      ∀ l, r.1.find? (fun x => x.result == .miss) = some l → s.cfg.line.refuseUnmapped = true →
        judgeWrite w s = logFault { cls := .map, detail := 9, key := some l.key, loc := none, kind := 2 } (refuse w 9 r.2))) ∧
  ∀ (w : Frame) (s : State), s.AtRest → s.flc.line = .running → s.flc.transaction = none → s.flc.commandQueue = [] →
    s.flc.scanPending = [] → s.upp.downstream = [w] → w.kind = 2 →
    let u := { s with upp := { s.upp with downstream := [] }, flc := { s.flc with pairTurn := .scan } }
    let sent : Transaction :=
      { origin := .supervisory w, frame := w, phase := .sending, window := s.cfg.line.replyWindow, timer := .stopped }
    (w.dst = 0 → exec .fieldArbiterGrant s = .next (
      if s.stc.hold = .held then { u with flc := { u.flc with transaction := some sent } }
      else logFault { cls := .authority, detail := 6, key := none, loc := none, kind := 2 } (refuse w 6 u))) ∧
    (w.dst ≠ 0 → (judgeWrite w u).flc.commandQueue = [] → exec .fieldArbiterGrant s = .next (judgeWrite w u))

/-- The end of the check word of a sent request (R11); which replies are acceptable: channel, kind, count and reserved bits (R14);
and a frame on the field port: discarded, or the end of a transaction of origin SUPERVISORY (R14, R16). That the reply timer runs
for the reply window kept in the transaction since its start is DEDUCED (log entry 10: R11 can be read for the window in force at
the end of the check word). -/
def Obligations.FieldSendAndArrival : Prop :=
  (∀ (x : Transaction) (f : Frame),
     let own := f.channel = x.frame.channel
     let n := f.payload.length
     x.accepts f = true ↔ f.reserved = 0 ∧
       (f.kind = 4 ∧ n = 1 ∨ x.frame.kind = 0 ∧ f.kind = 1 ∧ own ∧ n = x.frame.span + 1 ∨
         x.frame.kind ≠ 0 ∧ f.kind = 3 ∧ own ∧ 1 ≤ n ∧ n ≤ x.frame.payload.length)) ∧
  (∀ s : State, s.AtRest →
     (∀ x : Transaction, s.flc.transaction = some x → x.phase = .sending →
       let sent : Transaction :=
         if x.frame.dst = 0 then { x with phase := .guard, timer := .running (s.now + 2) }
         else { x with phase := .awaiting, timer := .running (s.now + x.window) }
       exec .fieldSendEnd s = .next { s with flc := { s.flc with transaction := some sent } }) ∧
     ((∀ x : Transaction, s.flc.transaction = some x → x.phase ≠ .sending) → exec .fieldSendEnd s = .next s)) ∧
  (∀ (ws : List Word) (s : State), s.AtRest →
     ((∀ x : Transaction, s.flc.transaction = some x → x.phase ≠ .awaiting) ∨ s.flc.line = .quenched →
       exec (.fieldFrameArrival ws) s = .next s) ∧
     ∀ x : Transaction, s.flc.transaction = some x → x.phase = .awaiting → s.flc.line = .running →
       (∀ f : Frame, Frame.decode ws = some f → (f.src ≠ x.frame.dst ∨ f.tag ≠ x.frame.tag ∨ f.dst ≠ x.frame.src) →
         exec (.fieldFrameArrival ws) s = .next s) ∧
       ∀ w : Frame, x.origin = .supervisory w →
         let free := { s with flc := { s.flc with transaction := none } }
         (Frame.decode ws = none → exec (.fieldFrameArrival ws) s = .next (refuse w 3 free)) ∧
         ∀ f : Frame, Frame.decode ws = some f → f.src = x.frame.dst → f.tag = x.frame.tag → f.dst = x.frame.src →
           (x.accepts f = false → exec (.fieldFrameArrival ws) s = .next (refuse w 3 free)) ∧
           (f.kind = 4 → f.payload.length = 1 → f.reserved = 0 →
             exec (.fieldFrameArrival ws) s = .next (offerUp { frame := f, restartAnswer := false } free)))

/-- The accepted VALUE and ECHO replies (R16, R19, R20, R24): what is observed, what goes upstream, and what the reply to a command
gives its point (R19, R58); a scan and a command ended by REFUSE or by a reply that is not acceptable (R19, R20); and the outcome of
a command, CONFIRMED or FAILED (R57), with what it does to the owner of the point: a barrier (R156), a signal head (R157), the gate
(R161) and a zone (R170); that of a pump is stated in PumpExpiries. The channels of a frame are looked up and applied one by one in
ascending order (R24, R50, R59). That the outcome of a point no longer of kind COMMAND changes nothing is DEDUCED (log entry 50);
that the events of other blocks follow the owner's handling of an outcome is the model's choice (log entry 19). That the record is
emptied first, that the lookups of a frame come before the samples are applied, and that a reply goes upstream after its
observation, is DEDUCED (log entry 14). -/
def Obligations.RepliesObserved : Prop :=
  (∀ (plan : Plan) (station : Station) (dir : Direction) (kind : BitVec 3) (c n : Nat) (s : State),
    lookups plan station dir kind c 0 s = ([], s) ∧
    let r := lookup { plan := plan, station := station, channel := BitVec.ofNat 4 c } dir kind s
    let more := lookups plan station dir kind (c + 1) n r.2
    lookups plan station dir kind c (n + 1) s = (r.1 :: more.1, more.2)) ∧
  (∀ (f : Frame) (ws : List Word) (quality : Word) (s : State), f.payload = ws ++ [quality] →
    let r := lookups s.planInForce f.src .sample 1 f.channel.toNat ws.length s
    observeValue f s = ((r.1.zip ws).zipIdx).foldl (fun t x => match x.1.1.result with
      | .hit p => applySample p x.1.2 (quality.getLsbD x.2) t
      | _ => t) r.2) ∧
  (∀ (f : Frame) (s : State),
    let r := lookups s.planInForce f.src .command 3 f.channel.toNat f.payload.length s
    observeEcho f s = (r.1.zip f.payload).foldl (fun t x => match x.1.result with
      | .hit p => applyEcho p x.2 t
      | _ => t) r.2) ∧
  (∀ (p : PointId) (w : Word) (s : State),
    ((s.pcfg p).kind ≠ .command → applyEcho p w s = s) ∧
    ((s.pcfg p).kind = .command → applyEcho p w s = s.modPoint p fun x =>
      { x with
        confirmed := w, quality := .good, since := s.now
        freshTimer := if (s.pcfg p).freshness = 0 then .stopped else .running (s.now + 100 * (s.pcfg p).freshness)
        changed := x.changed || !(x.quality == .good) || !(x.confirmed == w) })) ∧
  (∀ (p : PointId) (failed : Bool) (s : State),
    let state : CommandState := if failed = true then .failed else .confirmed
    let u := s.modPoint p fun x => { x with command := state, changed := x.changed || !(x.command == state) }
    let sent := (s.point p).commanded
    let got := (s.point p).confirmed
    ((s.pcfg p).kind ≠ .command → commandOutcome p failed s = s) ∧
    ((s.pcfg p).kind = .command → commandOutcome p failed s = quiesce (match ownerOf s.cfg p with
      | .nobody => u
      | .pump i => pumpOutcome i failed sent got u
      | .barrier b => barrierOutcome b failed sent got u
      | .signal b => headOutcome b failed sent got u
      | .gate => gateOutcome failed sent got u
      | .zone z => zoneOutcome z failed got u))) ∧
  (∀ (failed : Bool) (sent got : Word) (s : State),
    let wrong := failed = true ∨ sent ≠ got
    (∀ b : BarrierId,
      let x := s.barrier b
      let idle := x.mode = .disabled ∨ x.mode = .unknown ∨ x.mode.isFault = true
      let t := barrierOutcome b failed sent got s
      (¬ wrong ∨ idle → t = s) ∧
      (wrong → ¬ idle → (t.barrier b).mode = .faultTravel ∧ (t.barrier b).fault = 5 ∧ (t.barrier b).warnTimer = .stopped ∧
        (t.barrier b).clearTimer = .stopped ∧ (t.barrier b).travelTimer = .stopped ∧ (t.barrier b).postDeferred = false ∧
        (∀ r ∈ t.lau.queue, r.device ≠ .barrier b) ∧ (∀ o, o ≠ b → t.barrier o = s.barrier o) ∧
        Tab.get t.lau.motorLoad (b.castLE (by decide)) = 0 ∧
        t.upp = (raiseNotice 14 [word (b.val + 1), 5, word x.mode.code] s).upp) ∧
      (wrong → headOutcome b failed sent got s = raiseNotice 14 [word (b.val + 1), 6, word x.mode.code]
        (s.modBarrier b fun y => { y with headFault := true })) ∧
      (¬ wrong → headOutcome b failed sent got s = s.modBarrier b fun y => { y with headFault := false })) ∧
    (let x := s.gsq.gate
      let idle := x.mode = .disabled ∨ x.mode = .unknown ∨ x.mode = .fault
      let t := gateOutcome failed sent got s
      (¬ wrong ∨ idle → t = s) ∧
      (wrong → ¬ idle →
        t.gsq.gate = { x with mode := .fault, fault := 5, dwellTimer := .stopped, travelTimer := .stopped, postDeferred := false } ∧
        (∀ r ∈ t.lau.queue, r.device ≠ .gate) ∧ Tab.get t.lau.motorLoad 4 = 0 ∧ t.flc = (commandPoint s.cfg.gate.drive 0 s).flc ∧
        t.upp = (raiseNotice 14 [0, 5, word x.mode.code] s).upp)) ∧
    ∀ z : ZoneId,
      let x := s.zone z
      let amiss := failed = true ∨ got ≠ BitVec.ofNat 16 x.level
      let flagged := s.modZone z fun y => { y with dimmerFault := true }
      let t := zoneOutcome z failed got s
      (¬ amiss → t = s.modZone z fun y => { y with dimmerFault := false, retry := 0 }) ∧
      (amiss → t = if x.dimmerFault = true then flagged else raiseNotice 15 [word (z.val + 1), 2, word x.level, got] flagged)) ∧
  ∀ (ws : List Word) (x : Transaction) (s : State), s.AtRest → s.flc.transaction = some x → x.phase = .awaiting →
    s.flc.line = .running →
    let free := { s with flc := { s.flc with transaction := none } }
    (∀ f : Frame, Frame.decode ws = some f → f.src = x.frame.dst → f.tag = x.frame.tag → f.dst = x.frame.src → x.accepts f = true →
      (∀ e : ScanId, x.origin = .scan e →
        (f.kind = 1 → exec (.fieldFrameArrival ws) s = .next (observeValue f free)) ∧
        (f.kind ≠ 1 → exec (.fieldFrameArrival ws) s = .next free)) ∧
      (∀ w : Frame, x.origin = .supervisory w →
        (f.kind = 1 → exec (.fieldFrameArrival ws) s =
          .next (offerUp { frame := f, restartAnswer := false } (observeValue f free))) ∧
        (f.kind = 3 → exec (.fieldFrameArrival ws) s =
          .next (offerUp { frame := f, restartAnswer := false } (observeEcho f free)))) ∧
      ∀ (p : PointId) (v : Word) (n : Nat), x.origin = .command p v n → (s.pcfg p).kind = .command →
        (∀ (w : Word) (more : List Word), f.kind = 3 → f.payload = w :: more →
          (∃ t, exec (.fieldFrameArrival ws) s = .next t ∧
            (t.point p).confirmed = w ∧ (t.point p).quality = .good ∧ (t.point p).since = s.now ∧
            (t.point p).freshTimer = (if (s.pcfg p).freshness = 0 then .stopped else .running (s.now + 100 * (s.pcfg p).freshness)) ∧
            ((∀ e ∈ s.flc.commandQueue, e.point ≠ p) →
              (ownerOf s.cfg p = .nobody → (t.point p).command = .confirmed) ∧
              ((t.point p).command = .confirmed ∨ (t.point p).command = .pending)) ∧
            ((∀ e ∈ s.flc.commandQueue, e.point ≠ p) → t = commandOutcome p false (applyEcho p w free)) ∧
            (∀ r, r ≠ p → (t.point r).quality = (s.point r).quality ∧ (t.point r).confirmed = (s.point r).confirmed) ∧
            t.flc.transaction = none ∧ t.cfg = s.cfg ∧ t.now = s.now ∧ t.pmu.sets = s.pmu.sets ∧ t.pmu.pinned = s.pmu.pinned) ∧
          ((∃ e ∈ s.flc.commandQueue, e.point = p) → exec (.fieldFrameArrival ws) s = .next (applyEcho p w free))) ∧
        (f.kind = 4 →
          ((∃ e ∈ s.flc.commandQueue, e.point = p) → exec (.fieldFrameArrival ws) s = .next free) ∧
          ((∀ e ∈ s.flc.commandQueue, e.point ≠ p) →
            exec (.fieldFrameArrival ws) s = .next (commandOutcome p true free) ∧
            commandFails p free (exec (.fieldFrameArrival ws) s)))) ∧
    let corrupt := match Frame.decode ws with
      | none => True
      | some f => f.src = x.frame.dst ∧ f.tag = x.frame.tag ∧ f.dst = x.frame.src ∧ x.accepts f = false
    (corrupt → ∀ e : ScanId, x.origin = .scan e → exec (.fieldFrameArrival ws) s = .next free) ∧
    (corrupt → ∀ (p : PointId) (v : Word) (n : Nat), x.origin = .command p v n → (s.pcfg p).kind = .command →
      ((∃ e ∈ s.flc.commandQueue, e.point = p) → exec (.fieldFrameArrival ws) s = .next free) ∧
      ((∀ e ∈ s.flc.commandQueue, e.point ≠ p) →
        (n = 1 → ownerOf s.cfg p ≠ .nobody → exec (.fieldFrameArrival ws) s =
          .next { free with flc := { free.flc with
            commandQueue := s.flc.commandQueue ++ [{ point := p, value := v, attempt := 2 }] } }) ∧
        (n ≠ 1 ∨ ownerOf s.cfg p = .nobody → commandFails p free (exec (.fieldFrameArrival ws) s))))

/-- The expiries of the reply window and of the guard timer (R15, R16), and the retry and the failure of a command (R19). That an
expiry moves the clock to its deadline, and does nothing in another phase, is the model's choice (log entry 3). -/
def Obligations.TransactionExpiries : Prop :=
  ∀ s : State, s.AtRest →
    ((∀ x : Transaction, s.flc.transaction = some x → x.phase ≠ .awaiting) → exec .replyWindowExpiry s = .next s) ∧
    ((∀ x : Transaction, s.flc.transaction = some x → x.phase ≠ .guard) → exec .guardExpiry s = .next s) ∧
    ∀ (x : Transaction) (d : Nat), s.flc.transaction = some x → x.timer = .running d → s.flc.line = .running →
      let free := { s with now := max s.now d, flc := { s.flc with transaction := none } }
      (x.phase = .awaiting →
        (∀ w : Frame, x.origin = .supervisory w → exec .replyWindowExpiry s = .next (refuse w 2 free)) ∧
        (∀ e : ScanId, x.origin = .scan e → exec .replyWindowExpiry s = .next free) ∧
        (∀ (p : PointId) (v : Word) (n : Nat), x.origin = .command p v n → (∃ e ∈ s.flc.commandQueue, e.point = p) →
          exec .replyWindowExpiry s = .next free) ∧
        (∀ (p : PointId) (v : Word), x.origin = .command p v 1 → (∀ e ∈ s.flc.commandQueue, e.point ≠ p) →
          ownerOf s.cfg p ≠ .nobody →
          exec .replyWindowExpiry s =
            .next { free with flc := { free.flc with
              commandQueue := s.flc.commandQueue ++ [{ point := p, value := v, attempt := 2 }] } }) ∧
        ∀ (p : PointId) (v : Word) (n : Nat), x.origin = .command p v n → (∀ e ∈ s.flc.commandQueue, e.point ≠ p) →
          n ≠ 1 ∨ ownerOf s.cfg p = .nobody → (s.pcfg p).kind = .command → commandFails p free (exec .replyWindowExpiry s)) ∧
      (x.phase = .guard → ∀ w : Frame, x.origin = .supervisory w → exec .guardExpiry s = .next free)

/-- QUENCH and UNQUENCH by line state (R21, R22): their ANSWERS, the entry into QUENCHED at a QUENCH with the line free and at the
end of a transaction in QUENCH_PENDING, and what it leaves (R128, R144, R164, R174). The frames of an entry are given in the order
in which the model offers them, the DONE of the waiting QUENCHes last and in order of arrival, which is the model's choice (log
entry 55); so are the retry of a WRITE to station 0 that a storage fault made (log entry 56) and the clock's move to a deadline (log
entry 3). NOTICES stand among the frames and are left out (log entries 17, 19 and 68). That QUENCHED is entered after the outcome of
the transaction has been handled is DEDUCED (log entry 14). -/
def Obligations.QuenchAndUnquench : Prop :=
  ∀ (tag : Tag) (s : State), s.Taking →
    let frames := fun u : State => u.upp.upstream.filter fun e => !e.frame.isNotice
    let refused := fun (reason : Word) (w : Frame) =>
      ({ frame := { kind := 4, tag := w.tag, reserved := 0, dst := 62, src := w.dst, channel := w.channel, payload := [reason] }
         restartAnswer := false } : UpEntry)
    let done := fun g : Tag =>
      ({ frame := { kind := 7, tag := g, reserved := 0, dst := 62, src := 63, channel := 0, payload := [52, 0] }
         restartAnswer := false } : UpEntry)
    let entered := fun (first : List UpEntry) (waiting : List Tag) (t : State) =>
      t.flc.line = .quenched ∧ t.flc.quenchWaiting = [] ∧ t.QuenchedIdle ∧
      (∀ p : PumpId, (t.pump p).mode = if (s.pump p).mode = .disabled then .disabled else .unknown) ∧
      (∀ b : BarrierId, (t.barrier b).mode = if (s.barrier b).mode = .disabled then .disabled else .unknown) ∧
      t.gsq.gate.mode = (if s.gsq.gate.mode = .disabled then .disabled else .unknown) ∧
      (∀ z : ZoneId, (t.zone z).mode = if (s.zone z).mode = .disabled then .disabled else .unknown) ∧
      (∀ e ∈ s.flc.commandQueue, (t.point e.point).command = .idle) ∧
      ((frames s).length + first.length + s.upp.downstream.length + waiting.length ≤ 16 →
        frames t = frames s ++ first ++ s.upp.downstream.map (refused 5) ++ waiting.map done)
    (s.flc.line = .quenched → exec (.quench tag) s = .next (answer tag 52 0 [] s)) ∧
    (s.flc.line = .quenchPending →
      exec (.quench tag) s = .next { s with flc := { s.flc with quenchWaiting := s.flc.quenchWaiting ++ [tag] } }) ∧
    (s.flc.line = .running → s.flc.transaction.isSome = true →
      exec (.quench tag) s =
        .next { s with flc := { s.flc with line := .quenchPending, quenchWaiting := s.flc.quenchWaiting ++ [tag] } }) ∧
    (s.flc.line = .running → s.flc.transaction = none → ∃ t, exec (.quench tag) s = .next t ∧
      entered [] (s.flc.quenchWaiting ++ [tag]) t) ∧
    (s.flc.line = .quenchPending → ∀ x : Transaction, s.flc.transaction = some x →
      let supervisory := fun e : Frame → UpEntry => match x.origin with
        | .supervisory w => [e w]
        | _ => []
      (∀ d : Nat, x.timer = .running d →
        (x.phase = .awaiting → ∃ t, exec .replyWindowExpiry s = .next t ∧
          entered (supervisory (refused 2)) s.flc.quenchWaiting t) ∧
        (x.phase = .guard → ∃ t, exec .guardExpiry s = .next t ∧ entered [] s.flc.quenchWaiting t)) ∧
      ∀ ws : List Word, x.phase = .awaiting →
        (Frame.decode ws = none → ∃ t, exec (.fieldFrameArrival ws) s = .next t ∧
          entered (supervisory (refused 3)) s.flc.quenchWaiting t) ∧
        ∀ f : Frame, Frame.decode ws = some f → x.isReply f = true → x.accepts f = true →
          ∃ t, exec (.fieldFrameArrival ws) s = .next t ∧
            entered (supervisory fun _ => { frame := f, restartAnswer := false }) s.flc.quenchWaiting t) ∧
    (s.flc.line = .quenched →
      let u := answer tag 53 0 [] { s with flc := { s.flc with line := .running } }
      ∃ t, exec (.unquench tag) s = .next t ∧ u.upp.upstream <+: t.upp.upstream ∧ t.steady = u.steady) ∧
    (s.flc.line ≠ .quenched → exec (.unquench tag) s = .next (answer tag 53 3 [] s))

/-- Every step keeps the Command Queue at one entry per command point (R17), and a QUENCHED line without work (R21, R22). -/
def Obligations.FieldWorkStaysLawful : Prop :=
  (∀ s t : State, s.CommandsDistinct → step s = .next t → t.CommandsDistinct) ∧
  ∀ s t : State, s.QuenchedIdle → step s = .next t → t.QuenchedIdle

/-! ## The point maps -/

/-- A storage fault that can occur turns the check of its entry over and alters nothing else (R26; the bits of the mask and the
parity are the model's, log entry 9). -/
def Obligations.StorageFaultFailsCheck : Prop :=
  ∀ (l : MapLoc) (flips : BitVec 24) (s : State), s.AtRest → (Instr.mapStorageFault l flips).wellFormed = true →
    ∃ e : MapEntry, exec (.mapStorageFault l flips) s = .next (s.putEntry l e) ∧
      e.fields.bits = (s.mapEntry l).fields.bits ^^^ flips ∧ e.used = (s.mapEntry l).used ∧ e.check = (s.mapEntry l).check ∧
      e.checkGood = !(s.mapEntry l).checkGood

/-- The set index of a KEY, and the places that a lookup examines (R25). -/
def Obligations.SetIndexOfKey : Prop :=
  (∀ (plan : Plan) (station : Station) (channel : Channel),
    (setIndex plan station channel).val = ((16 * station.toNat + channel.toNat) % 128) ^^^ (32 * plan.toNat)) ∧
  ∀ (k : Key) (l : MapLoc),
    l ∈ lookupPlaces k ↔ (∃ i, l = .pinned i) ∨ ∃ w, l = .setMap (setIndex k.plan k.station k.channel) w

/-- A lookup whose matches pass their checks (R28), with Miss Capture (R32) and the log of a multi-hit (R29); and one that finds
matches with a failing check bit, which it invalidates, logs by the first of them and indicates, resolving over the others (R27,
R28, R29). Which failing place is logged is the model's reading (log entry 11), and that the log comes before Miss Capture is its
choice (log entry 12). -/
def Obligations.LookupResolves : Prop :=
  (∀ (k : Key) (dir : Direction) (kind : BitVec 3) (s : State),
    let found := (lookupPlaces k).filter fun l => (s.mapEntry l).fields.isMatch k
    let missed : Lookup × State :=
      ({ key := k, result := .miss, parityFault := false },
        if s.pmu.miss.full = true then
          { s with pmu := { s.pmu with miss := { s.pmu.miss with count := min 255 (s.pmu.miss.count + 1) } } }
        else raiseNotice 2 [k.plan.zeroExtend 16, k.station.zeroExtend 16, k.channel.zeroExtend 16, kind.zeroExtend 16]
          { s with pmu := { s.pmu with miss := { full := true, key := k, kind := kind, count := 1 } } })
    (∀ l ∈ found, (s.mapEntry l).checkGood = true) →
    (found = [] → lookup k dir kind s = missed) ∧
    (∀ (l : MapLoc) (rest : List MapLoc), found = l :: rest →
      let f := (s.mapEntry l).fields
      let r := lookup k dir kind s
      ((∃ x ∈ rest, (s.mapEntry x).fields.point ≠ f.point ∨ (s.mapEntry x).fields.direction ≠ f.direction) →
        r = ({ key := k, result := .multiHit, parityFault := false },
          logFault { cls := .map, detail := 34, key := some k, loc := some l, kind := kind } s)) ∧
      ((∀ x ∈ rest, (s.mapEntry x).fields.point = f.point ∧ (s.mapEntry x).fields.direction = f.direction) →
        (f.direction ≠ dir → r = missed) ∧
        (f.direction = dir →
          r.1 = { key := k, result := .hit (pointOf f.point), parityFault := false } ∧
          (∀ x : MapLoc, r.2.mapEntry x = if x ∈ found then { s.mapEntry x with used := true } else s.mapEntry x) ∧
          { r.2 with pmu := { r.2.pmu with pinned := s.pmu.pinned, sets := s.pmu.sets } } = s)))) ∧
  ∀ (k : Key) (dir : Direction) (kind : BitVec 3) (s : State),
    let f := fun l : MapLoc => (s.mapEntry l).fields
    let found := (lookupPlaces k).filter fun l => (f l).isMatch k
    let good := found.filter fun l => (s.mapEntry l).checkGood
    let r := lookup k dir kind s
    ∀ (l : MapLoc) (others : List MapLoc), found.filter (fun l => !(s.mapEntry l).checkGood) = l :: others →
      let detail := match l with
        | .pinned _ => 32
        | .setMap _ _ => 33
      let logged := logFault { cls := .map, detail := detail, key := some k, loc := some l, kind := kind } s
      let missed :=
        if logged.pmu.miss.full = true then
          { logged with pmu :=
            { logged.pmu with miss := { logged.pmu.miss with count := min 255 (logged.pmu.miss.count + 1) } } }
        else raiseNotice 2 [k.plan.zeroExtend 16, k.station.zeroExtend 16, k.channel.zeroExtend 16, kind.zeroExtend 16]
          { logged with pmu := { logged.pmu with miss := { full := true, key := k, kind := kind, count := 1 } } }
      r.1.key = k ∧ r.1.parityFault = true ∧
      (good = [] → r.1.result = .miss) ∧
      (∀ (g : MapLoc) (rest : List MapLoc), good = g :: rest → r.1.result =
        if ∃ x ∈ rest, (f x).point ≠ (f g).point ∨ (f x).direction ≠ (f g).direction then .multiHit
        else if (f g).direction = dir then .hit (pointOf (f g).point) else .miss) ∧
      (∀ x : MapLoc, r.2.mapEntry x =
        if x ∈ l :: others then (s.mapEntry x).invalidated
        else if x ∈ good ∧ r.1.result ≠ .miss ∧ r.1.result ≠ .multiHit then { s.mapEntry x with used := true }
        else s.mapEntry x) ∧
      { r.2 with pmu := { r.2.pmu with pinned := s.pmu.pinned, sets := s.pmu.sets } } =
        if r.1.result = .miss then missed else logged

/-- MAP_WRITE to an explicit slot, set or way (R34, R35, R36). That a new entry's check bit is the exclusive OR of its stored bits
is the model's choice (log entry 9). -/
def Obligations.MapWriteExplicit : Prop :=
  ∀ (tag : Tag) (a b flags plan station channel point : Word) (more : List Word) (s : State),
    s.Altering → flags.toNat < 16 →
    let ops := fun target : Word => target :: a :: b :: flags :: plan :: station :: channel :: point :: more
    (flags.getLsbD 0 = false →
      (∀ i : Fin 16, a.toNat = i.val →
        exec (.mapWrite tag (ops 0)) s =
          .next (answer tag 1 0 [0, a, 0] (s.putEntry (.pinned i) (s.mapEntry (.pinned i)).invalidated))) ∧
      (∀ (i : Fin 128) (w : Fin 2), a.toNat = i.val → b.toNat = w.val →
        exec (.mapWrite tag (ops 2)) s =
          .next (answer tag 1 0 [1, a, b] (s.putEntry (.setMap i w) (s.mapEntry (.setMap i w)).invalidated)))) ∧
    (flags.getLsbD 0 = true → flags.getLsbD 1 = false → plan.toNat ≤ 3 → 1 ≤ station.toNat → station.toNat ≤ 61 →
      channel.toNat ≤ 15 → point.toNat ≤ 255 →
      let f : MapFields :=
        { valid := true, isGlobal := false, lock := flags.getLsbD 2
          direction := if flags.getLsbD 3 = true then .command else .sample
          plan := plan.setWidth 2, station := station.setWidth 6, channel := channel.setWidth 4, point := point.setWidth 8 }
      (∀ i : Fin 16, a.toNat = i.val → ∃ t, exec (.mapWrite tag (ops 0)) s = .next (answer tag 1 0 [0, a, 0] t) ∧
        { t with pmu := { t.pmu with pinned := s.pmu.pinned } } = s ∧
        ∀ j : Fin 16, t.mapEntry (.pinned j) =
          if j = i then { fields := f, used := true, check := parity f.bits }
          else if (s.mapEntry (.pinned j)).fields.valid = true ∧ (s.mapEntry (.pinned j)).fields.sameKey f = true then
            (s.mapEntry (.pinned j)).invalidated
          else s.mapEntry (.pinned j)) ∧
      (∀ (i : Fin 128) (w : Fin 2), a.toNat = i.val → b.toNat = w.val →
        let g : MapFields := { f with lock := false }
        let other := s.mapEntry (.setMap i (1 - w))
        (setIndex f.plan f.station f.channel ≠ i → exec (.mapWrite tag (ops 2)) s = .next (answer tag 1 4 [] s)) ∧
        (setIndex f.plan f.station f.channel = i → ∃ t, exec (.mapWrite tag (ops 2)) s = .next (answer tag 1 0 [1, a, b] t) ∧
          { t with pmu := { t.pmu with sets := s.pmu.sets } } = s ∧
          ∀ (j : Fin 128) (v : Fin 2), t.mapEntry (.setMap j v) =
            if j = i ∧ v = w then { fields := g, used := true, check := parity g.bits }
            else if j = i ∧ other.fields.valid = true ∧ other.fields.sameKey g = true then other.invalidated
            else s.mapEntry (.setMap j v))))

/-- MAP_WRITE with automatic placement (R34, R37, R38): where the new entry goes. With both ways holding the key, way 0 takes it and
way 1 is left, which is the model's choice (log entry 58). That a new entry's check bit is the exclusive OR of its stored bits is
the model's choice (log entry 9). -/
def Obligations.MapWriteAutomatic : Prop :=
  ∀ (tag : Tag) (a b flags plan station channel point : Word) (more : List Word) (s : State),
    s.Altering → flags.toNat < 16 → flags.getLsbD 0 = true → plan.toNat ≤ 3 → 1 ≤ station.toNat → station.toNat ≤ 61 →
    channel.toNat ≤ 15 → point.toNat ≤ 255 →
    let ops := fun target : Word => target :: a :: b :: flags :: plan :: station :: channel :: point :: more
    let f : MapFields :=
      { valid := true, isGlobal := flags.getLsbD 1, lock := flags.getLsbD 2
        direction := if flags.getLsbD 3 = true then .command else .sample
        plan := if flags.getLsbD 1 = true then 0 else plan.setWidth 2
        station := station.setWidth 6, channel := channel.setWidth 4, point := point.setWidth 8 }
    let pin := fun i : Fin 16 => s.mapEntry (.pinned i)
    let same := fun i : Fin 16 => (pin i).fields.valid = true ∧ (pin i).fields.sameKey f = true
    let first := fun (P : Fin 16 → Prop) (i : Fin 16) => P i ∧ ∀ j, j < i → ¬ P j
    let placed := fun (i : Fin 16) => ∃ t, exec (.mapWrite tag (ops 1)) s = .next (answer tag 1 0 [0, BitVec.ofNat 16 i.val, 0] t) ∧
      { t with pmu := { t.pmu with pinned := s.pmu.pinned } } = s ∧
      t.mapEntry (.pinned i) = { fields := f, used := true, check := parity f.bits } ∧
      ∀ j, j ≠ i → (same j → t.mapEntry (.pinned j) = (pin j).invalidated) ∧
        (¬ same j → (t.mapEntry (.pinned j)).fields = (pin j).fields ∧ (t.mapEntry (.pinned j)).check = (pin j).check)
    let usable := fun i : Fin 16 => (pin i).used = false ∧ (pin i).fields.lock = false
    (∀ i, first same i → placed i) ∧
    ((∀ i, ¬ same i) →
      (∀ i, first (fun i => (pin i).fields.valid = false) i → placed i) ∧
      ((∀ i, (pin i).fields.valid = true) →
        (∀ i, first usable i → placed i) ∧
        ((∀ i, ¬ usable i) → (∀ i, first (fun i => (pin i).fields.lock = false) i → placed i) ∧
          ((∀ i, (pin i).fields.lock = true) → exec (.mapWrite tag (ops 1)) s = .next (answer tag 1 5 [] s))))) ∧
    (f.isGlobal = true → ∀ target : Word, target.toNat ≤ 3 → (target = 0 → a.toNat ≤ 15) →
      (target = 2 → a.toNat ≤ 127 ∧ b.toNat ≤ 1) → exec (.mapWrite tag (ops target)) s = exec (.mapWrite tag (ops 1)) s) ∧
    (f.isGlobal = false →
      let i := setIndex f.plan f.station f.channel
      let g : MapFields := { f with lock := false }
      let e := fun w : Fin 2 => s.mapEntry (.setMap i w)
      let holds := fun w : Fin 2 => (e w).fields.valid = true ∧ (e w).fields.sameKey g = true
      let way : Fin 2 :=
        if holds 0 then 0 else if holds 1 then 1
        else if (e 0).fields.valid = false then 0 else if (e 1).fields.valid = false then 1
        else if (e 0).used = false then 0 else if (e 1).used = false then 1 else 0
      ∃ t, exec (.mapWrite tag (ops 3)) s = .next (answer tag 1 0 [1, BitVec.ofNat 16 i.val, BitVec.ofNat 16 way.val] t) ∧
        { t with pmu := { t.pmu with sets := s.pmu.sets } } = s ∧
        t.mapEntry (.setMap i way) = { fields := g, used := true, check := parity g.bits } ∧
        (t.mapEntry (.setMap i (1 - way))).fields = (e (1 - way)).fields ∧
        ∀ j, j ≠ i → ∀ w, t.mapEntry (.setMap j w) = s.mapEntry (.setMap j w))

/-- MAP_READ (R39). That a Pinned read without its third word is answered RANGE is the model's reading (log entry 51). -/
def Obligations.MapRead : Prop :=
  ∀ (tag : Tag) (map a b : Word) (more : List Word) (s : State), s.Taking →
    let bit := fun (n : Nat) (c : Bool) => if c = true then BitVec.ofNat 16 (2 ^ n) else (0 : Word)
    (map = 0 → ∀ i : Fin 16, a.toNat = i.val →
      let e := s.mapEntry (.pinned i)
      exec (.mapRead tag (map :: a :: b :: more)) s = .next (answer tag 2 0
        [bit 0 e.fields.valid ||| bit 1 e.fields.isGlobal ||| bit 2 e.fields.lock ||| bit 3 (e.fields.direction == .command) |||
            bit 4 e.used ||| bit 5 e.checkGood,
          e.fields.plan.zeroExtend 16, e.fields.station.zeroExtend 16, e.fields.channel.zeroExtend 16,
          e.fields.point.zeroExtend 16] s)) ∧
    (map = 1 → ∀ (i : Fin 128) (w : Fin 2), a.toNat = i.val → b.toNat = w.val →
      let e := s.mapEntry (.setMap i w)
      exec (.mapRead tag (map :: a :: b :: more)) s = .next (answer tag 2 0
        [bit 0 e.fields.valid ||| bit 3 (e.fields.direction == .command) ||| bit 4 e.used ||| bit 5 e.checkGood,
          e.fields.plan.zeroExtend 16, e.fields.station.zeroExtend 16, e.fields.channel.zeroExtend 16,
          e.fields.point.zeroExtend 16] s)) ∧
    (1 < map.toNat ∨ (map = 0 ∧ 15 < a.toNat) ∨ (map = 1 ∧ (127 < a.toNat ∨ 1 < b.toNat)) →
      exec (.mapRead tag (map :: a :: b :: more)) s = .next (answer tag 2 2 [] s)) ∧
    ∀ few : List Word, few.length < 3 → exec (.mapRead tag few) s = .next (answer tag 2 2 [] s)

/-- MISS_GET and FAULT_GET with their clearing (R33, R44); a count or an age beyond one word does not occur in the part. That the
age of a Path Fault Record never written since POR rises from POR is the model's choice (log entry 57). -/
def Obligations.MissAndFaultReads : Prop :=
  ∀ (tag : Tag) (clear : Word) (more : List Word) (s : State), s.Taking →
    let m := s.pmu.miss
    let f := s.pmu.fault
    let k := f.stored.key.getD { plan := 0, station := 0, channel := 0 }
    let flag := fun b : Bool => if b = true then (1 : Word) else 0
    (clear.toNat ≤ 1 →
      exec (.missGet tag (clear :: more)) s = .next (answer tag 6 0
        [flag m.full, m.key.plan.zeroExtend 16, m.key.station.zeroExtend 16, m.key.channel.zeroExtend 16, m.kind.zeroExtend 16,
          word m.count]
        (if clear = 1 then
          { s with pmu := { s.pmu with miss :=
            { full := false, key := { plan := 0, station := 0, channel := 0 }, kind := 0, count := 0 } } }
        else s)) ∧
      exec (.faultGet tag (clear :: more)) s = .next (answer tag 33 0
        [flag f.fv, flag f.ow, word f.stored.cls.code, word f.stored.detail, k.plan.zeroExtend 16, k.station.zeroExtend 16,
          k.channel.zeroExtend 16, word (mapWord f.stored.loc), word (mapIndex f.stored.loc), f.stored.kind.zeroExtend 16,
          word (min 65535 ((s.now - f.writtenAt) / 100))]
        (if clear = 1 then { s with pmu := { s.pmu with fault := { f with fv := false, ow := false } } } else s))) ∧
    (1 < clear.toNat →
      exec (.missGet tag (clear :: more)) s = .next (answer tag 6 2 [] s) ∧
      exec (.faultGet tag (clear :: more)) s = .next (answer tag 33 2 [] s)) ∧
    exec (.missGet tag []) s = .next (answer tag 6 2 [] s) ∧ exec (.faultGet tag []) s = .next (answer tag 33 2 [] s)

/-- The demap operations (R40, R41): what they invalidate and the number they answer. -/
def Obligations.Demaps : Prop :=
  ∀ (tag : Tag) (s : State), s.Altering →
    let cleared := fun (P : MapLoc → MapFields → Bool) (t : State) =>
      { t with pmu := { t.pmu with pinned := s.pmu.pinned, sets := s.pmu.sets } } = s ∧
      ∀ l : MapLoc, t.mapEntry l =
        if (s.mapEntry l).fields.valid = true ∧ P l (s.mapEntry l).fields = true then (s.mapEntry l).invalidated else s.mapEntry l
    let number := fun (P : MapLoc → MapFields → Bool) =>
      (allPlaces.filter fun l => (s.mapEntry l).fields.valid && P l (s.mapEntry l).fields).length
    let all := fun (l : MapLoc) (f : MapFields) => match l with
      | .pinned _ => !f.lock
      | .setMap _ _ => true
    (∃ t, exec (.demapAll tag) s = .next (answer tag 5 0 [BitVec.ofNat 16 (number all)] t) ∧ cleared all t) ∧
    (∀ (p : Word) (more : List Word), p.toNat ≤ 3 →
      let ofPlan := fun (l : MapLoc) (f : MapFields) => match l with
        | .pinned _ => f.plan == p.setWidth 2 && !f.isGlobal && !f.lock
        | .setMap _ _ => f.plan == p.setWidth 2
      ∃ t, exec (.demapPlan tag (p :: more)) s = .next (answer tag 4 0 [BitVec.ofNat 16 (number ofPlan)] t) ∧ cleared ofPlan t) ∧
    (∀ (p : Word) (more : List Word), 3 < p.toNat → exec (.demapPlan tag (p :: more)) s = .next (answer tag 4 2 [] s)) ∧
    (∀ (p station channel : Word) (more : List Word), p.toNat ≤ 3 → 1 ≤ station.toNat → station.toNat ≤ 61 →
      channel.toNat ≤ 15 →
      let k : Key := { plan := p.setWidth 2, station := station.setWidth 6, channel := channel.setWidth 4 }
      let ofKey := fun (l : MapLoc) (f : MapFields) => (lookupPlaces k).contains l && f.isMatch k
      ∃ t, exec (.demapKey tag (p :: station :: channel :: more)) s = .next (answer tag 3 0 [BitVec.ofNat 16 (number ofKey)] t) ∧
        cleared ofKey t) ∧
    (∀ (p station channel : Word) (more : List Word),
      3 < p.toNat ∨ station = 0 ∨ 61 < station.toNat ∨ 15 < channel.toNat →
      exec (.demapKey tag (p :: station :: channel :: more)) s = .next (answer tag 3 2 [] s)) ∧
    exec (.demapPlan tag []) s = .next (answer tag 4 2 [] s) ∧
    ∀ few : List Word, few.length < 3 → exec (.demapKey tag few) s = .next (answer tag 3 2 [] s)

/-! ## Points, samples and the scan -/

/-- POINT_SET (R46, R52): a kept kind, a new kind, and what is answered BUSY or RANGE. That RANGE is answered before BUSY is the
model's reading (log entry 20), and so are the words that the new kind does not use (log entry 42). -/
def Obligations.PointSet : Prop :=
  ∀ (tag : Tag) (pw kind fresh lo hi mode : Word) (more : List Word) (p : PointId) (s : State),
    s.Altering → pw.toNat = p.val → kind.toNat ≤ 5 → fresh.toNat ≤ 255 →
    let ops := pw :: kind :: fresh :: lo :: hi :: mode :: more
    let k := pointKindOf kind.toNat
    let old := s.pcfg p
    let c : PointCfg :=
      { kind := k, freshness := fresh.toNat
        rawMin := if k = .level ∨ k = .analog then lo else old.rawMin
        rawMax := if k = .level ∨ k = .analog then hi else old.rawMax
        errorMode := if k = .level then (if mode = 1 then .accumulated else .perSample) else old.errorMode
        queue := old.queue }
    ((k = .level ∨ k = .analog) ∧ hi.toInt < lo.toInt ∨ k = .level ∧ 1 < mode.toNat ∨
        k = .level ∧ old.kind ≠ .level ∧ (∀ q : QueueId, ∃ r, (s.pcfg r).queue = some q) →
      exec (.pointSet tag ops) s = .next (answer tag 16 2 [] s)) ∧
    ((k = .level ∨ k = .analog → lo.toInt ≤ hi.toInt) → (k = .level → mode.toNat ≤ 1) →
      (k = .level → old.kind ≠ .level → ∃ q : QueueId, ∀ r, (s.pcfg r).queue ≠ some q) →
      (old.kind = .command → k ≠ .command → ownerOf s.cfg p ≠ .nobody →
        exec (.pointSet tag ops) s = .next (answer tag 16 1 [] s)) ∧
      (k = old.kind →
        exec (.pointSet tag ops) s =
          .next (answer tag 16 0 [] { s with cfg := { s.cfg with points := Tab.put s.cfg.points p c } })) ∧
      (k ≠ old.kind → (old.kind = .command → ownerOf s.cfg p = .nobody) → ∃ t, exec (.pointSet tag ops) s = .next t ∧
        (∃ queue : Option QueueId, t.cfg = { s.cfg with points := Tab.put s.cfg.points p { c with queue := queue } } ∧
          (k ≠ .level → queue = none) ∧
          (k = .level → ∃ q, queue = some q ∧ (∀ r, (s.pcfg r).queue ≠ some q) ∧ t.levelQueue q = {} ∧
            ∀ q', q' < q → ∃ r, (s.pcfg r).queue = some q')) ∧
        (t.point p).quality = .never ∧ (t.point p).raw = 0 ∧ (t.point p).confirmed = 0 ∧ (t.point p).freshTimer = .stopped ∧
        (∀ r, r ≠ p → (t.point r).quality = (s.point r).quality ∧ (t.point r).raw = (s.point r).raw)))

/-- SCAN_SET and the expiry of a due timer (R61, R62, R22). That an expiry moves the clock to its deadline, and does nothing with no
timer running, is the model's choice (log entry 3). -/
def Obligations.ScanTableAndSchedule : Prop :=
  (∀ (tag : Tag) (e station channel span interval enable : Word) (more : List Word) (i : ScanId) (s : State),
    s.Altering → e.toNat = i.val + 1 → 1 ≤ station.toNat → station.toNat ≤ 61 → 1 ≤ span.toNat → span.toNat ≤ 8 →
    channel.toNat + span.toNat ≤ 16 → 1 ≤ interval.toNat → interval.toNat ≤ 255 → enable.toNat ≤ 1 → channel.toNat ≤ 15 →
    let c : ScanCfg :=
      { station := station.setWidth 6, channel := channel.setWidth 4, span := span.toNat, interval := interval.toNat
        enable := enable == 1 }
    let due : Timer := if enable = 1 then .running (s.now + 100 * interval.toNat) else .stopped
    exec (.scanSet tag (e :: station :: channel :: span :: interval :: enable :: more)) s = .next (answer tag 18 0 []
      { s with cfg := { s.cfg with scan := Tab.put s.cfg.scan i c }, pim := { s.pim with scanDue := Tab.put s.pim.scanDue i due } })) ∧
  ∀ (i : ScanId) (s : State), s.AtRest →
    (∀ d : Nat, Tab.get s.pim.scanDue i = .running d →
      let due : Timer := .running (max s.now d + 100 * (s.scanCfg i).interval)
      let u := { s with now := max s.now d, pim := { s.pim with scanDue := Tab.put s.pim.scanDue i due } }
      (s.flc.line = .quenched ∨ i ∈ s.flc.scanPending → exec (.scanDueExpiry i) s = .next u) ∧
      (s.flc.line ≠ .quenched → i ∉ s.flc.scanPending →
        exec (.scanDueExpiry i) s = .next { u with flc := { u.flc with scanPending := s.flc.scanPending ++ [i] } })) ∧
    ((∀ d : Nat, Tab.get s.pim.scanDue i ≠ .running d) → exec (.scanDueExpiry i) s = .next s)

/-- One sample applied to a point (R48, R50, R51), with the level sample queue that it joins (R53), and the expiry of a freshness
period (R48). That an expiry moves the clock to its deadline, and does nothing with no timer running, is the model's choice (log
entry 3). -/
def Obligations.SamplesAndFreshness : Prop :=
  (∀ (p : PointId) (w : Word) (invalid : Bool) (s : State),
     let c := s.pcfg p
     let t := applySample p w invalid s
     let bad := invalid = true ∨ (c.kind = .analog ∧ (w.toInt < c.rawMin.toInt ∨ c.rawMax.toInt < w.toInt))
     (c.kind = .unused ∨ c.kind = .command → t = s) ∧
     (c.kind ≠ .unused → c.kind ≠ .command →
       ((t.point p).quality = if bad then .invalid else .good) ∧
       ((t.point p).raw =
         if bad then (s.point p).raw else if c.kind = .discrete then (if w = 0 then 0 else 1) else w) ∧
       (t.point p).since = s.now ∧
       ((t.point p).freshTimer = if c.freshness = 0 then .stopped else .running (s.now + 100 * c.freshness)) ∧
       (∀ r, r ≠ p → (t.point r).quality = (s.point r).quality ∧ (t.point r).raw = (s.point r).raw) ∧
       t.cfg = s.cfg ∧ t.pmu = s.pmu ∧ t.flc.transaction = s.flc.transaction) ∧
     (∀ q : QueueId, t.levelQueue q =
       let old := s.levelQueue q
       let entry : LevelEntry :=
         { raw := w, invalid := invalid, range := !invalid && (decide (w.toInt < c.rawMin.toInt) || decide (c.rawMax.toInt < w.toInt)) }
       if c.kind = .level ∧ c.queue = some q then
         if old.entries.length < 4 then { old with entries := old.entries ++ [entry] } else { old with overrun := true }
       else old)) ∧
  (∀ (p : PointId) (s : State), s.AtRest →
     (∀ d : Nat, (s.point p).freshTimer = .running d →
       let u := { s with now := max s.now d }
       ((s.point p).quality ≠ .good →
         exec (.pointFreshnessExpiry p) s = .next (u.modPoint p fun x => { x with freshTimer := .stopped })) ∧
       ((s.point p).quality = .good → ∃ t, exec (.pointFreshnessExpiry p) s = .next t ∧ t.now = max s.now d ∧ t.cfg = s.cfg ∧
         (t.point p).quality = .stale ∧ (t.point p).raw = (s.point p).raw ∧ (t.point p).confirmed = (s.point p).confirmed ∧
         (t.point p).since = (s.point p).since ∧ (t.point p).freshTimer = .stopped ∧
         ∀ r, r ≠ p → (t.point r).quality = (s.point r).quality ∧ (t.point r).raw = (s.point r).raw)) ∧
     ((∀ d : Nat, (s.point p).freshTimer ≠ .running d) → exec (.pointFreshnessExpiry p) s = .next s))

/-! ## Sumps and the DRAINAGE CYCLE -/

/-- SUMP_SET and GEOMETRY_SET: what their operand words spell (R64 with Table 4-1, R65), what they do with no cycle in flight (R64,
R65), with the staging step 0 of a sump that is not CONFIGURED (R132), and their deferral while one is (R66). That a sump which
stays CONFIGURED keeps every contribution of its inflow ring, at a lower N too, is the model's choice (log entry 90). -/
def Obligations.SumpAndGeometrySet : Prop :=
  (∀ (kw primary backup gain offset filterK ring scale link : Word) (more : List Word),
    let ops := kw :: primary :: backup :: gain :: offset :: filterK :: ring :: scale :: link :: more
    let c : SumpCfg :=
      { primary := namedPoint primary, backup := namedPoint backup, gain := gain.toNat, offset := offset.toInt
        filterK := filterK.toNat, ringSize := ring.toNat
        scale := if scale = 0 then .plain else if scale = 1 then .down else .up, gateLink := link == 1 }
    (∀ k : SumpId, kw.toNat = k.val + 1 → parseSump ops =
      if primary.toNat ≤ 256 ∧ backup.toNat ≤ 256 ∧ 1 ≤ filterK.toNat ∧ filterK.toNat ≤ 16 ∧ 1 ≤ ring.toNat ∧ ring.toNat ≤ 16 ∧
          scale.toNat ≤ 2 ∧ link.toNat ≤ 1 ∧ (primary = 256 → backup = 256) ∧ (primary = backup → primary = 256) then
        some (k, c)
      else none) ∧
    (kw = 0 ∨ 4 < kw.toNat → parseSump ops = none)) ∧
  (∀ (kw iw present : Word) (more : List Word),
    let ops := kw :: iw :: present :: more
    (∀ (k : SumpId) (i : Fin 8), kw.toNat = k.val + 1 → iw.toNat = i.val →
      (present = 0 → parseGeometry ops = some (k, i, none)) ∧
      (present = 1 → ∀ (level high low : Word) (rest : List Word), more = level :: high :: low :: rest → parseGeometry ops =
        if level.toNat ≤ 20000 then some (k, i, some { x := level.toNat, y := 65536 * high.toNat + low.toNat }) else none) ∧
      (present = 1 → more.length < 3 → parseGeometry ops = none)) ∧
    (kw = 0 ∨ 4 < kw.toNat ∨ 7 < iw.toNat ∨ 1 < present.toNat → parseGeometry ops = none)) ∧
  (∀ ops : List Word, (ops.length < 9 → parseSump ops = none) ∧ (ops.length < 3 → parseGeometry ops = none)) ∧
  ∀ (tag : Tag) (ops : List Word) (s : State), s.Altering →
    (s.sau.cycle.isSome = true →
      exec (.sumpSet tag ops) s = .next { s with sau := { s.sau with deferred := s.sau.deferred ++ [.sumpSet tag ops] } } ∧
      exec (.geometrySet tag ops) s = .next { s with sau := { s.sau with deferred := s.sau.deferred ++ [.geometrySet tag ops] } }) ∧
    (s.sau.cycle = none →
      (∀ (k : SumpId) (c : SumpCfg), parseSump ops = some (k, c) →
        let old := s.sump k
        let x : SumpState :=
          if (s.sumpCfg k).primary.isSome = true ∧ c.primary.isSome = true then
            { old with primed := false, base := none, inflowGood := false }
          else
            { source := .held, levelQuality := .blind, cycleLevel := 0, filter := 0, primed := false, volume := 0, base := none
              ring := [], inflow := 0, controlInflow := 0, inflowLimited := false, inflowGood := false, rate := 0
              blindCount := old.blindCount, geometryValid := old.geometryValid, limited := old.limited, growth := old.growth
              overrun := old.overrun, invalidSeen := old.invalidSeen }
        ((∀ p, c.primary = some p ∨ c.backup = some p → (s.pcfg p).kind = .level) →
          exec (.sumpSet tag ops) s = .next (answer tag 19 0 []
            { s with
              cfg := { s.cfg with sumps := Tab.put s.cfg.sumps k c }
              sau := { s.sau with sumps := Tab.put s.sau.sumps k x }
              psc := { s.psc with step := if c.primary.isSome = true then s.psc.step else Tab.put s.psc.step k (some 0) } })) ∧
        (∀ p, c.primary = some p ∨ c.backup = some p → (s.pcfg p).kind ≠ .level →
          exec (.sumpSet tag ops) s = .next (answer tag 19 2 [] s))) ∧
      (∀ (k : SumpId) (i : Fin 8) (b : Option Breakpoint), parseGeometry ops = some (k, i, b) →
        let table := Tab.put (Tab.get s.cfg.geometry k) i b
        let old := s.sump k
        let x : SumpState := { old with
          geometryValid := (validGeometry table).isSome
          base := if (s.sumpCfg k).primary.isSome = true then none else old.base
          inflowGood := if (s.sumpCfg k).primary.isSome = true then false else old.inflowGood }
        exec (.geometrySet tag ops) s = .next (answer tag 20 0 []
          { s with
            cfg := { s.cfg with geometry := Tab.put s.cfg.geometry k table }
            sau := { s.sau with sumps := Tab.put s.sau.sumps k x } })))

/-- The beginning of a DRAINAGE CYCLE (R54, R55, R66, R67, R76), with the sticky flags that its drains set and, for a snapshot taken
before the completion, the flags as they stood (R181). An expiry that finds a cycle in flight begins none (log entry 39); that an
expiry moves the clock to its deadline, and does nothing with no timer running, is the model's choice (log entry 3). That the copy
in a cycle shows the flags as they stood before its drains is DEDUCED (log entry 78). -/
def Obligations.CycleBegins : Prop :=
  ∀ s : State, s.AtRest →
    (∀ d : Nat, s.sau.cycleTimer = .running d → s.sau.cycle.isSome = true →
      exec .drainageCycleStart s = .next { s with now := max s.now d }) ∧
    (∀ d : Nat, s.sau.cycleTimer = .running d → s.sau.cycle = none → ∃ (t : State) (c : Cycle),
      exec .drainageCycleStart s = .next t ∧ { t with now := s.now, sau := s.sau, pim := s.pim } = s ∧ t.now = max s.now d ∧
      t.sau =
        { s.sau with
          sumps := t.sau.sumps, cycle := some c, timerPeriod := s.cfg.line.cyclePeriod
          cycleTimer := .running (max s.now d + s.cfg.line.cyclePeriod) } ∧
      (∀ k : SumpId, t.sump k =
        if (s.sumpCfg k).primary.isSome = true then
          let named := c.drains.filter fun x => (s.sumpCfg k).primary == some x.point || (s.sumpCfg k).backup == some x.point
          { s.sump k with
            overrun := (s.sump k).overrun || named.any fun x => x.overrun
            invalidSeen := (s.sump k).invalidSeen ||
              named.any fun x => x.quality == .invalid || x.entries.any fun e => e.invalid }
        else s.sump k) ∧
      c.interval = s.sau.timerPeriod ∧
      (∀ k : SumpId, Tab.get c.outflow k =
        ((pumpIds.filter fun p => (s.pumpCfg p).enable && (s.pumpCfg p).sump == k && (s.pump p).mode == .running).map
          fun p => (s.pumpCfg p).ratedFlow).sum) ∧
      (∀ p : PointId, p ∈ c.drains.map Drain.point ↔
        ∃ k : SumpId, (s.sumpCfg k).primary.isSome = true ∧ ((s.sumpCfg k).primary = some p ∨ (s.sumpCfg k).backup = some p)) ∧
      (c.drains.map Drain.point).Nodup ∧
      (∀ x ∈ c.drains, x.quality = (s.point x.point).quality ∧ x.mode = (s.pcfg x.point).errorMode ∧
        ((s.pcfg x.point).queue = none → x.entries = [] ∧ x.suspect = false)) ∧
      ((∀ p r : PointId, (s.pcfg p).queue.isSome = true → (s.pcfg p).queue = (s.pcfg r).queue → p = r) →
        ∀ x ∈ c.drains, ∀ q : QueueId, (s.pcfg x.point).queue = some q →
          let old := s.levelQueue q
          let inv := old.accInvalid || old.entries.any fun e => e.invalid
          let rng := old.accRange || old.entries.any fun e => e.range
          x.entries = old.entries ∧ x.overrun = old.overrun ∧
          (x.mode = .perSample → x.suspect = false ∧ t.levelQueue q = { old with entries := [] }) ∧
          (x.mode = .accumulated → x.suspect = (inv || rng) ∧
            t.levelQueue q = { old with entries := [], accInvalid := inv, accRange := rng })) ∧
      (∀ q : QueueId, (∀ x ∈ c.drains, (s.pcfg x.point).queue ≠ some q) → t.levelQueue q = s.levelQueue q) ∧
      (∀ k : SumpId, Tab.get c.overrunBefore k = (s.sump k).overrun ∧ Tab.get c.invalidBefore k = (s.sump k).invalidSeen) ∧
      t.pim.points = s.pim.points ∧ t.pim.scanDue = s.pim.scanDue) ∧
    ((∀ d : Nat, s.sau.cycleTimer ≠ .running d) → exec .drainageCycleStart s = .next s)

/-- The completion of a DRAINAGE CYCLE: the operations that waited for it are taken after it in their order (R66, R180), what
becomes readable, what the STC, the PSC and the GSQ take, the staging steps (R132), and what the STC does to the STAGE and the
control hold: R87 with the start of the descent timer (R88), the reopen judgement (R90), the derivation (R93), the hold entry (R95),
which pauses the descent, warn, clearance and open dwell timers (R163), and the break of a hold (R97). A change to CLOSING may end
in CLOSED, and REOPENING in WATCH, by a report of the GSQ (R89). The inflow quality is left out: a gate that leaves CLOSED after the
completion makes it SUSPECT again (R78). The order of the three parts and their events is the model's choice (log entries 16 and
19), and so is a completion with no cycle in flight, which does nothing (log entry 39); log entries 33, 34 and 38 settle a broken
step, the latched reports and the derivation, log entry 66 a gate that left CLOSED in flight and is CLOSED again. -/
def Obligations.CycleCompletes : Prop :=
  ∀ s : State, s.AtRest →
    (s.sau.cycle = none → exec .drainageCycleCompletion s = .next s) ∧
    (s.sau.cycle.isSome = true → s.mgu.restart = .none →
      ∀ u, exec .drainageCycleCompletion { s with sau := { s.sau with deferred := [] } } = .next u →
        let command : Deferred → State → Host.Outcome State Fault Refusal := fun x v => match x with
          | .sumpSet tag ops => exec (.sumpSet tag ops) v
          | .geometrySet tag ops => exec (.geometrySet tag ops) v
          | .recordSump tag ops => exec (.recordGetSump tag ops) v
          | .statusClear tag => .next (answer tag 54 0 [] { v with sau := { v.sau with sumps := v.sau.sumps.map fun y : SumpState =>
              { y with limited := false, growth := false, overrun := false, invalidSeen := false } } })
        let take := fun (v : State) (x : Deferred) => match command x v with
          | .next w => w
          | _ => v
        exec .drainageCycleCompletion s = .next (s.sau.deferred.foldl take u)) ∧
    ∀ c : Cycle, s.sau.cycle = some c → s.sau.deferred = [] →
      let after := fun k : SumpId =>
        computeSump (s.sumpCfg k) (Tab.get s.cfg.geometry k) c.interval (Tab.get c.outflow k) (s.gsq.gate.mode == .closed)
          (c.drainOf (s.sumpCfg k).primary) (c.drainOf (s.sumpCfg k).backup) (s.sump k)
      let filtered := fun k : SumpId => (((after k).filter + 8) / 16).toNat
      let data : List SumpData := (fourIds.filter fun k => (s.sumpCfg k).primary.isSome).map fun k =>
        { sump := k, source := (after k).source, levelQuality := (after k).levelQuality, cycleLevel := (after k).cycleLevel
          filtered := filtered k, volume := (after k).volume, inflow := (after k).inflow
          controlInflow := (after k).controlInflow, inflowLimited := (after k).inflowLimited, inflowGood := (after k).inflowGood
          rate := (after k).rate, blindCount := (after k).blindCount }
      let staged := fun k : SumpId =>
        let starts := (s.pumpingCfg k).start.takeWhile fun x => x ≠ 0
        match Tab.get s.psc.step k with
        | none => (starts.filter fun x => x ≤ filtered k).length
        | some n =>
          if n < starts.length ∧ (s.pumpingCfg k).start.getD n 0 ≤ filtered k then n + 1
          else if 0 < n ∧ filtered k ≤ (s.pumpingCfg k).stop.getD (n - 1) 0 then n - 1 else n
      let d := demandedOf s.cfg.thresholds data
      let old := s.stc
      let stored := { old with data := some data }
      let stop := fun x : Timer => match x with
        | .running e => Timer.paused (e - s.now)
        | _ => x
      let computed := (fourIds.filter fun k => (s.sumpCfg k).primary.isSome).foldl (fun u k => completeSump c k u)
        { s with sau := { s.sau with cycle := none } }
      let first := quiesce (stcCompletion { computed with stc := { computed.stc with data := some data } })
      let second := pscData data first
      let third := quiesce (if first.stc.hold = .running then pscEvaluate second else second)
      let last := { third with gsq := { third.gsq with data := some data } }
      let wholeDwell := fun seconds : Nat => Timer.running (s.now + 1000 * seconds)
      ∃ t, exec .drainageCycleCompletion s = .next t ∧
        t = quiesce (if last.stc.hold = .running then gsqEvaluate last else last) ∧ t.sau.cycle = none ∧ t.sau.deferred = [] ∧ t.cfg = s.cfg ∧
        t.sau.cycleTimer = s.sau.cycleTimer ∧ t.stc.data = some data ∧ t.psc.data = some data ∧ t.gsq.data = some data ∧
        (∀ k : SumpId, { t.sump k with inflowGood := false } =
          { (if (s.sumpCfg k).primary.isSome = true then after k else s.sump k) with inflowGood := false }) ∧
        (∀ k : SumpId, Tab.get t.psc.step k = if (s.sumpCfg k).primary.isSome = true then some (staged k) else some 0) ∧
        let still := t.stc.stage = old.stage ∧ t.stc.cause = old.cause ∧ t.stc.enteredAt = old.enteredAt
        let enters := fun (g : Stage) (cause : Cause) =>
          t.stc.enteredAt = s.now ∧ t.stc.confirm = 0 ∧ t.stc.descent = .stopped ∧
            (t.stc.stage = g ∧ t.stc.cause = cause ∨
              g = .closing ∧ t.stc.stage = .closed ∧ t.stc.cause = { sump := 0, test := 8 })
        let low := old.stage.code < Stage.closing.code
        (old.hold = .running → old.derivePending = false →
          (old.holdRequest = true → d.1 ≠ .closing → low →
            t.psc.hold = .held ∧ t.stc = { stored with hold := .held, descent := stop old.descent } ∧
            t.gsq.gate = { s.gsq.gate with dwellTimer := stop s.gsq.gate.dwellTimer } ∧
            ∀ b : BarrierId, t.barrier b =
              { s.barrier b with warnTimer := stop (s.barrier b).warnTimer, clearTimer := stop (s.barrier b).clearTimer }) ∧
          (¬ (old.holdRequest = true ∧ d.1 ≠ .closing ∧ low) →
            t.stc.hold = .running ∧ t.stc.holdRequest = old.holdRequest ∧ t.stc.demanded = d.1 ∧
            (low →
              (d.1 = .closing → enters .closing d.2) ∧
              (d.1 ≠ .closing → old.stage.code < d.1.code → old.confirm = 0 →
                still ∧ t.stc.confirm = 1 ∧ t.stc.descent = .stopped) ∧
              (d.1 ≠ .closing → old.stage.code < d.1.code → old.confirm ≠ 0 → enters d.1 d.2) ∧
              (d.1 = old.stage → still ∧ t.stc.confirm = 0 ∧ t.stc.descent = .stopped) ∧
              (d.1.code < old.stage.code → still ∧ t.stc.confirm = 0 ∧
                t.stc.descent = if old.descent = .stopped then wholeDwell s.cfg.descentDwell else old.descent)) ∧
            (old.stage = .closing → still ∨ t.stc.stage = .closed ∧ t.stc.cause = { sump := 0, test := 8 }) ∧
            (old.stage = .closed →
              let reopens := d.1 ≠ .closing ∧ ∀ x ∈ data,
                let r := (Tab.get s.cfg.thresholds x.sump).reopen
                r = 0 ∨ x.levelQuality = .good ∧ x.filtered < r
              still ∧ t.stc.reopenReady = (if reopens then old.reopenReady else false) ∧
              t.stc.reopen =
                (if ¬ reopens then .stopped
                else if old.reopen = .stopped ∧ old.reopenReady = false then wholeDwell s.cfg.reopenDwell else old.reopen)) ∧
            (old.stage = .reopening →
              (d.1 = .closing → enters .closing d.2) ∧
              (d.1 ≠ .closing → still ∨ t.stc.stage = .watch ∧ t.stc.cause = { sump := 0, test := 9 })))) ∧
        (old.hold = .running → old.derivePending = true → old.stage = .clear →
          let now := (old.pscReady = true ∧ old.gsqReady = true) ∨ old.deriveExpired = true ∨ d.1 = .closing
          (¬ now → still ∧ t.stc.derivePending = true ∧ t.stc.derive = old.derive ∧ t.stc.demanded = old.demanded) ∧
          (now → t.stc.derivePending = false ∧ t.stc.derive = .stopped ∧ t.stc.deriveExpired = false ∧ t.stc.demanded = d.1 ∧
            (d.1 = .closing → enters .closing d.2) ∧
            (d.1 ≠ .closing → old.allOpen = false → enters .closing { sump := 0, test := 7 }) ∧
            (d.1 = .clear → old.allOpen = true → still) ∧
            (d.1 ≠ .closing → d.1 ≠ .clear → old.allOpen = true → enters d.1 d.2))) ∧
        (old.hold = .held →
          (d.1 ≠ .closing → t.stc = stored) ∧
          (d.1 = .closing → t.stc.hold = .running ∧ t.psc.hold = .running ∧ t.stc.holdRequest = false ∧ enters .closing d.2)) ∧
        (old.hold = .stepping →
          (d.1 ≠ .closing → t.stc = stored) ∧
          ∀ r : StepRecord, old.step = some r → d.1 = .closing →
            (r.broken = true → t.stc = stored) ∧
            (r.broken = false →
              t.stc.hold = .stepping ∧ t.stc.holdRequest = false ∧ t.stc.step = some { r with broken := true } ∧
              (old.stage = .closing ∨ old.stage = .closed → still) ∧
              (old.stage ≠ .closing → old.stage ≠ .closed → t.stc.enteredAt = s.now ∧
                (old.allClosed = false → t.stc.stage = .closing ∧ t.stc.cause = d.2) ∧
                (old.allClosed = true → t.stc.stage = .closed ∧ t.stc.cause = { sump := 0, test := 8 }))))

/-- What a completion does to one sump: the notice SUMP_BLIND at its third HELD cycle in a row (R69); a HELD cycle (R69), and a
cycle with a source (R68, R70 to R73, R79), with the volume base, the contribution ring, the inflow register, the control inflow and
the limited mark (R74 to R77), the inflow quality (R78) and the sticky flags (R80, R81). The condition of GOOD takes the gate as it
stands at the completion: that a gate which left CLOSED in flight and is CLOSED again lets the completion make the inflow GOOD is
the model's choice beside R78's own sentence on a report in flight (log entry 66). -/
def Obligations.SumpComputation : Prop :=
  (∀ (c : Cycle) (k : SumpId) (s : State),
    let g := s.sumpCfg k
    let after := computeSump g (Tab.get s.cfg.geometry k) c.interval (Tab.get c.outflow k) (s.gsq.gate.mode == .closed)
      (c.drainOf g.primary) (c.drainOf g.backup) (s.sump k)
    let done := { s with sau := { s.sau with sumps := Tab.put s.sau.sumps k after } }
    completeSump c k s =
      if (s.sump k).blindCount = 2 ∧ after.blindCount = 3 then
        raiseNotice 4 [word (k.val + 1), 3, word ((after.filter + 8) / 16).toNat] done
      else done) ∧
  ∀ (c : SumpCfg) (g : Vector (Option Breakpoint) 8) (dt out : Nat) (closed : Bool) (primary backup : Option Drain) (old : SumpState),
    let t := computeSump c g dt out closed primary backup old
    let fit := fun o : Option Drain => ∃ x, o = some x ∧ x.fit = true
    let clamp := fun i : Int => max (-32768) (min 32767 i)
    t.overrun = old.overrun ∧ t.invalidSeen = old.invalidSeen ∧
    (¬ fit primary → ¬ fit backup →
      t.source = .held ∧ t.levelQuality = .blind ∧ t.inflowGood = false ∧ t.blindCount = min 255 (old.blindCount + 1) ∧
      t.cycleLevel = old.cycleLevel ∧ t.filter = old.filter ∧ t.volume = old.volume ∧ t.inflow = old.inflow ∧
      t.controlInflow = old.controlInflow ∧ t.inflowLimited = old.inflowLimited ∧ t.rate = old.rate ∧
      t.limited = old.limited ∧ t.growth = old.growth ∧ t.geometryValid = old.geometryValid ∧
      t.ring = (if old.source = .held then old.ring else []) ∧ t.base = (if old.source = .held then old.base else none) ∧
      t.primed = (old.primed && old.source == .held)) ∧
    ∀ (src : Source) (x : Drain),
      (src = .primary ∧ primary = some x ∧ x.fit = true) ∨
        (src = .backup ∧ ¬ fit primary ∧ backup = some x ∧ x.fit = true) →
      let levels := x.usable.map fun e => c.offset + (e.raw.toInt * c.gain + 2048) / 4096
      let n : Int := x.usable.length
      let level := (2 * (levels.map fun y => max 0 (min 20000 y)).sum + n) / (2 * n)
      let primed := old.primed = true ∧ src = old.source
      let base := if src = old.source then old.base else none
      let ring := if src = old.source then old.ring else []
      let rate := ((t.filter - old.filter) * 60000).tdiv (16 * dt)
      let limited := old.limited = true ∨ (∃ y ∈ levels, y < 0 ∨ 20000 < y) ∨ primed ∧ clamp rate ≠ rate
      let stands := t.inflow = old.inflow ∧ t.controlInflow = old.controlInflow ∧ t.inflowLimited = old.inflowLimited ∧
        (t.limited = true ↔ limited) ∧ t.growth = old.growth
      t.source = src ∧ t.blindCount = 0 ∧ t.primed = true ∧ (t.cycleLevel : Int) = level ∧
      t.filter = (if primed then old.filter + ((16 * level - old.filter) * c.filterK + 8) / 16 else 16 * level) ∧
      t.levelQuality = (if ∃ y ∈ levels, 20000 < y then .suspect else .good) ∧
      t.rate = (if primed then clamp rate else old.rate) ∧
      t.geometryValid = (validGeometry g).isSome ∧
      (∀ l, validGeometry g = some l → t.volume = volumeAt t.filter l ∧ t.base = some t.volume) ∧
      (validGeometry g = none → t.volume = old.volume ∧ t.base = none ∧ t.ring = ring ∧ stands) ∧
      ((validGeometry g).isSome = true → base = none → t.ring = [] ∧ stands) ∧
      (∀ b : Nat, (validGeometry g).isSome = true → base = some b →
        let contribution := (((t.volume : Int) - b) * 1000).tdiv dt
        let m : Int := t.ring.length
        let inflow := (2 * t.ring.sum + m) / (2 * m) + out
        let wanted := match c.scale with
          | .plain => inflow
          | .down => (inflow + 1) / 2
          | .up => 2 * inflow
        t.ring = ring.drop (ring.length + 1 - c.ringSize) ++ [contribution] ∧
        t.inflow = clamp wanted ∧ (t.inflowLimited = true ↔ clamp wanted ≠ wanted) ∧
        t.controlInflow = (match c.scale with
          | .plain => t.inflow
          | .down => 2 * t.inflow
          | .up => t.inflow / 2) ∧
        (t.limited = true ↔ limited ∨ clamp wanted ≠ wanted) ∧ (t.growth = true ↔ old.growth = true ∨ 8192 ≤ t.inflow.natAbs)) ∧
      (t.inflowGood = true ↔ (validGeometry g).isSome = true ∧ src = old.source ∧ old.base.isSome = true ∧
        t.levelQuality = .good ∧ (c.gateLink = true → closed = true))

/-- The geometries that are VALID (R65), and the volume of a filter state over one (R73). -/
def Obligations.GeometryAndVolume : Prop :=
  (∀ (v : Vector (Option Breakpoint) 8) (l : List Breakpoint),
     validGeometry v = some l ↔
       2 ≤ l.length ∧ v.toList = l.map some ++ List.replicate (8 - l.length) none ∧
       l.Pairwise (fun a b => a.x < b.x) ∧ l.Pairwise (fun a b => a.y ≤ b.y) ∧ ∀ b ∈ l, b.y ≤ 100000000) ∧
  (∀ (v : Vector (Option Breakpoint) 8) (l before after : List Breakpoint) (a b : Breakpoint) (f : Int), validGeometry v = some l →
     (∀ rest, l = a :: rest → f < 16 * a.x → volumeAt f l = a.y) ∧
     (l = before ++ [a] → 16 * a.x ≤ f → volumeAt f l = a.y) ∧
     (l = before ++ a :: b :: after → 16 * a.x ≤ f → f < 16 * b.x →
       (volumeAt f l : Int) = a.y + (((b.y : Int) - a.y) * (f - 16 * a.x)) / (16 * ((b.x : Int) - a.x))))

/-- Every step keeps the computed quantities of the sumps in their ranges (R71, R72, R77, R79, R80). -/
def Obligations.SumpQuantitiesStayInRange : Prop := ∀ s t : State, s.SumpsInRange → step s = .next t → t.SumpsInRange

/-! ## Settings stored whole -/

/-- STAGE_SET, with its operands missing or outside their ranges too, PLAN_SET, LINE_SET and CURVE_SET (R84, R85, R179, R168). -/
def Obligations.TablesStored : Prop :=
  ∀ (tag : Tag) (s : State), s.Altering →
    (∀ (d r : Word) (more : List Word), 10 ≤ d.toNat → d.toNat ≤ 3600 → 10 ≤ r.toNat → r.toNat ≤ 3600 →
      exec (.stageSet tag (0 :: d :: r :: more)) s =
        .next (answer tag 26 0 [] { s with cfg := { s.cfg with descentDwell := d.toNat, reopenDwell := r.toNat } })) ∧
    (∀ (kw watch alert closure reopen rate inflow : Word) (more : List Word) (k : SumpId), kw.toNat = k.val + 1 →
      watch.toNat ≤ 20000 → alert.toNat ≤ 20000 → closure.toNat ≤ 20000 → reopen.toNat ≤ 20000 → rate.toNat ≤ 32767 →
      let ordered :=
        (watch = 0 ∨ alert = 0 ∨ watch ≤ alert) ∧ (watch = 0 ∨ closure = 0 ∨ watch ≤ closure) ∧
          (alert = 0 ∨ closure = 0 ∨ alert ≤ closure) ∧ (reopen = 0 ∨ closure ≠ 0 ∧ reopen < closure)
      let th : Thresholds :=
        { watch := watch.toNat, alert := alert.toNat, closure := closure.toNat, reopen := reopen.toNat
          alertRate := rate.toNat, watchInflow := inflow.toNat }
      exec (.stageSet tag (kw :: watch :: alert :: closure :: reopen :: rate :: inflow :: more)) s = .next (
        if ordered then answer tag 26 0 [] { s with cfg := { s.cfg with thresholds := Tab.put s.cfg.thresholds k th } }
        else answer tag 26 2 [] s)) ∧
    (let turnedAway := fun ops : List Word => exec (.stageSet tag ops) s = .next (answer tag 26 2 [] s)
     turnedAway [] ∧ (∀ (kw : Word) (few : List Word), 4 < kw.toNat → turnedAway (kw :: few)) ∧
      (∀ few : List Word, few.length < 2 → turnedAway (0 :: few)) ∧
      (∀ (d r : Word) (more : List Word), d.toNat < 10 ∨ 3600 < d.toNat ∨ r.toNat < 10 ∨ 3600 < r.toNat →
        turnedAway (0 :: d :: r :: more)) ∧
      (∀ (kw : Word) (few : List Word), kw ≠ 0 → few.length < 6 → turnedAway (kw :: few)) ∧
      ∀ (kw watch alert closure reopen rate inflow : Word) (more : List Word), kw ≠ 0 →
        20000 < watch.toNat ∨ 20000 < alert.toNat ∨ 20000 < closure.toNat ∨ 20000 < reopen.toNat ∨ 32767 < rate.toNat →
        turnedAway (kw :: watch :: alert :: closure :: reopen :: rate :: inflow :: more)) ∧
    (∀ (a b c d e f g : Word) (more : List Word),
      let ops := a :: b :: c :: d :: e :: f :: g :: more
      exec (.planSet tag ops) s = .next (
        if a.toNat ≤ 3 ∧ b.toNat ≤ 3 ∧ c.toNat ≤ 3 ∧ d.toNat ≤ 3 ∧ e.toNat ≤ 3 ∧ f.toNat ≤ 3 ∧ g.toNat ≤ 3 then
          answer tag 27 0 [] { s with cfg := { s.cfg with plan :=
            #v[a.setWidth 2, b.setWidth 2, c.setWidth 2, d.setWidth 2, e.setWidth 2, f.setWidth 2, g.setWidth 2] } }
        else answer tag 27 2 [] s)) ∧
    (∀ (window silence cycle policy : Word) (more : List Word),
      let c : LineCfg :=
        { replyWindow := window.toNat, silencePeriod := silence.toNat, cyclePeriod := cycle.toNat, refuseUnmapped := policy == 1 }
      exec (.lineSet tag (window :: silence :: cycle :: policy :: more)) s = .next (
        if 2 ≤ window.toNat ∧ window.toNat ≤ 50 ∧ 1 ≤ silence.toNat ∧ silence.toNat ≤ 60 ∧ 250 ≤ cycle.toNat ∧
            cycle.toNat ≤ 2000 ∧ cycle.toNat % 250 = 0 ∧ policy.toNat ≤ 1 then
          answer tag 29 0 [] { s with cfg := { s.cfg with line := c } }
        else answer tag 29 2 [] s)) ∧
    (∀ (cw iw present x y : Word) (more : List Word) (c : Fin 4) (i : Fin 8), cw.toNat = c.val → iw.toNat = i.val →
      let stored := fun b : Option Breakpoint =>
        answer tag 25 0 []
          { s with cfg := { s.cfg with curves := Tab.put s.cfg.curves c (Tab.put (Tab.get s.cfg.curves c) i b) } }
      (present = 0 → exec (.curveSet tag (cw :: iw :: present :: more)) s = .next (stored none)) ∧
      (present = 1 → exec (.curveSet tag (cw :: iw :: present :: x :: y :: more)) s =
        .next (if y.toNat ≤ 100 then stored (some { x := x.toNat, y := y.toNat }) else answer tag 25 2 [] s)))

/-! ## The STAGE and the control hold -/

/-- What an evaluation of the STC does to the STAGE, the cause, the confirm count and the descent timer (R87, R88, R90), the
derivation (R93), the closure test (R97), what a completion does by the hold state with HOLD_BROKEN (R95, R97), the change of the
hold state with the timers that it pauses and resumes (R95, R163), the evaluations of the PSC, the GSQ and the LTU (R96), ADVANCE,
and the end of its step with its ANSWER, HOLD_BROKEN and HOLD_LEFT (R96, R98). The demanded stage is taken over all the data held, a
sump no longer CONFIGURED among them, which is the model's choice (log entry 59), and so are the order of the blocks at the step
order (log entry 68), the judgements of the LAU between devices (log entries 17 and 18), HOLD_BROKEN before HOLD_LEFT (log entry 60)
and the notices before the ANSWER, the events of other blocks after it (log entries 19 and 49); log entries 33, 34 and 38 settle a
broken step, the latched reports and the derivation, all DEDUCED. -/
def Obligations.AdvanceAndStepEnd : Prop :=
  (∀ s : State,
    let old := s.stc
    let d := s.demandedStage
    let u := { s with stc := { old with demanded := d.1 } }
    let low := old.stage.code < Stage.closing.code
    let whole := fun seconds : Nat =>
      if old.hold = .running then Timer.running (s.now + 1000 * seconds) else Timer.paused (1000 * seconds)
    let reopens := d.1 ≠ .closing ∧ ∀ x ∈ old.data.getD [],
      let r := (Tab.get s.cfg.thresholds x.sump).reopen
      r = 0 ∨ x.levelQuality = .good ∧ x.filtered < r
    let closure := (old.data.getD []).find? fun x =>
      let t := (Tab.get s.cfg.thresholds x.sump).closure
      t != 0 && decide (t ≤ x.filtered)
    let broken := fun (x : SumpData) (v : State) =>
      raiseNotice 6 [word (x.sump.val + 1), word x.filtered] (stageTo .closing { sump := x.sump.val + 1, test := 1 } v)
    (low →
      (d.1 = .closing → stageEvaluate s = stageTo .closing d.2 u) ∧
      (d.1 ≠ .closing → old.stage.code < d.1.code →
        (old.confirm = 0 → stageEvaluate s = { u with stc := { u.stc with confirm := 1, descent := .stopped } }) ∧
        (old.confirm ≠ 0 → stageEvaluate s = stageTo d.1 d.2 u)) ∧
      (d.1 = old.stage → stageEvaluate s = { u with stc := { u.stc with confirm := 0, descent := .stopped } }) ∧
      (d.1.code < old.stage.code → stageEvaluate s = { u with stc := { u.stc with
        confirm := 0, descent := if old.descent = .stopped then whole s.cfg.descentDwell else old.descent } })) ∧
    (old.stage = .closing → stageEvaluate s = u) ∧
    (old.stage = .closed → stageEvaluate s = { u with stc := { u.stc with
      reopenReady := if reopens then old.reopenReady else false
      reopen := if ¬ reopens then .stopped
        else if old.reopen = .stopped ∧ old.reopenReady = false then .running (s.now + 1000 * s.cfg.reopenDwell)
        else old.reopen } }) ∧
    (old.stage = .reopening → stageEvaluate s = if d.1 = .closing then stageTo .closing d.2 u else u) ∧
    (let now := (old.pscReady = true ∧ old.gsqReady = true) ∨ old.deriveExpired = true ∨ d.1 = .closing
      let v := { u with stc := { u.stc with derivePending := false, derive := .stopped, deriveExpired := false } }
      (¬ now → derive s = s) ∧
      (now → derive s =
        if d.1 = .closing then stageTo .closing d.2 v
        else if old.allOpen = false then stageTo .closing { sump := 0, test := 7 } v
        else if d.1 = .clear then v
        else stageTo d.1 d.2 v)) ∧
    (s.closureSump = closure) ∧
    (old.hold = .running → stcCompletion s =
      if old.derivePending = true then derive s
      else if old.holdRequest = true ∧ closure = none ∧ low then setHold .held s
      else stageEvaluate s) ∧
    (old.hold = .held ∨ old.hold = .stepping → closure = none → stcCompletion s = s) ∧
    (old.hold = .held → ∀ x, closure = some x → stcCompletion s =
      broken x (rederiveAll (setHold .running { s with stc := { old with holdRequest := false } }))) ∧
    (old.hold = .stepping → ∀ x, closure = some x → ∀ r, old.step = some r → stcCompletion s =
      if r.broken = true then s
      else
        let v := { s with stc := { old with holdRequest := false, step := some { r with broken := true } } }
        if old.stage = .closing ∨ old.stage = .closed then raiseNotice 6 [word (x.sump.val + 1), word x.filtered] v
        else broken x v) ∧
    (∀ h : HoldState,
      let pause := fun y : Timer => match y with
        | .running e => Timer.paused (e - s.now)
        | _ => y
      let resume := fun y : Timer => match y with
        | .paused r => Timer.running (s.now + r)
        | _ => y
      let t := setHold h s
      { t with gsq := s.gsq } =
        { s with
          stc := { old with hold := h, descent := if h = .running then resume old.descent else pause old.descent }
          psc := { s.psc with hold := h } } ∧
      (h ≠ .held → t.gsq = s.gsq) ∧
      (h = .held → t.gsq.data = s.gsq.data ∧ t.gsq.reported = s.gsq.reported ∧
        t.gsq.gate = { s.gsq.gate with dwellTimer := pause s.gsq.gate.dwellTimer } ∧
        ∀ b : BarrierId, t.barrier b =
          { s.barrier b with warnTimer := pause (s.barrier b).warnTimer, clearTimer := pause (s.barrier b).clearTimer }))) ∧
  (∀ s : State,
    pscEvaluate s = evaluateSump 3 (evaluateSump 2 (evaluateSump 1 (evaluateSump 0 s))) ∧
    gsqEvaluate s = lauSettle (gateEval ((List.finRange 4).foldl (fun u b => lauSettle (barrierEval b u)) s)) ∧
    ∀ acting : Bool, ltuEvaluate acting s = (List.finRange 6).foldl (fun u z => lauSettle (zoneEval acting z u)) s) ∧
  (∀ (tag : Tag) (s : State), s.Taking →
    (s.stc.hold ≠ .held → exec (.advance tag) s = .next (answer tag 50 3 [] s)) ∧
    (s.stc.hold = .held →
      let record : StepRecord :=
        { tag := tag, pscDone := false, gsqDone := false, ltuDone := false, broken := false, linkLost := false }
      let evaluated := quiesce (stageEvaluate (rederiveAll (setHold .stepping { s with stc := { s.stc with step := some record } })))
      let acted := quiesce (ltuEvaluate true (gsqEvaluate (pscEvaluate evaluated)))
      let reported := acted.stc.step.map fun r => { r with pscDone := true, gsqDone := true, ltuDone := true }
      exec (.advance tag) s = .next { acted with stc := { acted.stc with step := reported } }) ∧
    (s.stc.hold = .held → ∃ t, exec (.advance tag) s = .next t ∧ t.stc.hold = .stepping ∧ t.psc.hold = .stepping ∧
      t.stc.step = some { tag := tag, pscDone := true, gsqDone := true, ltuDone := true, broken := false, linkLost := false } ∧
      t.stc.demanded = s.demandedStage.1 ∧ t.stc.data = s.stc.data ∧ t.cfg = s.cfg)) ∧
  ∀ s : State, s.AtRest →
    (s.stc.step = none → exec .stepEnd s = .next s) ∧
    ∀ r : StepRecord, s.stc.step = some r → r.pscDone = true → r.gsqDone = true → r.ltuDone = true →
      let high := Stage.closing.code ≤ s.stc.stage.code
      let ended : State := { s with stc := { s.stc with step := none } }
      let kept := setHold (if s.stc.holdRequest = true then .held else .running) ended
      let freed := setHold .running { ended with stc := { ended.stc with holdRequest := false } }
      let told := if ¬ high then kept else if r.broken = true then freed else raiseNotice 6 [0, word s.stc.stage.code] freed
      let left := if r.linkLost = true ∧ (high ∨ s.stc.holdRequest = false) then raiseNotice 7 [1] told else told
      exec .stepEnd s = .next (answer r.tag 50 0 [] left) ∧
      ∃ t, exec .stepEnd s = .next t ∧ t.stc.step = none ∧ t.stc.stage = s.stc.stage ∧ t.psc.hold = t.stc.hold ∧
        t.stc.hold =
          (if Stage.closing.code ≤ s.stc.stage.code then .running else if s.stc.holdRequest = true then .held else .running) ∧
        t.stc.holdRequest = (s.stc.holdRequest && decide (s.stc.stage.code < Stage.closing.code)) ∧
        t.flc = s.flc ∧ t.cfg = s.cfg ∧ t.lau = s.lau ∧ t.cau = s.cau

/-- HOLD_SET and HOLD_CLEAR (R94); a report of the GSQ's summary flags (R89); and RELEASE (R91), which ends in REOPENING unless the
barriers report all-open, in which case the STAGE is WATCH at once (R89). That a RELEASE offers STAGE_CHANGED before its ANSWER, and
that the events of other blocks and their frames follow the ANSWER, is the model's choice (log entries 19 and 49). -/
def Obligations.HoldRequestsAndRelease : Prop :=
  (∀ (tag : Tag) (s : State), s.Taking →
     exec (.holdSet tag) s = .next (answer tag 48 0 [] { s with stc := { s.stc with holdRequest := true } }) ∧
     exec (.holdClear tag) s = .next (answer tag 49 0 [] { s with stc := { s.stc with holdRequest := false } })) ∧
  (∀ (allClosed allOpen : Bool) (s : State),
     let t := takeSummary allClosed allOpen s
     let flagged := { s with stc := { s.stc with allClosed := allClosed, allOpen := allOpen } }
     let closes := s.stc.stage = .closing ∧ allClosed = true ∧ s.stc.allClosed = false
     let opens := s.stc.stage = .reopening ∧ allOpen = true ∧ s.stc.allOpen = false
     (¬ closes → ¬ opens → t = flagged) ∧
     (closes → t = stageTo .closed { sump := 0, test := 8 } flagged) ∧
     (opens → ¬ closes → t = stageTo .watch { sump := 0, test := 9 } flagged) ∧
     (closes ∨ opens →
       t.stc.allClosed = allClosed ∧ t.stc.allOpen = allOpen ∧ t.stc.enteredAt = s.now ∧ t.stc.confirm = 0 ∧
       t.stc.stage = (if s.stc.stage = .closing then .closed else .watch) ∧
       t.stc.cause = { sump := 0, test := if s.stc.stage = .closing then 8 else 9 })) ∧
  (∀ (tag : Tag) (s : State), s.Taking →
     (s.stc.stage ≠ .closed ∨ s.stc.reopenReady = false → exec (.release tag) s = .next (answer tag 51 3 [] s)) ∧
     (s.stc.stage = .closed → s.stc.reopenReady = true → exec (.release tag) s =
       .next (quiesce (answer tag 51 0 [] (stageTo .reopening { sump := 0, test := 10 } s)))) ∧
     (s.stc.stage = .closed → s.stc.reopenReady = true → ∃ t, exec (.release tag) s = .next t ∧
       let reopens := t.stc.stage = .reopening ∧ t.stc.cause = { sump := 0, test := 10 } ∧ t.stc.allOpen = false
       let opened := t.stc.stage = .watch ∧ t.stc.cause = { sump := 0, test := 9 }
       (s.stc.allOpen = true → opened) ∧ (s.stc.allOpen = false → reopens ∨ opened) ∧
       (s.OverridesLawful → s.ReportsCurrent → (∀ x, s.gsq.reported = some x → x.2 = s.stc.allOpen) →
         reopens ∨ opened ∧ t.stc.allOpen = true) ∧
       t.stc.reopenReady = false ∧ t.stc.reopen = .stopped ∧ t.stc.enteredAt = s.now ∧ t.stc.confirm = 0 ∧
       t.cfg = s.cfg ∧ t.now = s.now ∧ t.stc.hold = s.stc.hold ∧ t.cau = s.cau))

/-- A change of STAGE with its notice STAGE_CHANGED, the cancelling of the overrides with OVERRIDES_CANCELLED and their events (R92,
R108, R109), the chains into CLOSED and WATCH (R89), and the expiries of the descent, reopen and derive timers (R88, R90, R93). The
order of the notices and events is the model's choice (log entries 19 and 49); so are that an expiry without a running timer changes
nothing, and that the clock moves to the deadline (log entry 3). -/
def Obligations.StageTimers : Prop :=
  (∀ (cause : OverrideCause) (code : Nat) (s : State),
    let removed := s.cau.overrides
    (removed = [] → cancelOverrides cause code s = s) ∧
    (removed ≠ [] → cancelOverrides cause code s = raiseNotice 8 [word code, word removed.length]
      { s with
        cau := { s.cau with overrides := [] }
        signals := s.signals ++ removed.map fun e =>
          .overrideChanged { point := e.point, owner := ownerOf s.cfg e.point, value := none, cause := cause } })) ∧
  (∀ (new : Stage) (cause : Cause) (s : State),
    let old := s.stc.stage
    let u := { s with stc := { s.stc with
      stage := new, enteredAt := s.now, cause := cause, confirm := 0, descent := .stopped, reopen := .stopped
      reopenReady := false } }
    let told := raiseNotice 5 [word new.code, word old.code, word cause.sump, word cause.test, u.planInForce.zeroExtend 16] u
    let done := if old.code < Stage.alert.code ∧ Stage.alert.code ≤ new.code then cancelOverrides .stage 1 told else told
    let t := stageChange new cause s
    t = { done with signals := done.signals ++ [.stage new old] } ∧
    stageTo new cause s =
      if new = .closing ∧ s.stc.allClosed = true then stageChange .closed { sump := 0, test := 8 } t
      else if new = .reopening ∧ s.stc.allOpen = true then stageChange .watch { sump := 0, test := 9 } t
      else t) ∧
  ∀ s : State, s.AtRest →
    (∀ d : Nat, s.stc.descent = .running d → s.stc.stage = .alert ∨ s.stc.stage = .watch →
      let new : Stage := if s.stc.stage = .alert then .watch else .clear
      let u := stageTo new { sump := 0, test := 11 } { s with now := max s.now d, stc := { s.stc with descent := .stopped } }
      let whole : Timer := if s.stc.hold = .running then .running (max s.now d + 1000 * s.cfg.descentDwell)
        else .paused (1000 * s.cfg.descentDwell)
      exec .descentTimerExpiry s = .next (quiesce (
        if s.stc.demanded.code < new.code then { u with stc := { u.stc with descent := whole } } else u))) ∧
    (∀ d : Nat, s.stc.descent = .running d → s.stc.stage = .alert ∨ s.stc.stage = .watch →
      let new : Stage := if s.stc.stage = .alert then .watch else .clear
      ∃ t, exec .descentTimerExpiry s = .next t ∧ t.stc.stage = new ∧ t.stc.cause = { sump := 0, test := 11 } ∧
        t.stc.enteredAt = max s.now d ∧ t.now = max s.now d ∧ t.stc.confirm = 0 ∧
        (s.stc.hold = .running → t.stc.descent =
          if s.stc.demanded.code < new.code then .running (max s.now d + 1000 * s.cfg.descentDwell) else .stopped) ∧
        t.cfg = s.cfg ∧ t.cau = s.cau ∧ t.stc.hold = s.stc.hold) ∧
    (∀ d : Nat, s.stc.reopen = .running d → exec .reopenTimerExpiry s =
      .next { s with now := max s.now d, stc := { s.stc with reopenReady := true, reopen := .stopped } }) ∧
    (∀ d : Nat, s.stc.derive = .running d → exec .deriveTimerExpiry s =
      .next { s with now := max s.now d, stc := { s.stc with deriveExpired := true, derive := .stopped } }) ∧
    ((∀ d : Nat, s.stc.descent ≠ .running d) → exec .descentTimerExpiry s = .next s) ∧
    ((∀ d : Nat, s.stc.reopen ≠ .running d) → exec .reopenTimerExpiry s = .next s) ∧
    ((∀ d : Nat, s.stc.derive ≠ .running d) → exec .deriveTimerExpiry s = .next s)

/-- The stage that the completion data demand, and its cause (R86). -/
def Obligations.DemandedStage : Prop :=
  ∀ (th : Vector Thresholds 4) (l : List SumpData),
    let d := (demandedOf th l).1
    let test := fun (x : SumpData) (n : Nat) =>
      let t := Tab.get th x.sump
      (n = 1 ∧ t.closure ≠ 0 ∧ t.closure ≤ x.filtered) ∨ (n = 2 ∧ t.alert ≠ 0 ∧ t.alert ≤ x.filtered) ∨
        (n = 3 ∧ t.alertRate ≠ 0 ∧ (t.alertRate : Int) ≤ x.rate) ∨ (n = 4 ∧ 3 ≤ x.blindCount) ∨
        (n = 5 ∧ t.watch ≠ 0 ∧ t.watch ≤ x.filtered) ∨
        (n = 6 ∧ t.watchInflow ≠ 0 ∧ (t.watchInflow : Int) ≤ x.controlInflow ∧ (x.inflowGood = true ∨ x.inflowLimited = true))
    (d = .closing ↔ ∃ x ∈ l, test x 1) ∧
    (d = .alert ↔ (∀ x ∈ l, ¬ test x 1) ∧ ∃ x ∈ l, test x 2 ∨ test x 3 ∨ test x 4) ∧
    (d = .watch ↔ (∀ x ∈ l, ∀ n, n ≤ 4 → ¬ test x n) ∧ ∃ x ∈ l, test x 5 ∨ test x 6) ∧
    (d = .clear ↔ ∀ x ∈ l, ∀ n, ¬ test x n) ∧
    (d = .clear → (demandedOf th l).2 = { sump := 0, test := 0 }) ∧
    (d ≠ .clear → ∃ (before after : List SumpData) (x : SumpData) (n : Nat), l = before ++ x :: after ∧
      (demandedOf th l).2 = { sump := x.sump.val + 1, test := n } ∧ test x n ∧
      d = (if n = 1 then .closing else if n ≤ 4 then .alert else .watch) ∧
      (∀ y ∈ before, ∀ m, test y m → (if m = 1 then Stage.closing else if m ≤ 4 then .alert else .watch) ≠ d) ∧
      ∀ m, m < n → test x m → (if m = 1 then Stage.closing else if m ≤ 4 then .alert else .watch) ≠ d)

/-- The STAGE enters REOPENING only from CLOSED while reopen-ready (R89). -/
def Obligations.ReopeningOnlyFromClosed : Prop :=
  ∀ s t : State, step s = .next t → t.stc.stage = .reopening → s.stc.stage ≠ .reopening →
    s.stc.stage = .closed ∧ s.stc.reopenReady = true

/-- Every step keeps the step record and the hold state together, and the PSC's hold state that of the STC (R96, R147). -/
def Obligations.HoldStaysConsistent : Prop := ∀ s t : State, s.HoldConsistent → step s = .next t → t.HoldConsistent

/-- Where an operation is turned away: BUSY while a RESTART is pending (R185), BUSY while a commit is in flight for one that alters
the stored image (R178), UNKNOWN_OP for an operation word that names none (R177), RANGE for operands that a configuration operation
does not accept (R178), with the words that MAP_WRITE (R34), POINT_SET (R46), SCAN_SET (R61), CURVE_SET (R168), PLAN_SET (R85),
LINE_SET (R179) and SUPPLY_SET (R102, R115) accept; those of the device and sump settings stand in their own statements. That the
commit is judged before the operands of every such operation (log entry 20), and that a pending RESTART makes an unknown operation
word BUSY too (log entry 21), are the model's readings. -/
def Obligations.OperationsTurnedAway : Prop :=
  (∀ (c : Instr) (f : Frame) (op : Word) (ops : List Word) (s : State), s.AtRest → c.wellFormed = true →
    commandFrame c = some f → f.payload = op :: ops →
    (s.mgu.restart ≠ .none → exec c s = .next (answer f.tag op.toNat 1 [] s)) ∧
    (s.mgu.restart = .none → s.mgu.commit.isSome = true →
      op.toNat ∈ [1, 3, 4, 5, 16, 18, 21, 22, 23, 24, 25, 26, 27, 28, 29, 57, 58] ∨
        (op.toNat ∈ [19, 20] ∧ s.sau.cycle = none) →
      exec c s = .next (answer f.tag op.toNat 1 [] s))) ∧
  ∀ (tag : Tag) (s : State), s.Taking →
    (∀ op : Word, knownOp op = false → exec (.unknownOp tag op) s = .next (answer tag op.toNat 6 [] s)) ∧
    ∀ ops : List Word, s.mgu.commit = none →
      (parsePoint ops s.pcfg = none → exec (.pointSet tag ops) s = .next (answer tag 16 2 [] s)) ∧
      (parseScan ops = none → exec (.scanSet tag ops) s = .next (answer tag 18 2 [] s)) ∧
      (parseSump ops = none → s.sau.cycle = none → exec (.sumpSet tag ops) s = .next (answer tag 19 2 [] s)) ∧
      (parseGeometry ops = none → s.sau.cycle = none → exec (.geometrySet tag ops) s = .next (answer tag 20 2 [] s)) ∧
      (parsePump ops = none → ops.head? ≠ some 0 → exec (.pumpSet tag ops) s = .next (answer tag 21 2 [] s)) ∧
      (parsePumping ops = none → exec (.pumpSetSumpSettings tag ops) s = .next (answer tag 21 2 [] s)) ∧
      (parseBarrier ops = none → exec (.barrierSet tag ops) s = .next (answer tag 22 2 [] s)) ∧
      (parseGate ops = none → exec (.gateSet tag ops) s = .next (answer tag 23 2 [] s)) ∧
      (parseZone ops = none → exec (.zoneSet tag ops) s = .next (answer tag 24 2 [] s)) ∧
      (parseCurve ops = none → exec (.curveSet tag ops) s = .next (answer tag 25 2 [] s)) ∧
      (parsePlans ops = none → exec (.planSet tag ops) s = .next (answer tag 27 2 [] s)) ∧
      (parseSupply ops = none → exec (.supplySet tag ops) s = .next (answer tag 28 2 [] s)) ∧
      (parseLine ops = none → exec (.lineSet tag ops) s = .next (answer tag 29 2 [] s)) ∧
      (parseMapWrite ops = none → exec (.mapWrite tag ops) s = .next (answer tag 1 2 [] s)) ∧
      let n := ops.length
      let w := fun i : Nat => (ops.getD i 0).toNat
      let signed := fun i : Nat => (ops.getD i 0).toInt
      (parsePoint ops s.pcfg = none ↔ ¬ (6 ≤ n ∧ w 0 ≤ 255 ∧ w 1 ≤ 5 ∧ w 2 ≤ 255 ∧
        (w 1 = 1 ∨ w 1 = 2 → signed 3 ≤ signed 4) ∧ (w 1 = 1 → w 5 ≤ 1))) ∧
      (parseScan ops = none ↔ ¬ (6 ≤ n ∧ 1 ≤ w 0 ∧ w 0 ≤ 32 ∧ 1 ≤ w 1 ∧ w 1 ≤ 61 ∧ w 2 ≤ 15 ∧ 1 ≤ w 3 ∧ w 3 ≤ 8 ∧
        w 2 + w 3 ≤ 16 ∧ 1 ≤ w 4 ∧ w 4 ≤ 255 ∧ w 5 ≤ 1)) ∧
      (parseCurve ops = none ↔ ¬ (3 ≤ n ∧ w 0 ≤ 3 ∧ w 1 ≤ 7 ∧ w 2 ≤ 1 ∧ (w 2 = 1 → 5 ≤ n ∧ w 4 ≤ 100))) ∧
      (parsePlans ops = none ↔ ¬ (7 ≤ n ∧ ∀ i ∈ [0, 1, 2, 3, 4, 5, 6], w i ≤ 3)) ∧
      (parseSupply ops = none ↔ ¬ (8 ≤ n ∧ (∀ i ∈ [0, 1, 2, 6], w i ≤ 256) ∧ 100 ≤ w 5 ∧ w 5 ≤ 600 ∧ 1 ≤ w 7 ∧ w 7 ≤ 60 ∧
        (w 0 = w 1 → w 0 = 256) ∧ (w 0 = w 2 → w 0 = 256) ∧ (w 1 = w 2 → w 1 = 256))) ∧
      (parseLine ops = none ↔ ¬ (4 ≤ n ∧ 2 ≤ w 0 ∧ w 0 ≤ 50 ∧ 1 ≤ w 1 ∧ w 1 ≤ 60 ∧ 250 ≤ w 2 ∧ w 2 ≤ 2000 ∧ w 2 % 250 = 0 ∧
        w 3 ≤ 1)) ∧
      (parseMapWrite ops = none ↔ ¬ (8 ≤ n ∧ w 0 ≤ 3 ∧ w 3 ≤ 15 ∧ (w 0 = 0 → w 1 ≤ 15) ∧ (w 0 = 2 → w 1 ≤ 127 ∧ w 2 ≤ 1) ∧
        (w 0 = 1 ∨ w 0 = 3 → w 3 % 2 = 1) ∧ (w 3 % 2 = 1 → w 4 ≤ 3 ∧ 1 ≤ w 5 ∧ w 5 ≤ 61 ∧ w 6 ≤ 15 ∧ w 7 ≤ 255)))

/-! ## Authority and supply -/

/-- Every step keeps the Override Table to one entry per point and 16 entries, and empty while the STAGE is ALERT or higher or the
key state LOCAL (R106, R108, R110). -/
def Obligations.OverridesStayLawful : Prop := ∀ s t : State, s.OverridesLawful → step s = .next t → t.OverridesLawful

/-- SUPPLY_SET (R102, R115): what the LAU and the CAU judge afresh, with SUPPLY_CHANGED and PANEL_KEY_CHANGED (R116, R117, R110);
the expiry of an OVERRIDE (R107) and of the INRUSH WINDOW (R123); and the judgements of the LAU: when the head is granted (R122,
R123), when shed demand is set (R124, R171), when a pump is ordered to stop (R125) and when shed demand is cleared (R126, R171), and
what a grant does to a pump (R135), a barrier (R152), the gate (R161) and a zone (R172). The LAU takes the first judgement that
acts, and judges again, which is the model's order, and judges all four at each event that makes one due (log entry 17); that it
judges a SUPPLY_SET before the CAU is log entry 61, and that SUPPLY_CHANGED and PANEL_KEY_CHANGED come before the ANSWER, the
judgements of the LAU and the events of other blocks after it, log entries 19 and 49; a load or an ALLOWANCE above 65535 in a notice
is a free word (log entry 6); what a grant that finds a barrier not CLEAR does is log entry 18. That an expiry moves the clock to
its deadline, and does nothing without its entry or its timer, is the model's choice (log entry 3). -/
def Obligations.SupplySetAndExpiries : Prop :=
  (∀ s : State,
    let lau := s.lau
    let window := match lau.window with
      | some w => w.extra
      | none => 0
    let committed := lau.pumpLoad.toList.sum + lau.motorLoad.toList.sum + lau.zoneLoad.toList.sum + window
    let fits := fun r : Request => committed + r.runKw + r.extra ≤ s.allowance
    let free := fun r : Request =>
      (lau.window = none ∨ r.extra = 0) ∧ (lau.clearToStart = true ∨ r.cls = 3) ∧ s.stc.hold ≠ .held
    let blocked := ∃ r ∈ lau.queue.head?, r.cls ≤ 1 ∧ ¬ fits r ∧ free r
    let overload := s.allowance < committed
    let orders := lau.shedTaken = true ∧ overload ∧ lau.shedOrder = none ∧ s.stc.hold ≠ .held ∧ lau.startOrder ≠ []
    let ended := (∀ r ∈ lau.queue, 1 < r.cls) ∧ committed + lau.restoration.toList.sum ≤ s.allowance ∧ lau.shedOrder = none
    (∀ (r : Request) (rest : List Request), lau.queue = r :: rest → fits r → free r → lauRound s = some (deliverGrant r.device
      { s with lau :=
        { lau with
          queue := rest
          window := if r.extra = 0 then lau.window
            else some { device := r.device, extra := r.extra, timer := .running (s.now + 1000 * r.inrush) } } })) ∧
    ((∀ r ∈ lau.queue.head?, ¬ (fits r ∧ free r)) →
      (lau.shedDemand = false → blocked ∨ overload → ∃ u, lauRound s = some u ∧
        u.upp = (raiseNotice 11 [if blocked then 1 else 2, word committed, word s.allowance] s).upp ∧
        u.lau.shedDemand = true ∧ u.lau.shedTaken = true ∧ u.psc = s.psc ∧ u.gsq = s.gsq ∧ u.stc = s.stc ∧
        ∀ z : ZoneId,
          ((s.zone z).mode = .normal → (u.zone z).mode = .shed ∧ (u.zone z).level = (s.zoneCfg z).safety ∧ (u.zone z).reserve = none) ∧
          ((s.zone z).mode = .restoreQueued → (u.zone z).mode = .shed ∧ ∀ r ∈ u.lau.queue, r.device ≠ .zone z) ∧
          ((s.zone z).mode ≠ .normal → (s.zone z).mode ≠ .restoreQueued → u.zone z = s.zone z)) ∧
      (lau.shedDemand = true → orders → ∀ (before : List PumpId) (p : PumpId), lau.startOrder = before ++ [p] →
        lauRound s = some (pumpShed p { s with lau := { lau with shedOrder := some p } })) ∧
      (lau.shedDemand = true → ended → ∃ u, lauRound s = some u ∧
        u.upp = (raiseNotice 12 [word committed, word s.allowance] s).upp ∧
        u.lau.shedDemand = false ∧ u.lau.shedTaken = false ∧ u.psc = s.psc ∧ u.gsq = s.gsq ∧ u.stc = s.stc ∧
        ∀ z : ZoneId,
          ((s.zone z).mode = .shed → s.stc.hold ≠ .held →
            (s.increment z = 0 → (u.zone z).mode = .normal) ∧
            (s.increment z ≠ 0 →
              ((u.zone z).mode = .shed ∧ (u.zone z).postDeferred = true) ∨
                ((u.zone z).mode = .restoreQueued ∧ (u.zone z).postDeferred = false ∧
                  ∃ r ∈ u.lau.queue, r.device = .zone z ∧ r.cls = 3 ∧ r.runKw = s.increment z ∧ r.extra = 0))) ∧
          ((s.zone z).mode ≠ .shed ∨ s.stc.hold = .held → u.zone z = s.zone z)) ∧
      (lau.shedDemand = false → ¬ blocked → ¬ overload → lauRound s = none) ∧
      (lau.shedDemand = true → ¬ orders → ¬ ended → lauRound s = none))) ∧
  (∀ (p : PumpId) (s : State),
    let x := s.pump p
    let t := deliverGrant (.pump p) s
    (x.mode ≠ .queued → t = s) ∧
    (x.mode = .queued →
      t.pump p =
        { x with
          mode := .starting, sequence := s.psc.startSeq + 1, runningSince := none
          startTimer := .running (s.now + 1000 * (s.pumpCfg p).startConfirm), startCount := min 4294967295 (x.startCount + 1)
          startsInWindow := x.startsInWindow + 1
          hourWindow := if x.hourWindow.isRunning = true then x.hourWindow else .running (s.now + 3600000) } ∧
      t.psc.startSeq = s.psc.startSeq + 1 ∧ (∀ q, q ≠ p → t.pump q = s.pump q) ∧
      t.flc = (commandPoint (s.pumpCfg p).runPoint 1 s).flc ∧ t.pim = (commandPoint (s.pumpCfg p).runPoint 1 s).pim ∧
      t.lau.pumpLoad = Tab.put s.lau.pumpLoad p (s.pumpCfg p).ratedKw ∧
      t.lau.startOrder = if p ∈ s.lau.startOrder then s.lau.startOrder else s.lau.startOrder ++ [p])) ∧
  (∀ (b : BarrierId) (s : State),
    let x := s.barrier b
    let t := deliverGrant (.barrier b) s
    let moves := fun (mode : BarrierMode) (drive : Word) =>
      (t.barrier b).mode = mode ∧ (t.barrier b).travelTimer = .running (s.now + 1000 * (s.barrierCfg b).travel) ∧
      (t.barrier b).reversals = x.reversals ∧ Tab.get t.lau.motorLoad (b.castLE (by decide)) = (s.barrierCfg b).motorKw ∧
      (∀ o, o ≠ b → t.barrier o = s.barrier o) ∧
      ∀ q, (s.barrierCfg b).drive = some q → (s.barrierCfg b).head ≠ some q → s.flc.line ≠ .quenched →
        (t.point q).commanded = drive ∧ (t.point q).command = .pending
    (x.mode ≠ .queuedClose → x.mode ≠ .queuedOpen → t = s) ∧
    (x.mode = .queuedOpen → moves .opening 1) ∧
    (x.mode = .queuedClose → s.barrierClear b = true → moves .closing 2) ∧
    (x.mode = .queuedClose → s.barrierClear b = false → (t.barrier b).mode = .clearing ∧ (t.barrier b).clearTimer = .stopped)) ∧
  (∀ s : State,
    let x := s.gsq.gate
    let t := deliverGrant .gate s
    let moves := fun (mode : GateMode) (drive : Word) =>
      t.gsq.gate = { x with mode := mode, travelTimer := .running (s.now + 1000 * s.cfg.gate.travel) } ∧
      Tab.get t.lau.motorLoad 4 = s.cfg.gate.motorKw ∧
      t.flc = (commandPoint s.cfg.gate.drive drive s).flc ∧ t.pim = (commandPoint s.cfg.gate.drive drive s).pim
    (x.mode ≠ .queuedClose → x.mode ≠ .queuedOpen → t = s) ∧
    (x.mode = .queuedOpen → moves .opening 1) ∧ (x.mode = .queuedClose → moves .closing 2)) ∧
  (∀ (z : ZoneId) (s : State),
    let x := s.zone z
    let t := deliverGrant (.zone z) s
    (x.mode ≠ .restoreQueued → t = s) ∧
    (x.mode = .restoreQueued →
      t.zone z = { x with mode := .normal, reserve := some x.target } ∧ (∀ y, y ≠ z → t.zone y = s.zone y) ∧
      Tab.get t.lau.zoneLoad z = max (t.bareLoad z) (((s.zoneCfg z).ratedKw * x.target + 99) / 100))) ∧
  (∀ s : State,
    let one := fun o : Option PointId =>
      o.any fun p => !((s.point p).quality == .never) && (s.pcfg p).kind == .discrete && (s.point p).raw == 1
    let c := s.cfg.supply
    let mode : SupplyMode := if one c.mains then .mains else if one c.generator then .generator else .none
    let allowance := match mode with
      | .none => 0
      | .mains => c.mainsLimit
      | .generator => c.generatorLimit
    let asserted := c.clearToStart.isNone || one c.clearToStart
    let changed := if mode = s.lau.mode then s
      else raiseNotice 10 [word mode.code, word s.lau.mode.code, word allowance]
        { s with lau := { s.lau with mode := mode, judgeDue := true } }
    let isLocal := c.panelKey.any fun p => (s.point p).quality == .never || !((s.pcfg p).kind == .discrete) || (s.point p).raw == 1
    let quality := (c.panelKey.map fun p => (s.point p).quality.code).getD 0
    let turned := raiseNotice 9 [if isLocal then 1 else 0, word quality]
      { s with cau := { s.cau with keyLocal := isLocal, keyChanged := true } }
    (judgeSupply s =
      if asserted = s.lau.clearToStart then changed
      else { changed with lau := { changed.lau with clearToStart := asserted, judgeDue := true } }) ∧
    (isLocal = s.cau.keyLocal → keyJudge s = s) ∧
    (isLocal ≠ s.cau.keyLocal → keyJudge s = if isLocal then cancelOverrides .panelKey 2 turned else turned)) ∧
  (∀ (tag : Tag) (mains generator clear mainsLimit generatorLimit factor key lifetime : Word) (more : List Word) (s : State),
    s.Altering →
    let ops := mains :: generator :: clear :: mainsLimit :: generatorLimit :: factor :: key :: lifetime :: more
    let named := fun w : Word => if h : w.toNat < 256 then some (⟨w.toNat, h⟩ : PointId) else none
    let c : SupplyCfg :=
      { mains := named mains, generator := named generator, clearToStart := named clear, mainsLimit := mainsLimit.toNat
        generatorLimit := generatorLimit.toNat, motorFactor := factor.toNat, panelKey := named key, lifetime := lifetime.toNat }
    let ranges :=
      mains.toNat ≤ 256 ∧ generator.toNat ≤ 256 ∧ clear.toNat ≤ 256 ∧ key.toNat ≤ 256 ∧ 100 ≤ factor.toNat ∧ factor.toNat ≤ 600 ∧
        1 ≤ lifetime.toNat ∧ lifetime.toNat ≤ 60 ∧ (mains = generator → mains = 256) ∧ (mains = clear → mains = 256) ∧
        (generator = clear → generator = 256)
    let kinds := ∀ w ∈ [mains, generator, clear, key], ∀ p, named w = some p → (s.pcfg p).kind = .discrete
    let one := fun o : Option PointId => o.any fun p => !((s.point p).quality == .never) && (s.point p).raw == 1
    let isLocal := c.panelKey.any fun p => (s.point p).quality == .never || (s.point p).raw == 1
    let cau : Cau :=
      { s.cau with
        keyLocal := isLocal
        keyChanged := s.cau.keyChanged || !(isLocal == s.cau.keyLocal)
        overrides := if isLocal = true ∧ s.cau.keyLocal = false then [] else s.cau.overrides }
    let mode : SupplyMode := if one c.mains then .mains else if one c.generator then .generator else .none
    let lau : Lau := { s.lau with mode := mode, clearToStart := c.clearToStart.isNone || one c.clearToStart }
    (¬ (ranges ∧ kinds) → exec (.supplySet tag ops) s = .next (answer tag 28 2 [] s)) ∧
    (ranges → kinds → exec (.supplySet tag ops) s = .next (quiesce (answer tag 28 0 [] (keyJudge (judgeSupply
      { s with cfg := { s.cfg with supply := c }, lau := { s.lau with judgeDue := true } }))))) ∧
    (ranges → kinds → ∃ t, exec (.supplySet tag ops) s = .next t ∧
      t.steady = State.steady (answer tag 28 0 [] { s with cfg := { s.cfg with supply := c }, cau := cau, lau := lau }))) ∧
  (∀ (p : PointId) (s : State), s.AtRest →
    (∀ e : Override, s.override (some p) = some e → ∃ t, exec (.overrideExpiry p) s = .next t ∧
      t.steady = State.steady
        { s with now := max s.now e.expiry, cau := { s.cau with overrides := s.cau.overrides.filter fun x => x.point ≠ p } }) ∧
    (s.override (some p) = none → exec (.overrideExpiry p) s = .next s)) ∧
  ∀ s : State, s.AtRest →
    (∀ (w : InrushWindow) (d : Nat), s.lau.window = some w → w.timer = .running d →
      let u := { s with now := max s.now d, lau := { s.lau with window := none } }
      (∃ t, exec .inrushWindowExpiry s = .next t ∧ t.steady = u.steady) ∧
      (s.lau.queue = [] → s.lau.shedDemand = false → s.lau.committed - w.extra ≤ s.allowance →
        exec .inrushWindowExpiry s = .next u) ∧
      (∀ (r : Request) (p : PumpId), s.lau.queue = [r] → r.device = .pump p → (s.pump p).mode = .queued →
        r.runKw = (s.pumpCfg p).ratedKw → Tab.get s.lau.pumpLoad p = 0 → s.lau.shedDemand = false → s.lau.clearToStart = true →
        s.stc.hold ≠ .held → s.lau.committed - w.extra + r.runKw + r.extra ≤ s.allowance →
        ∃ t, exec .inrushWindowExpiry s = .next t ∧ (t.pump p).mode = .starting ∧ t.lau.queue = [] ∧
          t.lau.shedDemand = false ∧ t.lau.window =
            if r.extra = 0 then none
            else some { device := .pump p, extra := r.extra, timer := .running (max s.now d + 1000 * r.inrush) })) ∧
    ((∀ (w : InrushWindow) (d : Nat), s.lau.window = some w → w.timer ≠ .running d) → exec .inrushWindowExpiry s = .next s)

/-! ## The Start Queue and the loads -/

/-- Every step keeps the Start Queue to one request per device and 16 requests, in order of class (R120, R122). -/
def Obligations.StartQueueStaysOrdered : Prop := ∀ s t : State, s.StartQueueLawful → step s = .next t → t.StartQueueLawful

/-- Every step keeps what the LAU and the STC hold from reports in agreement with the records of the pumps, the barriers and the
gate (R118, R125, R158). -/
def Obligations.ReportsFollowRecords : Prop :=
  (∀ s t : State, s.LoadsAgree → step s = .next t → t.LoadsAgree) ∧
  ∀ s t : State, s.ReportsCurrent → step s = .next t → t.ReportsCurrent

/-! ## Pumps -/

/-- Every step keeps the pumps of each sump within its run limit, and the duty lists and the states of the pumps in agreement with
their enables (R131, R133). -/
def Obligations.RunLimitsHold : Prop := ∀ s t : State, s.RunLimitsKept → step s = .next t → t.RunLimitsKept

/-- PUMP_SET of a pump record (R129) and of the pumping settings of a sump (R130): what their operand words spell (Table 8-1, R130),
and what each does, with its ANSWER, the duty lists (R131), POST_DEFERRED and the re-derivation of a pump from its run feedback
(R144, R145). That RANGE is answered before BUSY is the model's reading (log entry 20); what becomes of POST_DEFERRED and of a pump
not UNKNOWN is log entry 26. That the PUMP_FAULT of the re-derivation comes before the ANSWER, and the events of other blocks after
it, is the model's choice (log entries 19 and 49). That the stop reason, the hour window, the last stop time and the counters are
kept is the model's choice (log entry 96). -/
def Obligations.PumpSettings : Prop :=
  (∀ (pump enable sump flow kw factor inrush run feedback fault starting stopping off starts : Word) (more : List Word),
    let ops := pump :: enable :: sump :: flow :: kw :: factor :: inrush :: run :: feedback :: fault :: starting :: stopping ::
      off :: starts :: more
    (∀ (p : PumpId) (k : SumpId), pump.toNat = p.val + 1 → sump.toNat = k.val + 1 →
      let c : PumpCfg :=
        { enable := enable == 1, sump := k, ratedFlow := flow.toNat, ratedKw := kw.toNat, startFactor := factor.toNat
          inrush := inrush.toNat, runPoint := namedPoint run, runFeedback := namedPoint feedback
          faultFeedback := namedPoint fault, startConfirm := starting.toNat, stopConfirm := stopping.toNat
          minimumOff := off.toNat, startsPerHour := starts.toNat }
      parsePump ops =
        if enable.toNat ≤ 1 ∧ 1 ≤ flow.toNat ∧ 100 ≤ factor.toNat ∧ factor.toNat ≤ 600 ∧ 1 ≤ inrush.toNat ∧ inrush.toNat ≤ 30 ∧
            run.toNat ≤ 256 ∧ feedback.toNat ≤ 256 ∧ fault.toNat ≤ 256 ∧ 2 ≤ starting.toNat ∧ starting.toNat ≤ 60 ∧
            2 ≤ stopping.toNat ∧ stopping.toNat ≤ 60 ∧ off.toNat ≤ 600 ∧ 1 ≤ starts.toNat ∧ starts.toNat ≤ 30 ∧
            (enable = 1 → run ≠ 256 ∧ feedback ≠ 256 ∧ feedback ≠ fault) then
          some (p, c)
        else none) ∧
    (pump = 0 ∨ 8 < pump.toNat ∨ sump = 0 ∨ 4 < sump.toNat → parsePump ops = none)) ∧
  (∀ (kw s1 s2 s3 s4 t1 t2 t3 t4 limit : Word) (more : List Word),
    let ops := kw :: s1 :: s2 :: s3 :: s4 :: t1 :: t2 :: t3 :: t4 :: limit :: more
    let start := [s1.toNat, s2.toNat, s3.toNat, s4.toNat]
    let stop := [t1.toNat, t2.toNat, t3.toNat, t4.toNat]
    let ordered := ∀ j : Fin 4,
      (start.getD j 0 = 0 → stop.getD j 0 = 0 ∧ ∀ i : Fin 4, j < i → start.getD i 0 = 0) ∧
      (start.getD j 0 ≠ 0 → stop.getD j 0 < start.getD j 0 ∧
        ∀ i : Fin 4, i < j → start.getD i 0 < start.getD j 0 ∧ stop.getD i 0 < stop.getD j 0)
    (∀ k : SumpId, kw.toNat = k.val + 1 → parsePumping ops =
      if (∀ x ∈ start ++ stop, x ≤ 20000) ∧ 1 ≤ limit.toNat ∧ limit.toNat ≤ 8 ∧ ordered then
        some (k, { start := start, stop := stop, runLimit := limit.toNat })
      else none) ∧
    (kw = 0 ∨ 4 < kw.toNat → parsePumping ops = none)) ∧
  (∀ ops : List Word, (ops.length < 14 → parsePump ops = none) ∧ (ops.length < 10 → parsePumping ops = none)) ∧
  ∀ (tag : Tag) (ops : List Word) (s : State), s.Altering →
    let frames := fun u : State => u.upp.upstream.filter fun e => !e.frame.isNotice
    (∀ (p : PumpId) (c : PumpCfg), parsePump ops = some (p, c) →
      let old := s.pumpCfg p
      let mode := (s.pump p).mode
      let lawful :=
        (∀ q, c.runPoint = some q → (s.pcfg q).kind = .command ∧ (ownerOf s.cfg q = .nobody ∨ ownerOf s.cfg q = .pump p)) ∧
          ∀ q, c.runFeedback = some q ∨ c.faultFeedback = some q → (s.pcfg q).kind = .discrete
      (c.enable = true → ¬ lawful → exec (.pumpSet tag ops) s = .next (answer tag 21 2 [] s)) ∧
      ((c.enable = true → lawful) →
        (mode = .queued ∨ mode = .starting ∨ mode = .running ∨ mode = .stopping ∨ mode = .resting →
          exec (.pumpSet tag ops) s = .next (answer tag 21 1 [] s)) ∧
        (mode = .disabled ∨ mode = .unknown ∨ mode = .idle ∨ mode = .faulted → ∃ u : State,
          exec (.pumpSet tag ops) s = .next (quiesce (answer tag 21 0 [] u)) ∧
          let set := fun v : State =>
            v.cfg = { s.cfg with pumps := Tab.put s.cfg.pumps p c } ∧ v.now = s.now ∧ v.flc.line = s.flc.line ∧ v.gsq = s.gsq ∧
            v.ltu = s.ltu ∧ (∀ q, q ≠ p → v.pump q = s.pump q) ∧
            ∀ q, (v.point q).raw = (s.point q).raw ∧ (v.point q).quality = (s.point q).quality
          let x := { s.pump p with
            postDeferred := false, runningSince := none }
          set u ∧
          (c.enable = false → u.pump p = { x with mode := .disabled } ∧ u.lau.queue = s.lau.queue) ∧
          (c.enable = true → mode = .faulted → u.pump p = { s.pump p with postDeferred := false } ∧ u.lau.queue = s.lau.queue) ∧
          (c.enable = true → mode ≠ .faulted → ∃ h : State, u = pumpRederive p h ∧ set h ∧ h.pump p = { x with mode := .unknown } ∧
            h.lau.queue = s.lau.queue)) ∧
        (mode = .disabled ∨ mode = .unknown ∨ mode = .idle ∨ mode = .faulted → (frames s).length < 16 →
          ∃ t, exec (.pumpSet tag ops) s = .next t ∧ frames t = frames s ++ frames (answer tag 21 0 [] State.reset)) ∧
        (mode = .disabled ∨ mode = .unknown ∨ mode = .idle ∨ mode = .faulted → ∃ t, exec (.pumpSet tag ops) s = .next t ∧
          t.cfg = { s.cfg with pumps := Tab.put s.cfg.pumps p c } ∧
          (c.enable = false → (t.pump p).mode = .disabled ∧
            t.dutyList old.sump = (s.dutyList old.sump).filter fun q => q ≠ p) ∧
          (c.enable = true → mode = .faulted → (t.pump p).mode = .faulted ∧ (t.pump p).fault = (s.pump p).fault) ∧
          (c.enable = true → mode ≠ .faulted → s.isGood c.runFeedback = false → (t.pump p).mode = .unknown) ∧
          (c.enable = true → old.enable = true → old.sump = c.sump → t.psc.duty = s.psc.duty) ∧
          (c.enable = true → old.enable = false ∨ old.sump ≠ c.sump →
            t.dutyList c.sump = ((s.dutyList c.sump).filter fun q => q ≠ p) ++ [p]) ∧
          (∀ q, old.enable = true → old.runPoint = some q → c.enable = false ∨ c.runPoint ≠ some q →
            t.override (some q) = none)))) ∧
    ∀ (k : SumpId) (c : PumpingCfg), parsePumping ops = some (k, c) →
      let done := answer tag 21 0 []
        { s with
          cfg := { s.cfg with pumping := Tab.put s.cfg.pumping k c }
          psc := { s.psc with
            step := Tab.put s.psc.step k ((Tab.get s.psc.step k).map fun n => min n (c.start.takeWhile fun x => x ≠ 0).length) } }
      exec (.pumpSetSumpSettings tag ops) s =
        (if c.runLimit < s.countPumps k PumpMode.claims then .next (answer tag 21 1 [] s) else .next done) ∧
      exec (.pumpSet tag (0 :: ops)) s = exec (.pumpSetSumpSettings tag ops) s

/-- What the Pump Scheduler does: the demand of a sump and the eligibility of a pump (R131, R132, Table 8-3), the evaluation, its
reduction and its posts (R133, R134), a stop, a confirmation and a command outcome (R136, R137, R139), a fault (R140), every point
event of a pump, with or without a change of state (R136, R137, R140, and R144 for an UNKNOWN pump), and the expiries of a pump's
timers (R136, R137, R138, R140). The model's choices: an UNSET staging step counts as 0 in a demand (log entry 23), the reduction of
a sump is judged once, after the whole (log entry 17), each post is judged before the next (log entry 24), of one stage event the
PSC evaluates before the GSQ (log entry 67), a pump QUEUED that faults in HELD is withdrawn too (log entry 63), the pumps of a sump
are stopped or withdrawn in ascending number (log entry 82), on a QUENCHED line the evaluation of a sump does nothing (R111, log
entry 79), an UNKNOWN pump faults with PUMP_FAULT before its re-derivation (log entry 71), a FAULTED one keeps its cause at a new
fault feedback 1 (log entry 73), and an expiry without a running timer changes nothing (log entry 3). The run time is kept in ms
(log entry 37). An UNKNOWN pump is re-derived at its point events in HELD too (log entry 97), a choice as well; that the PSC's
report that no pump is UNKNOWN is latched is DEDUCED (log entry 34). -/
def Obligations.PumpExpiries : Prop :=
  (∀ (s : State) (k : SumpId),
    let entry := fun (p : PumpId) (v : Word) => ∃ e, s.override (s.pumpCfg p).runPoint = some e ∧ e.value = v
    let available := (pumpIds.filter fun p => (s.pumpCfg p).enable && (s.pumpCfg p).sump == k).filter fun p => s.available p
    let n := (Tab.get s.psc.step k).getD 0
    let runs := (available.filter fun p => s.pumpEntry p 1).length
    let capped := fun wanted : Nat => min wanted (min (Tab.get s.cfg.pumping k).runLimit available.length)
    let high := Stage.closing.code ≤ s.stc.stage.code
    (∀ p v, s.pumpEntry p v = true ↔ entry p v) ∧
    (∀ p, s.available p = true ↔
      (s.pump p).mode ≠ .disabled ∧ (s.pump p).mode ≠ .unknown ∧ (s.pump p).mode ≠ .faulted ∧ ¬ entry p 0) ∧
    (∀ d, dataFor s.psc.data k = some d → ∀ p, (s.dutyList k).find? (fun q => s.available q) = some p →
      Stage.watch.code ≤ s.stc.stage.code → d.inflowGood = true ∨ d.inflowLimited = true →
      s.demand k = capped (max n (max ((d.controlInflow.toNat + (s.pumpCfg p).ratedFlow - 1) / (s.pumpCfg p).ratedFlow) runs))) ∧
    (s.stc.stage.code < Stage.watch.code ∨ dataFor s.psc.data k = none ∨ (∀ p ∈ s.dutyList k, s.available p = false) ∨
      (∀ d ∈ dataFor s.psc.data k, d.inflowGood = false ∧ d.inflowLimited = false) → s.demand k = capped (max n runs)) ∧
    (∀ p : PumpId,
      let starts := (s.pump p).startsInWindow < (s.pumpCfg p).startsPerHour
      s.eligible p = true ↔ ¬ entry p 0 ∧
        (((s.pump p).mode = .idle ∧ (high ∨ starts)) ∨
          ((s.pump p).mode = .resting ∧ (high ∨ ((s.pump p).stopReason = .shed ∧ starts))))) ∧
    (s.selection k =
      ((s.dutyList k).filter fun p => s.pumpEntry p 1) ++ (s.dutyList k).filter fun p => !s.pumpEntry p 1)) ∧
  (∀ (s : State) (k : SumpId),
    let demand := s.demand k
    let cleared := (s.pumpsOf k).foldl (fun u p => u.modPump p fun x => { x with postDeferred := false }) s
    let reduced := lauSettle (reduceSump k demand cleared)
    (s.flc.line = .quenched → evaluateSump k s = s) ∧
    (s.flc.line ≠ .quenched → evaluateSump k s = (reduced.selection k).foldl (fun u p => postPump k demand p u) reduced)) ∧
  (∀ (s : State) (a b : Stage),
    (s.stc.hold = .running → handleSignal (.stage a b) s =
      gsqEvaluate (evaluateSump 3 (evaluateSump 2 (evaluateSump 1 (evaluateSump 0 s))))) ∧
    (s.stc.hold ≠ .running → handleSignal (.stage a b) s = s)) ∧
  (∀ (s : State) (k : SumpId) (demand : Nat),
    let active := fun u : State => u.countPumps k PumpMode.active
    let stopped := (s.pumpsOf k).foldl (fun u p => pumpObeyStop p u) s
    let w := withdrawExcess k demand stopped
    let drops := (s.selection k).filter fun p => (s.pump p).mode == .queued && !s.pumpEntry p 1
    let candidates := (w.pumpsOf k).filter fun p => (w.pump p).mode == .running && !w.pumpEntry p 1
    (∀ p, s.pumpEntry p 0 = true →
      ((s.pump p).mode = .starting ∨ (s.pump p).mode = .running → pumpObeyStop p s = pumpStop p .override s) ∧
      ((s.pump p).mode = .queued →
        pumpObeyStop p s = pumpSettle p (withdraw (.pump p) s) ∧
        ∀ r ∈ (pumpObeyStop p s).lau.queue, r.device ≠ .pump p)) ∧
    (∀ p, s.pumpEntry p 0 = false → pumpObeyStop p s = s) ∧
    (s.RunLimitsKept → (s.dutyList k).Nodup → withdrawExcess k demand s =
      (drops.reverse.take (active s - demand)).foldl (fun u p => pumpSettle p (withdraw (.pump p) u)) s) ∧
    (active w ≤ demand → reduceSump k demand s = w) ∧
    (candidates = [] → reduceSump k demand s = w) ∧
    (demand < active w → ∀ p ∈ candidates,
      (∀ q ∈ candidates, q ≠ p → (w.pump p).sequence < (w.pump q).sequence) → reduceSump k demand s = pumpStop p .normal w)) ∧
  (∀ (s : State) (k : SumpId) (demand : Nat) (p : PumpId),
    let x := s.pump p
    let c := s.pumpCfg p
    let due := s.countPumps k PumpMode.active < demand ∧
      s.countPumps k PumpMode.claims < (Tab.get s.cfg.pumping k).runLimit ∧ s.eligible p = true
    let r : Request :=
      { device := .pump p, cls := 1, runKw := c.ratedKw, extra := ((c.startFactor - 100) * c.ratedKw + 99) / 100
        inrush := c.inrush, arrival := s.now }
    (¬ due → postPump k demand p s = s) ∧
    (due → (∀ e ∈ s.lau.queue, e.device ≠ .pump p) →
      (s.flc.line = .quenched ∨ 16 ≤ s.lau.queue.length →
        postPump k demand p s = s.modPump p fun y => { y with postDeferred := true }) ∧
      (s.flc.line ≠ .quenched → s.lau.queue.length < 16 → postPump k demand p s = lauSettle (pumpGo p .queued
        { s with
          lau := { s.lau with
            queue := (s.lau.queue.takeWhile fun e => e.cls ≤ 1) ++ r :: s.lau.queue.dropWhile fun e => e.cls ≤ 1
            judgeDue := true }
          psc := { s.psc with pumps := Tab.put s.psc.pumps p { x with offTimer := .stopped, postDeferred := false } } })))) ∧
  (∀ (s : State) (p : PumpId),
    let x := s.pump p
    let c := s.pumpCfg p
    let running := s.goodAt c.runFeedback 1 = true
    let stopped := s.goodAt c.runFeedback 0 = true
    let stands := fun (u t : State) => (∀ q, q ≠ p → t.pump q = u.pump q) ∧ t.gsq = u.gsq ∧ t.ltu = u.ltu ∧ t.upp = u.upp
    let commanded := fun (u t : State) (v : Word) =>
      t.flc = (commandPoint c.runPoint v u).flc ∧ t.pim = (commandPoint c.runPoint v u).pim
    let faults := fun (cause : Nat) (t : State) =>
      (t.pump p).mode = .faulted ∧ (t.pump p).fault = cause ∧ (t.pump p).stopReason = .fault ∧ (t.pump p).hourWindow = x.hourWindow ∧
      (t.pump p).startTimer = .stopped ∧ (t.pump p).stopTimer = .stopped ∧ (t.pump p).offTimer = .stopped ∧
      (∀ r ∈ t.lau.queue, r.device ≠ .pump p) ∧ Tab.get t.lau.pumpLoad p = 0 ∧ t.psc.duty = s.psc.duty ∧
      t.upp = (raiseNotice 13 [word (p.val + 1), word cause, word x.mode.code] s).upp ∧ (∀ q, q ≠ p → t.pump q = s.pump q) ∧
      if s.stc.hold = .held then t.flc = s.flc else commanded s t 0
    (∀ mode : PumpMode,
      let t := pumpGo p mode s
      stands s t ∧ t.flc = s.flc ∧ t.psc.duty = s.psc.duty ∧
      t.pump p =
        { x with
          mode := mode
          runMs := if x.mode = .running ∧ mode ≠ .running then x.runMs + (s.now - x.runningSince.getD s.now) else x.runMs
          runningSince := if mode ≠ .running then none else if x.mode = .running then x.runningSince else some s.now } ∧
      t.lau.pumpLoad = Tab.put s.lau.pumpLoad p
        (if mode = .starting ∨ mode = .running ∨ mode = .stopping then c.ratedKw else 0) ∧
      t.lau.startOrder =
        (if mode = .starting ∨ mode = .running then
          if p ∈ s.lau.startOrder then s.lau.startOrder else s.lau.startOrder ++ [p]
        else s.lau.startOrder.filter fun q => q ≠ p) ∧
      (t.stc.pscReady = true ↔ s.stc.pscReady = true ∨ ∀ q, (t.pump q).mode ≠ .unknown)) ∧
    (∀ reason : StopReason,
      (x.mode = .starting ∨ x.mode = .running → let t := pumpStop p reason s
        stands s t ∧ commanded s t 0 ∧
        (t.pump p).mode = .stopping ∧ (t.pump p).stopReason = reason ∧ (t.pump p).startTimer = .stopped ∧
        (t.pump p).stopTimer = .running (s.now + 1000 * c.stopConfirm) ∧ Tab.get t.lau.pumpLoad p = c.ratedKw ∧
        p ∉ t.lau.startOrder ∧ t.psc.duty = s.psc.duty) ∧
      (x.mode ≠ .starting → x.mode ≠ .running → pumpStop p reason s = s)) ∧
    (x.mode = .starting → running →
      pumpConfirm p s = pumpGo p .running (s.modPump p fun y => { y with startTimer := .stopped })) ∧
    (x.mode = .stopping → stopped → let t := pumpConfirm p s
      stands s t ∧ t.flc = s.flc ∧
      (t.pump p).mode = (if 0 < c.minimumOff ∨ s.startLimit p = true then .resting else .idle) ∧
      (t.pump p).stopTimer = .stopped ∧ (t.pump p).lastStop = some s.now ∧ Tab.get t.lau.pumpLoad p = 0 ∧
      (t.pump p).offTimer = (if 0 < c.minimumOff then .running (s.now + 1000 * c.minimumOff) else .stopped) ∧
      t.psc.duty = if x.stopReason = .normal then
        Tab.put s.psc.duty c.sump ((s.dutyList c.sump).filter (fun q => q ≠ p) ++ [p]) else s.psc.duty) ∧
    (¬ (x.mode = .starting ∧ running) → ¬ (x.mode = .stopping ∧ stopped) → pumpConfirm p s = s) ∧
    (∀ (failed : Bool) (sent confirmed : Word),
      (x.mode = .disabled ∨ x.mode = .faulted → pumpOutcome p failed sent confirmed s = s) ∧
      (x.mode ≠ .disabled → x.mode ≠ .faulted →
        (failed = true ∨ sent ≠ confirmed → faults 4 (pumpOutcome p failed sent confirmed s)) ∧
        (failed = false → sent = confirmed → pumpOutcome p failed sent confirmed s = pumpConfirm p s))) ∧
    (∀ ev : PointEvent,
      (c.enable = false ∨ x.mode = .disabled → pumpPointEvent p ev s = s) ∧
      (c.enable = true → c.runFeedback = some ev.point →
        let resting := x.mode = .idle ∨ x.mode = .queued ∨ x.mode = .resting
        let judged := ev.valueChanged = true ∧ s.stc.hold ≠ .held
        (x.mode = .starting ∨ x.mode = .stopping → pumpPointEvent p ev s = pumpConfirm p s) ∧
        (x.mode = .unknown → pumpPointEvent p ev s = pumpRederive p s) ∧
        (judged → resting → running → faults 5 (pumpPointEvent p ev s)) ∧
        (judged → x.mode = .running → stopped → faults 6 (pumpPointEvent p ev s)) ∧
        (judged → x.mode = .faulted → running → pumpPointEvent p ev s = commandPoint c.runPoint 0 s) ∧
        (x.mode ≠ .starting → x.mode ≠ .stopping → x.mode ≠ .unknown →
          ¬ (judged ∧ ((resting ∨ x.mode = .faulted) ∧ running ∨ x.mode = .running ∧ stopped)) → pumpPointEvent p ev s = s)) ∧
      (c.enable = true → c.runFeedback ≠ some ev.point →
        let found := c.faultFeedback = some ev.point ∧ ev.valueChanged = true ∧ s.goodAt c.faultFeedback 1 = true
        (found → x.mode ≠ .disabled → x.mode ≠ .faulted → faults 1 (pumpPointEvent p ev s)) ∧
        (found → x.mode = .faulted → pumpPointEvent p ev s = s) ∧ (¬ found → pumpPointEvent p ev s = s)))) ∧
  ∀ (p : PumpId) (s : State), s.AtRest →
    let faultedAt := fun (d cause : Nat) (o : Host.Outcome State Fault Refusal) => ∃ t, o = .next t ∧
      (t.pump p).mode = .faulted ∧ (t.pump p).fault = cause ∧ (t.pump p).stopReason = .fault ∧
      (t.pump p).startTimer = .stopped ∧ (t.pump p).stopTimer = .stopped ∧ (t.pump p).offTimer = .stopped ∧
      (∀ r ∈ t.lau.queue, r.device ≠ .pump p) ∧ t.steady = State.steady { s with now := max s.now d }
    (∀ d : Nat, (s.pump p).startTimer = .running d →
      let u := { s with now := max s.now d }
      ((s.pump p).mode = .starting → faultedAt d 2 (exec (.pumpStartConfirmExpiry p) s)) ∧
      ((s.pump p).mode ≠ .starting →
        exec (.pumpStartConfirmExpiry p) s = .next (u.modPump p fun x => { x with startTimer := .stopped }))) ∧
    (∀ d : Nat, (s.pump p).stopTimer = .running d →
      let u := { s with now := max s.now d }
      ((s.pump p).mode = .stopping → faultedAt d 3 (exec (.pumpStopConfirmExpiry p) s)) ∧
      ((s.pump p).mode ≠ .stopping →
        exec (.pumpStopConfirmExpiry p) s = .next (u.modPump p fun x => { x with stopTimer := .stopped }))) ∧
    (∀ d : Nat, (s.pump p).offTimer = .running d ∨ (s.pump p).hourWindow = .running d →
      let c := s.pumpCfg p
      let u := { s with now := max s.now d }
      let off := ∃ l, (s.pump p).lastStop = some l ∧ u.now - l < 1000 * c.minimumOff
      let limit := (∃ e, (s.pump p).hourWindow = .running e) ∧ c.startsPerHour ≤ (s.pump p).startsInWindow
      let settled := fun (held : Prop) (o : Host.Outcome State Fault Refusal) => ∃ t, o = .next t ∧
        (held → (t.pump p).mode = .resting) ∧ (¬ held → (t.pump p).mode = .idle) ∧
        (∀ l, (s.pump p).lastStop = some l → off → (t.pump p).offTimer = .running (l + 1000 * c.minimumOff)) ∧
        (¬ off → (t.pump p).offTimer = .stopped) ∧ (∀ q, q ≠ p → t.pump q = s.pump q) ∧
        t.lau = s.lau ∧ t.flc = s.flc ∧ t.gsq = s.gsq ∧ t.ltu = s.ltu ∧ t.steady = u.steady
      ((s.pump p).offTimer = .running d →
        ((s.pump p).mode ≠ .resting →
          exec (.pumpMinimumOffExpiry p) s = .next (u.modPump p fun x => { x with offTimer := .stopped })) ∧
        ((s.pump p).mode = .resting → s.LoadsAgree → settled (off ∨ limit) (exec (.pumpMinimumOffExpiry p) s))) ∧
      ((s.pump p).hourWindow = .running d →
        ((s.pump p).mode ≠ .resting → exec (.pumpHourWindowExpiry p) s =
          .next (u.modPump p fun x => { x with hourWindow := .stopped, startsInWindow := 0 })) ∧
        ((s.pump p).mode = .resting → s.LoadsAgree → settled off (exec (.pumpHourWindowExpiry p) s) ∧
          ∃ t, exec (.pumpHourWindowExpiry p) s = .next t ∧ (t.pump p).hourWindow = .stopped ∧ (t.pump p).startsInWindow = 0))) ∧
    ((∀ d : Nat, (s.pump p).startTimer ≠ .running d) → exec (.pumpStartConfirmExpiry p) s = .next s) ∧
    ((∀ d : Nat, (s.pump p).stopTimer ≠ .running d) → exec (.pumpStopConfirmExpiry p) s = .next s) ∧
    ((∀ d : Nat, (s.pump p).offTimer ≠ .running d) → exec (.pumpMinimumOffExpiry p) s = .next s) ∧
    ((∀ d : Nat, (s.pump p).hourWindow ≠ .running d) → exec (.pumpHourWindowExpiry p) s = .next s)

/-- PUMP_RESET (R141) and BARRIER_RESET (R162), with their ANSWERS; the re-derivation of a pump (R144, R145), of a barrier and of
the gate (R164, Table 9-6); and the whole of a leaving of HELD (R99). The model's readings: the minimum off timer of a pump found
stopped (log entry 25) and of a RESTING pump found running (log entry 86), the run time of a pump in ms (log entry 37), the fields
that a re-derivation keeps (log entry 94), a pump that it makes FAULTED (log entry 95), a re-derivation in HELD (log entry 97), the
whole clearance time held paused in HELD (log entry 30, R163), the notice and the STOP command of a re-derivation that finds both
limits SET (log entry 27), POST_DEFERRED of one in HELD (log entry 28) and its clearing by a re-derivation that ends the wait (log
entry 31), the drive command requested before the aspect command (log entry 46), the aspect commanded even when unchanged (log entry
43), the aspect last commanded (log entry 41), when an evaluation follows (log entry 44), a record with limits not both GOOD at a
leaving of HELD (log entry 48) or with a fault cause (log entry 65), the stop command of every FAULTED pump found running (log entry
64), a GOOD limit neither 0 nor 1 (log entry 76), the judgements and the order at a leaving of HELD, the shed order judged there and
a withdrawal judged before its device is derived (log entries 17, 18 and 68), and the place of the ANSWER of a BARRIER_RESET, behind
the frames of the re-derivation and the evaluation and before those of the events and judgements that follow (log entries 19 and
49). -/
def Obligations.DeviceResets : Prop :=
  (∀ (tag : Tag) (w : Word) (more : List Word) (s : State), s.Taking →
    (∀ p : PumpId, w.toNat = p.val + 1 →
      let c := s.pumpCfg p
      let fit := (s.pump p).mode = .faulted ∧ s.goodAt c.runFeedback 0 = true ∧
        ∀ q, c.faultFeedback = some q → (s.point q).raw ≠ 1
      (¬ fit → exec (.pumpReset tag (w :: more)) s = .next (answer tag 55 3 [] s)) ∧
      (fit → s.LoadsAgree → ∃ t, exec (.pumpReset tag (w :: more)) s = .next t ∧
        ((t.pump p).mode = .idle ∨ (t.pump p).mode = .resting) ∧ (t.pump p).fault = 0 ∧
        (∀ q, q ≠ p → t.pump q = s.pump q) ∧ t.lau = s.lau ∧ t.flc = s.flc ∧ t.upp = (answer tag 55 0 [] s).upp ∧
        t.steady = State.steady (answer tag 55 0 [] s))) ∧
    (w = 0 ∨ 8 < w.toNat → exec (.pumpReset tag (w :: more)) s = .next (answer tag 55 2 [] s)) ∧
    exec (.pumpReset tag []) s = .next (answer tag 55 2 [] s) ∧
    (∀ b : BarrierId, w.toNat = b.val + 1 →
      let c := s.barrierCfg b
      let mode := (s.barrier b).mode
      let faulted := mode = .faultTravel ∨ mode = .faultObstructed ∨ mode = .faultLimits
      let fit := s.isGood c.openLimit = true ∧ s.isGood c.closedLimit = true ∧
        ¬ (s.limitSet c.openLimit = true ∧ s.limitSet c.closedLimit = true)
      let derived := barrierRederive b (s.modBarrier b fun y => { y with fault := 0, reversals := 0 })
      (faulted → fit →
        exec (.barrierReset tag (w :: more)) s = .next (quiesce (answer tag 56 0 []
          (if s.stc.hold = .running then barrierEval b derived else derived))) ∧
        ∃ t, exec (.barrierReset tag (w :: more)) s = .next t ∧ (t.barrier b).fault = 0 ∧ (t.barrier b).reversals = 0 ∧
          (t.barrier b).mode.isFault = false ∧ (answer tag 56 0 [] s).upp.upstream <+: t.upp.upstream ∧
          t.steady = State.steady (answer tag 56 0 [] s)) ∧
      (faulted → ¬ fit → exec (.barrierReset tag (w :: more)) s = .next (answer tag 56 3 [] s)) ∧
      (mode = .closing ∨ mode = .reversing ∨ mode = .opening →
        exec (.barrierReset tag (w :: more)) s = .next (answer tag 56 1 [] s)) ∧
      (¬ faulted → mode ≠ .closing → mode ≠ .reversing → mode ≠ .opening →
        ((s.barrier b).headFault = false → exec (.barrierReset tag (w :: more)) s = .next (answer tag 56 3 [] s)) ∧
        ((s.barrier b).headFault = true →
          (s.aspectWanted b = none → exec (.barrierReset tag (w :: more)) s =
            .next (answer tag 56 3 [] (s.modBarrier b fun y => { y with aspect := none, aspectSent := none }))) ∧
          ∀ a, s.aspectWanted b = some a →
            (s.flc.line = .quenched → exec (.barrierReset tag (w :: more)) s =
              .next (answer tag 56 3 [] (s.modBarrier b fun y => { y with aspect := some a }))) ∧
            (s.flc.line ≠ .quenched → exec (.barrierReset tag (w :: more)) s =
              .next (answer tag 56 3 [] (commandPoint c.head (BitVec.ofNat 16 a.code)
                (s.modBarrier b fun y => { y with aspect := some a, aspectSent := some a }))))))) ∧
    (w = 0 →
      let c := s.cfg.gate
      let mode := s.gsq.gate.mode
      let fit := s.isGood c.openLimit = true ∧ s.isGood c.closedLimit = true ∧
        ¬ (s.limitSet c.openLimit = true ∧ s.limitSet c.closedLimit = true)
      let derived := gateRederive (s.modGate fun y => { y with fault := 0 })
      (mode = .fault → fit →
        exec (.barrierReset tag (w :: more)) s = .next (quiesce (answer tag 56 0 []
          (if s.stc.hold = .running then gateEval derived else derived))) ∧
        ∃ t, exec (.barrierReset tag (w :: more)) s = .next t ∧ t.gsq.gate.fault = 0 ∧
          t.gsq.gate.mode ≠ .fault ∧ (answer tag 56 0 [] s).upp.upstream <+: t.upp.upstream ∧
          t.steady = State.steady (answer tag 56 0 [] s)) ∧
      (mode = .fault → ¬ fit → exec (.barrierReset tag (w :: more)) s = .next (answer tag 56 3 [] s)) ∧
      (mode = .closing ∨ mode = .opening → exec (.barrierReset tag (w :: more)) s = .next (answer tag 56 1 [] s)) ∧
      (mode ≠ .fault → mode ≠ .closing → mode ≠ .opening →
        exec (.barrierReset tag (w :: more)) s = .next (answer tag 56 3 [] s))) ∧
    (4 < w.toNat → exec (.barrierReset tag (w :: more)) s = .next (answer tag 56 2 [] s)) ∧
    exec (.barrierReset tag []) s = .next (answer tag 56 2 [] s)) ∧
  (∀ (p : PumpId) (s : State),
    let x := s.pump p
    let c := s.pumpCfg p
    let running := s.goodAt c.runFeedback 1 = true
    let stopped := s.goodAt c.runFeedback 0 = true
    let faulty := x.fault ≠ 0 ∨ s.goodAt c.faultFeedback 1 = true
    let becomes := fun (t : State) (y : PumpState) => t.pump p = y ∧ (∀ q, q ≠ p → t.pump q = s.pump q) ∧
      t.psc.duty = s.psc.duty ∧ t.gsq = s.gsq ∧ t.ltu = s.ltu ∧
      Tab.get t.lau.pumpLoad p = (if y.mode = .running then c.ratedKw else 0) ∧ (p ∈ t.lau.startOrder ↔ y.mode = .running)
    let commands := fun (t : State) (stop : Prop) =>
      (stop → t.flc = (commandPoint c.runPoint 0 s).flc ∧ t.pim = (commandPoint c.runPoint 0 s).pim) ∧
      (¬ stop → t.flc = s.flc ∧ t.pim = s.pim)
    let found := fun t : State =>
      (s.countPumps c.sump PumpMode.claims < (s.pumpingCfg c.sump).runLimit →
        becomes t { x with mode := .running, sequence := s.psc.startSeq + 1, offTimer := .stopped, runningSince := some s.now } ∧
        t.psc.startSeq = s.psc.startSeq + 1 ∧ t.upp = s.upp ∧ commands t False) ∧
      ((s.pumpingCfg c.sump).runLimit ≤ s.countPumps c.sump PumpMode.claims →
        becomes t { x with mode := .faulted, fault := 7, stopReason := .fault, startTimer := .stopped, stopTimer := .stopped
                           offTimer := .stopped, runningSince := none } ∧
        t.upp = (raiseNotice 13 [word (p.val + 1), 7, word x.mode.code] s).upp ∧ commands t (s.stc.hold ≠ .held))
    (x.mode ≠ .unknown ∨ s.isGood c.runFeedback = false → pumpRederive p s = s) ∧
    (x.mode = .unknown → running ∨ stopped → let t := pumpRederive p s;
      (faulty →
        becomes t { x with mode := .faulted, fault := if x.fault = 0 then 1 else x.fault, stopReason := .fault, runningSince := none } ∧
        commands t (running ∧ s.stc.hold ≠ .held) ∧
        t.upp = if x.fault = 0 then (raiseNotice 13 [word (p.val + 1), 1, word x.mode.code] s).upp else s.upp) ∧
      (¬ faulty → running → found t) ∧
      (¬ faulty → stopped → becomes t { x with mode := .idle, runningSince := none } ∧ commands t False ∧ t.upp = s.upp)) ∧
    (let t := pumpHoldFirst p s;
      (x.mode = .running → stopped →
        becomes t { x with mode := .resting, stopReason := .normal, lastStop := some s.now
                           offTimer := .running (s.now + 1000 * c.minimumOff)
                           runMs := x.runMs + (s.now - x.runningSince.getD s.now), runningSince := none } ∧
        commands t False ∧ t.upp = s.upp) ∧
      (x.mode = .faulted → running → t = commandPoint c.runPoint 0 s) ∧
      (¬ (x.mode = .running ∧ stopped) → ¬ (x.mode = .faulted ∧ running) → t = s)) ∧
    (let t := pumpHoldSecond p s;
      (x.mode = .idle ∨ x.mode = .resting → running → found t) ∧ (x.mode = .unknown → t = pumpRederive p s) ∧
      (x.mode ≠ .unknown → ¬ ((x.mode = .idle ∨ x.mode = .resting) ∧ running) → t = s))) ∧
  (∀ (b : BarrierId) (s : State),
    let x := s.barrier b
    let c := s.barrierCfg b
    let t := barrierRederive b s
    let openSet := s.limitSet c.openLimit = true
    let closedSet := s.limitSet c.closedLimit = true
    let good := s.isGood c.openLimit = true ∧ s.isGood c.closedLimit = true
    let becomes := fun (stop : Bool) (y : BarrierState) =>
      { t.barrier b with aspect := none, aspectSent := none } = { y with aspect := none, aspectSent := none } ∧
      (t.barrier b).aspect = t.aspectWanted b ∧ (∀ o, o ≠ b → t.barrier o = s.barrier o) ∧ t.gsq.gate = s.gsq.gate ∧
      t.psc = s.psc ∧ t.ltu = s.ltu ∧ Tab.get t.lau.motorLoad (b.castLE (by decide)) = 0 ∧
      let v := if stop = true then commandPoint c.drive 0 s else s
      let h := match t.aspectWanted b with
        | some a => commandPoint c.head (BitVec.ofNat 16 a.code) v
        | none => v
      t.flc = h.flc ∧ t.pim = h.pim
    (¬ good → t = s) ∧
    (good → x.fault ≠ 0 → t.upp = s.upp ∧ t.lau.queue = s.lau.queue ∧ becomes false
      { x with mode := if x.fault = 2 then .faultObstructed else if x.fault = 3 ∨ x.fault = 4 then .faultLimits else .faultTravel }) ∧
    (good → x.fault = 0 →
      (openSet → closedSet → (∀ r ∈ t.lau.queue, r.device ≠ .barrier b) ∧
        t.upp = (raiseNotice 14 [word (b.val + 1), 3, word x.mode.code] s).upp ∧
        becomes true { x with mode := .faultLimits, fault := 3, warnTimer := .stopped, clearTimer := .stopped
                              travelTimer := .stopped, postDeferred := false }) ∧
      (¬ (openSet ∧ closedSet) → t.upp = s.upp) ∧
      (openSet → ¬ closedSet → t.lau.queue = s.lau.queue ∧ becomes true { x with mode := .opened, postDeferred := false }) ∧
      (¬ openSet → closedSet → t.lau.queue = s.lau.queue ∧ becomes true { x with mode := .closed, postDeferred := false }) ∧
      (¬ openSet → ¬ closedSet → s.closureDemand b = true → t.lau.queue = s.lau.queue ∧
        becomes false
          { x with
            mode := .clearing, warnTimer := .stopped, postDeferred := false
            clearTimer := if s.barrierClear b = false then .stopped
              else if s.stc.hold = .held then .paused (1000 * c.clearance) else .running (s.now + 1000 * c.clearance) }) ∧
      (¬ openSet → ¬ closedSet → s.closureDemand b = false →
        let r : Request :=
          { device := .barrier b, cls := 2, runKw := c.motorKw, extra := ((s.cfg.supply.motorFactor - 100) * c.motorKw + 99) / 100
            inrush := 2, arrival := s.now }
        let put := if s.stc.hold = .held ∨ s.flc.line = .quenched then none else postQueue r s.lau.queue
        t.lau.queue = put.getD s.lau.queue ∧ becomes false { x with mode := .queuedOpen, postDeferred := put.isNone })) ∧
    (x.mode ≠ .unknown → barrierRederiveUnknown b s = s) ∧
    (x.mode = .unknown →
      let followed := s.stc.hold = .running ∧
        ((t.barrier b).mode = .opened ∨ (t.barrier b).mode = .closed ∨ (t.barrier b).mode = .clearing)
      (followed → barrierRederiveUnknown b s = barrierEval b t) ∧ (¬ followed → barrierRederiveUnknown b s = t)) ∧
    let standing := x.mode ∈ [BarrierMode.opened, .warning, .clearing, .queuedClose, .closed, .queuedOpen]
    let on := fun y : Timer => match y with
      | .paused r => Timer.running (s.now + r)
      | _ => y
    (¬ standing → barrierHoldLeave b s = s) ∧
    (standing → ¬ good → barrierHoldLeave b s =
      s.modBarrier b fun y => { y with warnTimer := on y.warnTimer, clearTimer := on y.clearTimer }) ∧
    (standing → good → barrierHoldLeave b s = barrierRederive b (lauSettle
      ((withdraw (.barrier b) s).modBarrier b fun y => { y with warnTimer := .stopped, clearTimer := .stopped })))) ∧
  (∀ s : State,
    let x := s.gsq.gate
    let c := s.cfg.gate
    let t := gateRederive s
    let openSet := s.limitSet c.openLimit = true
    let closedSet := s.limitSet c.closedLimit = true
    let good := s.isGood c.openLimit = true ∧ s.isGood c.closedLimit = true
    let becomes := fun (stop : Bool) (y : GateState) =>
      t.gsq.gate = y ∧ t.gsq.barriers = s.gsq.barriers ∧ t.psc = s.psc ∧ t.ltu = s.ltu ∧ Tab.get t.lau.motorLoad 4 = 0 ∧
      let v := if stop = true then commandPoint c.drive 0 s else s
      t.flc = v.flc ∧ t.pim = v.pim
    let queues := fun (mode : GateMode) (cls : Nat) =>
      let r : Request :=
        { device := .gate, cls := cls, runKw := c.motorKw, extra := ((s.cfg.supply.motorFactor - 100) * c.motorKw + 99) / 100
          inrush := 2, arrival := s.now }
      let put := if s.stc.hold = .held ∨ s.flc.line = .quenched then none else postQueue r s.lau.queue
      t.lau.queue = put.getD s.lau.queue ∧ becomes false { x with mode := mode, postDeferred := put.isNone }
    (¬ good → t = s) ∧
    (good → x.fault ≠ 0 → t.upp = s.upp ∧ t.lau.queue = s.lau.queue ∧ becomes false { x with mode := .fault }) ∧
    (good → x.fault = 0 →
      (openSet → closedSet → (∀ r ∈ t.lau.queue, r.device ≠ .gate) ∧
        t.upp = (raiseNotice 14 [0, 3, word x.mode.code] s).upp ∧
        becomes true { x with mode := .fault, fault := 3, dwellTimer := .stopped, travelTimer := .stopped, postDeferred := false }) ∧
      (¬ (openSet ∧ closedSet) → t.upp = s.upp) ∧
      (openSet → ¬ closedSet → t.lau.queue = s.lau.queue ∧ becomes true { x with mode := .opened, postDeferred := false }) ∧
      (¬ openSet → closedSet → t.lau.queue = s.lau.queue ∧ becomes true { x with mode := .closed, postDeferred := false }) ∧
      (¬ openSet → ¬ closedSet → s.closeTest = true → queues .queuedClose 0) ∧
      (¬ openSet → ¬ closedSet → s.closeTest = false → queues .queuedOpen 2)) ∧
    (x.mode ≠ .unknown → gateRederiveUnknown s = s) ∧
    (x.mode = .unknown →
      let followed := s.stc.hold = .running ∧ (t.gsq.gate.mode = .opened ∨ t.gsq.gate.mode = .closed)
      (followed → gateRederiveUnknown s = gateEval t) ∧ (¬ followed → gateRederiveUnknown s = t)) ∧
    let standing := x.mode ∈ [GateMode.opened, .queuedClose, .closed, .queuedOpen]
    (¬ standing → gateHoldLeave s = s) ∧
    (standing → ¬ good → gateHoldLeave s = s.modGate fun y =>
      { y with dwellTimer := match y.dwellTimer with
          | .paused r => .running (s.now + r)
          | d => d }) ∧
    (standing → good → gateHoldLeave s =
      gateRederive (lauSettle ((withdraw .gate s).modGate fun y => { y with dwellTimer := .stopped })))) ∧
  ∀ s : State,
    (∀ z : ZoneId,
      ((s.zone z).mode = .disabled → zoneHoldLeave z s = s) ∧
      ((s.zone z).mode ≠ .disabled → zoneHoldLeave z s = zoneRederive z (lauSettle (withdraw (.zone z) s)))) ∧
    let judged := lauSettle { s with lau := { s.lau with judgeDue := true } }
    let freed := (List.finRange 8).foldl (fun u p => lauSettle (pumpHoldFirst p u)) judged
    let pumps := (List.finRange 8).foldl (fun u p => lauSettle (pumpHoldSecond p u)) freed
    let barriers := (List.finRange 4).foldl (fun u b => lauSettle (barrierHoldLeave b u)) pumps
    rederiveAll s =
      quiesce ((List.finRange 6).foldl (fun u z => lauSettle (zoneHoldLeave z u)) (lauSettle (gateHoldLeave barriers)))

/-! ## Barriers, the gate and the zones -/

/-- BARRIER_SET (R148), GATE_SET (R159) and ZONE_SET (R167): what their operand words spell (Tables 9-1, 9-5 and 10-1), and what
each does, with its ANSWER, the withdrawn Start Queue request, the stopped timers, POST_DEFERRED and the re-derivation from GOOD
limits. What a ZONE_SET keeps of the zone is the model's choice (log entry 84), and so are the withdrawal in HELD (log entry 74),
what a barrier or gate disabled in a fault state keeps (log entry 75), that a BARRIER_SET keeps the head fault flag and the reversal
count (log entry 87), what becomes of the aspect last commanded (log entry 41), the events of other blocks after the ANSWER (log
entries 19 and 49) and the judgement of a withdrawal, before its device is derived and before the ANSWER (log entries 17 and 49).
That RANGE is answered before BUSY is the model's reading (log entry 20), and so is that the drive and head points of one barrier
may change places (log entry 52). -/
def Obligations.DeviceSettings : Prop :=
  (∀ (barrier enable drive opened closed presence1 presence2 head kw warn clearance travel : Word) (more : List Word),
    let ops := barrier :: enable :: drive :: opened :: closed :: presence1 :: presence2 :: head :: kw :: warn :: clearance ::
      travel :: more
    (∀ b : BarrierId, barrier.toNat = b.val + 1 →
      let c : BarrierCfg :=
        { enable := enable == 1, drive := namedPoint drive, openLimit := namedPoint opened, closedLimit := namedPoint closed
          presence1 := namedPoint presence1, presence2 := namedPoint presence2, head := namedPoint head, motorKw := kw.toNat
          warn := warn.toNat, clearance := clearance.toNat, travel := travel.toNat }
      parseBarrier ops =
        if enable.toNat ≤ 1 ∧ (∀ w ∈ [drive, opened, closed, presence1, presence2, head], w.toNat ≤ 256) ∧
            (∀ w ∈ [warn, clearance, travel], 5 ≤ w.toNat ∧ w.toNat ≤ 120) ∧
            (enable = 1 → (∀ w ∈ [drive, opened, closed, presence1], w ≠ 256) ∧
              ([drive, opened, closed, presence1, presence2, head].filter fun w => w ≠ 256).Nodup) then
          some (b, c)
        else none) ∧
    (barrier = 0 ∨ 4 < barrier.toNat → parseBarrier ops = none)) ∧
  (∀ (enable drive opened closed outfall sump margin dwell kw travel : Word) (more : List Word),
    let ops := enable :: drive :: opened :: closed :: outfall :: sump :: margin :: dwell :: kw :: travel :: more
    (∀ k : SumpId, sump.toNat = k.val + 1 →
      let c : GateCfg :=
        { enable := enable == 1, drive := namedPoint drive, openLimit := namedPoint opened, closedLimit := namedPoint closed
          outfall := namedPoint outfall, linkedSump := k, margin := margin.toNat, openDwell := dwell.toNat, motorKw := kw.toNat
          travel := travel.toNat }
      parseGate ops =
        if enable.toNat ≤ 1 ∧ (∀ w ∈ [drive, opened, closed, outfall], w.toNat ≤ 256) ∧ margin.toNat ≤ 5000 ∧
            10 ≤ dwell.toNat ∧ dwell.toNat ≤ 3600 ∧ 5 ≤ travel.toNat ∧ travel.toNat ≤ 300 ∧
            (enable = 1 → (∀ w ∈ [drive, opened, closed, outfall], w ≠ 256) ∧ [drive, opened, closed, outfall].Nodup) then
          some c
        else none) ∧
    (sump = 0 ∨ 4 < sump.toNat → parseGate ops = none)) ∧
  (∀ (zone enable dim current luminance curve kw ratedCurrent safety ramp tolerance : Word) (more : List Word),
    let ops := zone :: enable :: dim :: current :: luminance :: curve :: kw :: ratedCurrent :: safety :: ramp :: tolerance :: more
    (∀ (z : ZoneId) (k : Fin 4), zone.toNat = z.val + 1 → curve.toNat = k.val →
      let c : ZoneCfg :=
        { enable := enable == 1, dim := namedPoint dim, current := namedPoint current, luminance := namedPoint luminance
          curve := k, ratedKw := kw.toNat, ratedCurrent := ratedCurrent.toNat, safety := safety.toNat, ramp := ramp.toNat
          tolerance := tolerance.toNat }
      parseZone ops =
        if enable.toNat ≤ 1 ∧ (∀ w ∈ [dim, current, luminance], w.toNat ≤ 256) ∧ ratedCurrent.toNat ≤ 32767 ∧
            safety.toNat ≤ 100 ∧ 1 ≤ ramp.toNat ∧ ramp.toNat ≤ 100 ∧ 1 ≤ tolerance.toNat ∧ tolerance.toNat ≤ 100 ∧
            (enable = 1 → dim ≠ 256 ∧ ([dim, current, luminance].filter fun w => w ≠ 256).Nodup) then
          some (z, c)
        else none) ∧
    (zone = 0 ∨ 6 < zone.toNat ∨ 3 < curve.toNat → parseZone ops = none)) ∧
  (∀ ops : List Word, (ops.length < 12 → parseBarrier ops = none) ∧ (ops.length < 10 → parseGate ops = none) ∧
    (ops.length < 11 → parseZone ops = none)) ∧
  ∀ (tag : Tag) (ops : List Word) (s : State), s.Altering →
    let commandable := fun (owners : List Owner) (o : Option PointId) =>
      ∀ q, o = some q → (s.pcfg q).kind = .command ∧ (ownerOf s.cfg q = .nobody ∨ ownerOf s.cfg q ∈ owners)
    let frames := fun u : State => u.upp.upstream.filter fun e => !e.frame.isNotice
    let done := fun op : Nat => frames (answer tag op 0 [] State.reset)
    let points := fun v : State => v.now = s.now ∧ v.stc.stage = s.stc.stage ∧ v.stc.hold = s.stc.hold ∧
      ∀ q, (v.point q).raw = (s.point q).raw ∧ (v.point q).quality = (s.point q).quality
    let ofKind := fun (k : PointKind) (o : Option PointId) => ∀ q, o = some q → (s.pcfg q).kind = k
    let released := fun (t : State) (was now : Bool) (old new : Option PointId) =>
      ∀ q, was = true → old = some q → now = false ∨ new ≠ some q → t.override (some q) = none
    (∀ (b : BarrierId) (c : BarrierCfg), parseBarrier ops = some (b, c) →
      let old := s.barrierCfg b
      let mode := (s.barrier b).mode
      let lawful := commandable [.barrier b, .signal b] c.drive ∧ commandable [.barrier b, .signal b] c.head ∧
        ∀ o ∈ [c.openLimit, c.closedLimit, c.presence1, c.presence2], ofKind .discrete o
      (c.enable = true → ¬ lawful → exec (.barrierSet tag ops) s = .next (answer tag 22 2 [] s)) ∧
      ((c.enable = true → lawful) →
        (mode.moves = true → exec (.barrierSet tag ops) s = .next (answer tag 22 1 [] s)) ∧
        (mode.moves = false → ∃ u : State, exec (.barrierSet tag ops) s = .next (quiesce (answer tag 22 0 [] u)) ∧
          let set := fun v : State => v.cfg = { s.cfg with barriers := Tab.put s.cfg.barriers b c } ∧ points v ∧
            (∀ o, o ≠ b → (∀ r ∈ s.lau.queue, r.device ≠ .barrier b) → v.barrier o = s.barrier o) ∧
            (mode.isFault = false ∨ c.enable = false → ∀ r ∈ v.lau.queue, r.device ≠ .barrier b)
          let x := { s.barrier b with
            warnTimer := .stopped, clearTimer := .stopped, travelTimer := .stopped, postDeferred := false
            aspect := none, aspectSent := none }
          (c.enable = false → set u ∧ u.barrier b = { x with mode := .disabled }) ∧
          (c.enable = true → mode.isFault = true → set u ∧ u.lau.queue = s.lau.queue ∧
            u.barrier b = { s.barrier b with
              aspectSent := if old.head = c.head then (s.barrier b).aspectSent else none }) ∧
          (c.enable = true → mode.isFault = false →
            ∃ h : State, u = barrierRederiveUnknown b h ∧ set h ∧ h.barrier b = { x with mode := .unknown })) ∧
        (mode.moves = false → (frames s).length < 16 →
          ∃ t, exec (.barrierSet tag ops) s = .next t ∧ frames t = frames s ++ done 22) ∧
        (mode.moves = false → ∃ t, exec (.barrierSet tag ops) s = .next t ∧
          t.cfg = { s.cfg with barriers := Tab.put s.cfg.barriers b c } ∧ t.now = s.now ∧ t.pmu.sets = s.pmu.sets ∧
          released t old.enable c.enable old.drive c.drive ∧ released t old.enable c.enable old.head c.head ∧
          (c.enable = false → (t.barrier b).mode = .disabled) ∧
          (c.enable = true → mode.isFault = true → (t.barrier b).mode = mode ∧ (t.barrier b).fault = (s.barrier b).fault) ∧
          (c.enable = true → mode.isFault = false → s.isGood c.openLimit = false ∨ s.isGood c.closedLimit = false →
            (t.barrier b).mode = .unknown)))) ∧
    (∀ c : GateCfg, parseGate ops = some c →
      let old := s.cfg.gate
      let mode := s.gsq.gate.mode
      let lawful := commandable [.gate] c.drive ∧ ofKind .discrete c.openLimit ∧ ofKind .discrete c.closedLimit ∧
        ofKind .analog c.outfall
      (c.enable = true → ¬ lawful → exec (.gateSet tag ops) s = .next (answer tag 23 2 [] s)) ∧
      ((c.enable = true → lawful) →
        (mode.moves = true → exec (.gateSet tag ops) s = .next (answer tag 23 1 [] s)) ∧
        (mode.moves = false → ∃ u : State, exec (.gateSet tag ops) s = .next (quiesce (answer tag 23 0 [] u)) ∧
          let set := fun v : State => v.cfg = { s.cfg with gate := c } ∧ points v ∧
            (mode ≠ .fault ∨ c.enable = false → ∀ r ∈ v.lau.queue, r.device ≠ .gate)
          let x := { s.gsq.gate with dwellTimer := .stopped, travelTimer := .stopped, postDeferred := false }
          (c.enable = false → set u ∧ u.gsq.gate = { x with mode := .disabled }) ∧
          (c.enable = true → mode = .fault → set u ∧ u.lau.queue = s.lau.queue ∧ u.gsq.gate = s.gsq.gate) ∧
          (c.enable = true → mode ≠ .fault →
            ∃ h : State, u = gateRederiveUnknown h ∧ set h ∧ h.gsq.gate = { x with mode := .unknown })) ∧
        (mode.moves = false → (frames s).length < 16 →
          ∃ t, exec (.gateSet tag ops) s = .next t ∧ frames t = frames s ++ done 23) ∧
        (mode.moves = false → ∃ t, exec (.gateSet tag ops) s = .next t ∧
          t.cfg = { s.cfg with gate := c } ∧ t.now = s.now ∧ t.pmu.sets = s.pmu.sets ∧
          released t old.enable c.enable old.drive c.drive ∧
          (c.enable = false → t.gsq.gate.mode = .disabled) ∧
          (c.enable = true → mode = .fault → t.gsq.gate.mode = .fault ∧ t.gsq.gate.fault = s.gsq.gate.fault) ∧
          (c.enable = true → mode ≠ .fault → s.isGood c.openLimit = false ∨ s.isGood c.closedLimit = false →
            t.gsq.gate.mode = .unknown)))) ∧
    ∀ (z : ZoneId) (c : ZoneCfg), parseZone ops = some (z, c) →
      let old := s.zoneCfg z
      let lawful := commandable [.zone z] c.dim ∧ ofKind .feedback c.current ∧ ofKind .analog c.luminance
      (c.enable = true → ¬ lawful → exec (.zoneSet tag ops) s = .next (answer tag 24 2 [] s)) ∧
      ((c.enable = true → lawful) → ∃ h : State,
        let followed := c.enable = true ∧ s.stc.hold ≠ .held ∧ s.flc.line ≠ .quenched
        exec (.zoneSet tag ops) s =
          .next (quiesce (answer tag 24 0 [] (zoneReport z (if followed then zoneRederive z h else h)))) ∧
        h.cfg = { s.cfg with zones := Tab.put s.cfg.zones z c } ∧ points h ∧ (∀ r ∈ h.lau.queue, r.device ≠ .zone z) ∧
        h.zone z =
          { s.zone z with
            mode := if c.enable = true then .unknown else .disabled, postDeferred := false, reserve := none, faultCounter := 0 }) ∧
      ((c.enable = true → lawful) → (frames s).length < 16 →
        ∃ t, exec (.zoneSet tag ops) s = .next t ∧ frames t = frames s ++ done 24) ∧
      ((c.enable = true → lawful) → ∃ t, exec (.zoneSet tag ops) s = .next t ∧
        t.cfg = { s.cfg with zones := Tab.put s.cfg.zones z c } ∧ t.now = s.now ∧ t.pmu.sets = s.pmu.sets ∧
        released t old.enable c.enable old.dim c.dim ∧
        (c.enable = false → (t.zone z).mode = .disabled) ∧
        (c.enable = true → s.stc.hold = .held ∨ s.flc.line = .quenched → (t.zone z).mode = .unknown) ∧
        (c.enable = true → s.stc.hold ≠ .held → s.flc.line ≠ .quenched →
          (t.zone z).mode ≠ .disabled ∧ (t.zone z).mode ≠ .unknown))

/-- What the Gate Sequencer does: demand, presence and limits (R149), the aspect wanted and its command (R157, Table 9-3), the
evaluation of a barrier with R155 (R150), its point events with the end of a movement and the reversal (R151, R153, R154, R156), the
tests, the evaluation and the end of a movement of the gate (R160, R161), and the expiries of the warn, clearance and travel timers
of a barrier (R151, R153) and of the open dwell and travel timers of the gate (R160, R161). The model's own readings: an expiry
without a running timer changes nothing (log entry 3), a post due in HELD waits with POST_DEFERRED (log entry 28), the limits are
judged at every event a record takes (log entry 29), the clearance time (log entry 30), a presence change in CLEARING in HELD (log
entry 92), the open dwell timer stopped at an accepted post of the gate (log entry 91), POST_DEFERRED, that of a CLOSED barrier
without OPENING DEMAND among it (log entry 31), what an evaluation does not decide on a QUENCHED line (R111, log entry 79), and the
order of the judgements at one event (log entry 47). -/
def Obligations.MovementExpiries : Prop :=
  (∀ (s : State) (b : BarrierId),
    let c := s.barrierCfg b
    let x := s.barrier b
    let entry := fun v : Word => ∃ e, s.override c.drive = some e ∧ e.value = v
    let closing := s.closureDemand b = true
    let opening := s.openingDemand b = true
    let clear := s.barrierClear b = true
    let closedSet := s.limitSet c.closedLimit = true
    let openSet := s.limitSet c.openLimit = true
    let full := s.flc.line = .quenched ∨ 16 ≤ s.lau.queue.length ∧ ∀ r ∈ s.lau.queue, r.device ≠ .barrier b
    let whole : Timer :=
      if s.stc.hold = .held then .paused (1000 * c.clearance) else .running (s.now + 1000 * c.clearance)
    let waiting := x.mode = .warning ∨ x.mode = .clearing ∨ x.mode = .queuedClose
    let frame := fun t : State =>
      (∀ o, o ≠ b → t.barrier o = s.barrier o) ∧ t.gsq.gate = s.gsq.gate ∧ t.psc = s.psc ∧ t.ltu = s.ltu ∧
      t.stc.stage = s.stc.stage ∧ (t.barrier b).aspect = t.aspectWanted b ∧
      Tab.get t.lau.motorLoad (b.castLE (by decide)) = if (t.barrier b).mode.moves = true then c.motorKw else 0
    let goes := fun (t : State) (mode : BarrierMode) => (t.barrier b).mode = mode ∧ frame t
    let driven := fun (t : State) (v : Word) =>
      ∀ q, c.drive = some q → c.head ≠ some q → s.flc.line ≠ .quenched →
        (t.point q).commanded = v ∧ (t.point q).command = .pending
    let moves := fun (t : State) (mode : BarrierMode) (v : Word) =>
      goes t mode ∧ driven t v ∧ (t.barrier b).travelTimer = .running (s.now + 1000 * c.travel)
    let ends := fun (t : State) (mode : BarrierMode) =>
      goes t mode ∧ driven t 0 ∧ (t.barrier b).travelTimer = .stopped
    let absent := fun t : State => ∀ r ∈ t.lau.queue, r.device ≠ .barrier b
    let queued := fun (t : State) (cls : Nat) => (t.barrier b).postDeferred = false ∧ ∃ r ∈ t.lau.queue,
      r.device = .barrier b ∧ r.cls = cls ∧ r.runKw = c.motorKw ∧
      r.extra = ((s.cfg.supply.motorFactor - 100) * c.motorKw + 99) / 100 ∧ r.inrush = 2
    let faults := fun (t : State) (mode : BarrierMode) (cause : Nat) =>
      goes t mode ∧ driven t 0 ∧ absent t ∧ (t.barrier b).fault = cause ∧ (t.barrier b).warnTimer = .stopped ∧
      (t.barrier b).clearTimer = .stopped ∧ (t.barrier b).travelTimer = .stopped ∧ (t.barrier b).postDeferred = false ∧
      t.upp = (raiseNotice 14 [word (b.val + 1), word cause, word x.mode.code] s).upp
    (closing ↔ s.stc.stage = .closing ∨ s.stc.stage = .closed ∨ entry 2) ∧
    (opening ↔ ¬ closing ∧ (s.stc.stage = .reopening ∨ entry 1)) ∧
    (clear ↔ ∀ q ∈ c.presence1.toList ++ c.presence2.toList, (s.point q).raw ≠ 1 ∧ (s.point q).quality = .good) ∧
    ((c.head = none ∨ x.mode = .disabled ∨ x.mode = .unknown → s.aspectWanted b = none) ∧
      (c.head ≠ none →
        (x.mode = .opened → s.override c.head = none →
          s.aspectWanted b = some (if Stage.alert.code ≤ s.stc.stage.code then .flashAmber else .dark)) ∧
        (x.mode = .opened → ∀ e, s.override c.head = some e → s.aspectWanted b = some (Aspect.ofCode e.value.toNat)) ∧
        (x.mode = .warning → s.aspectWanted b = some .flashAmber) ∧
        (x.mode = .closed ∨ x.mode = .queuedOpen → s.aspectWanted b = some .redFlooded) ∧
        (x.mode = .clearing ∨ x.mode = .queuedClose ∨ x.mode = .closing ∨ x.mode = .reversing ∨ x.mode = .opening ∨
          x.mode.isFault = true → s.aspectWanted b = some .steadyRed)) ∧
      ∀ afresh : Bool, let t := aspectJudge afresh b s;
        (t.barrier b).aspect = s.aspectWanted b ∧ (t.barrier b).mode = x.mode ∧ (∀ o, o ≠ b → t.barrier o = s.barrier o) ∧
        ∀ a, s.aspectWanted b = some a →
          (afresh = true ∨ x.aspectSent ≠ some a → s.flc.line ≠ .quenched → (t.barrier b).aspectSent = some a ∧
            t.flc = (commandPoint c.head (word a.code) s).flc ∧ t.pim = (commandPoint c.head (word a.code) s).pim) ∧
          (afresh = false → x.aspectSent = some a → t.flc = s.flc ∧ t.pim = s.pim)) ∧
    (let t := barrierAct b s;
      barrierEval b s =
        (if c.enable = false then s else aspectJudge false b (if s.flc.line = .quenched then s else t)) ∧
      (x.mode = .opened → closing → goes t .warning ∧ (t.barrier b).reversals = 0 ∧
        (t.barrier b).warnTimer = .running (s.now + 1000 * c.warn)) ∧
      (waiting → ¬ closing → goes t .opened ∧ absent t ∧ (t.barrier b).warnTimer = .stopped ∧
        (t.barrier b).clearTimer = .stopped ∧ (t.barrier b).postDeferred = false ∧ (t.barrier b).reversals = 0) ∧
      (x.mode = .clearing → closing → x.postDeferred = true → ¬ clear → t = s) ∧
      (x.mode = .clearing → closing → x.postDeferred = true → clear →
        (full → t = s) ∧ (¬ full → goes t .queuedClose ∧ queued t 0 ∧ (t.barrier b).clearTimer = .stopped)) ∧
      (x.mode = .closed → opening →
        (full → t = s.modBarrier b fun y => { y with postDeferred := true }) ∧ (¬ full → goes t .queuedOpen ∧ queued t 2)) ∧
      (x.mode = .closed → ¬ opening → t = s.modBarrier b fun y => { y with postDeferred := false }) ∧
      (x.mode = .queuedOpen → closing →
        (closedSet → goes t .closed ∧ absent t ∧ (t.barrier b).postDeferred = false) ∧
        (¬ closedSet → clear → goes t .queuedClose ∧ (¬ full → s.stc.hold ≠ .held → queued t 0) ∧
          (full ∨ s.stc.hold = .held → (t.barrier b).postDeferred = true)) ∧
        (¬ closedSet → ¬ clear → goes t .clearing ∧ absent t ∧ (t.barrier b).clearTimer = .stopped)) ∧
      (x.mode = .queuedOpen → ¬ closing → ¬ opening → closedSet → goes t .closed ∧ absent t) ∧
      (x.mode = .opening → closing → clear → moves t .closing 2 ∧ (t.barrier b).reversals = 0 ∧ t.lau.queue = s.lau.queue) ∧
      (x.mode.isFault = true ∨ x.mode = .disabled ∨ x.mode = .unknown ∨ x.mode = .closing ∨ x.mode = .reversing ∨
        (x.mode = .opened ∧ ¬ closing) ∨ (waiting ∧ closing ∧ x.postDeferred = false) ∨
        (x.mode = .queuedOpen ∧ ¬ closing ∧ (opening ∨ ¬ closedSet) ∧ x.postDeferred = false) ∨
        (x.mode = .opening ∧ ¬ (closing ∧ clear)) → t = s)) ∧
    (∀ ev : PointEvent, c.enable = true →
      let limit := c.openLimit = some ev.point ∨ c.closedLimit = some ev.point
      let presence := c.presence1 = some ev.point ∨ c.presence2 = some ev.point
      let enters := presence ∧ ev.oldRaw ≠ 1 ∧ ev.oldQuality = .good ∧
        ((s.point ev.point).raw = 1 ∨ (s.point ev.point).quality ≠ .good)
      let lost := s.stc.hold ≠ .held ∧
        (((x.mode = .opened ∨ x.mode = .warning ∨ x.mode = .clearing) ∧ s.limitUnset c.openLimit = true) ∨
          (x.mode = .closed ∧ s.limitUnset c.closedLimit = true))
      let follows := s.stc.hold = .running ∧ closing ∧ s.flc.line ≠ .quenched
      let t := barrierPointEvent b ev s
      (¬ limit → ¬ presence → t = s) ∧ (x.mode = .disabled ∨ x.mode.isFault = true → t = s) ∧
      (limit ∨ presence → x.mode ≠ .disabled → x.mode ≠ .unknown → x.mode.isFault = false →
        (openSet → closedSet → faults t .faultLimits 3) ∧
        (¬ (openSet ∧ closedSet) → lost → faults t .faultLimits 4) ∧
        (¬ (openSet ∧ closedSet) → ¬ lost →
          (x.mode = .clearing → enters → t = s.modBarrier b fun y => { y with clearTimer := .stopped, postDeferred := false }) ∧
          (x.mode = .clearing → clear → x.clearTimer = .stopped → t = s.modBarrier b fun y => { y with clearTimer := whole }) ∧
          (x.mode = .queuedClose → enters → s.stc.hold ≠ .held → goes t .clearing ∧ absent t ∧
            (t.barrier b).clearTimer = .stopped) ∧
          (x.mode = .closing → enters → ¬ limit → moves t .reversing 1 ∧ t.lau.queue = s.lau.queue) ∧
          (x.mode = .closing → limit → closedSet → ¬ enters → ends t .closed ∧ (t.barrier b).reversals = 0) ∧
          (x.mode = .opening → limit → openSet →
            (follows → ends t .warning) ∧ (¬ follows → ends t .opened)) ∧
          (x.mode = .reversing → limit → openSet →
            (¬ closing → ends t .opened ∧ (t.barrier b).reversals = 0) ∧
            (closing → x.reversals < 2 → ends t .clearing ∧ (t.barrier b).reversals = x.reversals + 1 ∧
              (t.barrier b).clearTimer = if clear then whole else .stopped) ∧
            (closing → 2 ≤ x.reversals → (t.barrier b).reversals = 3 ∧ (t.barrier b).travelTimer = .stopped ∧
              (t.barrier b).mode = .faultObstructed ∧ (t.barrier b).fault = 2 ∧ absent t)) ∧
          (x.mode = .opened ∨ x.mode = .warning ∨ x.mode = .closed ∨ x.mode = .queuedOpen → t = s))))) ∧
  (∀ s : State,
    let c := s.cfg.gate
    let x := s.gsq.gate
    let data := dataFor s.gsq.data c.linkedSump
    let entry := fun v : Word => ∃ e, s.override c.drive = some e ∧ e.value = v
    let outfall := fun o : Int => ∃ p, c.outfall = some p ∧ (s.point p).quality = .good ∧ (s.point p).raw.toInt = o
    let toClose := s.closeTest = true
    let toOpen := s.openTest = true
    let closedSet := s.limitSet c.closedLimit = true
    let full := s.flc.line = .quenched ∨ 16 ≤ s.lau.queue.length ∧ ∀ r ∈ s.lau.queue, r.device ≠ .gate
    let goes := fun (t : State) (mode : GateMode) => t.gsq.gate.mode = mode ∧ t.gsq.barriers = s.gsq.barriers ∧ t.psc = s.psc ∧
      t.ltu = s.ltu ∧ t.stc.stage = s.stc.stage ∧ Tab.get t.lau.motorLoad 4 = (if mode.moves = true then c.motorKw else 0) ∧
      ∀ k : SumpId, x.mode = .closed → mode ≠ .closed → (s.sumpCfg k).gateLink = true → (t.sump k).inflowGood = false
    let driven := fun (t : State) (v : Word) => t.flc = (commandPoint c.drive v s).flc ∧ t.pim = (commandPoint c.drive v s).pim
    let absent := fun t : State => ∀ r ∈ t.lau.queue, r.device ≠ .gate
    let posts := fun (t : State) (mode : GateMode) (cls : Nat) =>
      (full → t = s.modGate fun y => { y with postDeferred := true }) ∧
      (¬ full → goes t mode ∧ t.gsq.gate.postDeferred = false ∧ t.gsq.gate.dwellTimer = .stopped ∧ ∃ r ∈ t.lau.queue,
        r.device = .gate ∧ r.cls = cls ∧ r.runKw = c.motorKw ∧
        r.extra = ((s.cfg.supply.motorFactor - 100) * c.motorKw + 99) / 100 ∧ r.inrush = 2)
    (s.override c.drive = none →
      (∀ (o : Int) (d : SumpData), outfall o → data = some d →
        (toClose ↔ (d.filtered : Int) + c.margin ≤ o) ∧ (toOpen ↔ o ≤ (d.filtered : Int) - c.margin)) ∧
      ((∀ p ∈ c.outfall, (s.point p).quality ≠ .good) ∨ data = none → toClose ∧ ¬ toOpen)) ∧
    (s.override c.drive ≠ none → (toClose ↔ entry 2) ∧ (toOpen ↔ entry 1)) ∧
    (let t := gateEval s;
      (c.enable = false ∨ s.flc.line = .quenched → t = s) ∧
      (c.enable = true → s.flc.line ≠ .quenched →
        (x.mode = .opened → toClose → posts t .queuedClose 0) ∧
        (x.mode = .opened → ¬ toClose → t = s.modGate fun y => { y with postDeferred := false }) ∧
        (x.mode = .queuedOpen → toClose →
          (closedSet → goes t .closed ∧ absent t) ∧ (¬ closedSet → posts t .queuedClose 0)) ∧
        (x.mode = .opening → toClose →
          goes t .closing ∧ driven t 2 ∧ t.gsq.gate.travelTimer = .running (s.now + 1000 * c.travel)) ∧
        (x.mode = .closed →
          (entry 1 → posts t .queuedOpen 2) ∧
          (¬ entry 1 → toOpen → x.postDeferred = false →
            (x.dwellTimer = .stopped →
              t = s.modGate fun y => { y with dwellTimer := .running (s.now + 1000 * c.openDwell) }) ∧
            (x.dwellTimer ≠ .stopped → t = s)) ∧
          (¬ toOpen → t = s.modGate fun y => { y with dwellTimer := .stopped, postDeferred := false })) ∧
        (x.mode = .queuedClose → entry 1 → goes t .queuedOpen ∧ (s.stc.hold ≠ .held → ¬ full →
          ∃ r ∈ t.lau.queue, r.device = .gate ∧ r.cls = 2)) ∧
        (x.mode = .disabled ∨ x.mode = .unknown ∨ x.mode = .closing ∨ x.mode = .fault ∨ (x.mode = .opening ∧ ¬ toClose) ∨
          (x.mode = .queuedClose ∧ ¬ entry 1 ∧ x.postDeferred = false) ∨
          (x.mode = .queuedOpen ∧ ¬ toClose ∧ x.postDeferred = false) → t = s))) ∧
    (∀ ev : PointEvent, c.enable = true → c.openLimit = some ev.point ∨ c.closedLimit = some ev.point →
      let openSet := s.limitSet c.openLimit = true
      let t := gatePointEvent ev s
      let faults := fun cause : Nat => goes t .fault ∧ t.gsq.gate.fault = cause ∧ absent t ∧ driven t 0 ∧
        t.upp = (raiseNotice 14 [0, word cause, word x.mode.code] s).upp
      (x.mode ≠ .disabled → x.mode ≠ .unknown → x.mode ≠ .fault → openSet → closedSet → faults 3) ∧
      (¬ (openSet ∧ closedSet) →
        (s.stc.hold ≠ .held →
          (x.mode = .opened ∧ s.limitUnset c.openLimit = true) ∨ (x.mode = .closed ∧ s.limitUnset c.closedLimit = true) →
          faults 4) ∧
        (x.mode = .closing → closedSet → goes t .closed ∧ driven t 0 ∧
          t.gsq.gate.travelTimer = .stopped ∧ t.gsq.gate.dwellTimer = .stopped) ∧
        (x.mode = .opening → openSet → goes t .opened ∧ driven t 0 ∧ t.gsq.gate.travelTimer = .stopped)))) ∧
  ∀ s : State, s.AtRest →
    (∀ b : BarrierId,
      let c := s.barrierCfg b
      let mode := (s.barrier b).mode
      (∀ d : Nat, (s.barrier b).warnTimer = .running d →
        let u := { s with now := max s.now d }
        (mode ≠ .warning → exec (.barrierWarnExpiry b) s = .next (u.modBarrier b fun x => { x with warnTimer := .stopped })) ∧
        (mode = .warning → s.LoadsAgree → s.ReportsCurrent → ∃ t, exec (.barrierWarnExpiry b) s = .next t ∧
          (t.barrier b).mode = .clearing ∧ (t.barrier b).warnTimer = .stopped ∧
          (t.barrier b).clearTimer =
            (if s.barrierClear b = false then .stopped
              else if s.stc.hold = .held then .paused (1000 * c.clearance) else .running (u.now + 1000 * c.clearance)) ∧
          (∀ o, o ≠ b → t.barrier o = s.barrier o) ∧ t.lau = s.lau ∧ t.gsq.gate = s.gsq.gate ∧ t.stc.stage = s.stc.stage ∧
          t.steady = u.steady)) ∧
      (∀ d : Nat, (s.barrier b).clearTimer = .running d →
        let u := { s with now := max s.now d }
        let full := s.flc.line = .quenched ∨ 16 ≤ s.lau.queue.length ∧ ∀ r ∈ s.lau.queue, r.device ≠ .barrier b
        (mode ≠ .clearing →
          exec (.barrierClearanceExpiry b) s = .next (u.modBarrier b fun x => { x with clearTimer := .stopped })) ∧
        (mode = .clearing → s.stc.hold ≠ .held → full → exec (.barrierClearanceExpiry b) s =
          .next (u.modBarrier b fun x => { x with clearTimer := .stopped, postDeferred := true })) ∧
        (mode = .clearing → s.stc.hold ≠ .held → ¬ full → s.barrierClear b = true → s.ReportsCurrent →
          ∃ t, exec (.barrierClearanceExpiry b) s = .next t ∧ (t.barrier b).clearTimer = .stopped ∧
            ((t.barrier b).mode = .closing ∨
              (t.barrier b).mode = .queuedClose ∧ ∃ r ∈ t.lau.queue, r.device = .barrier b ∧ r.cls = 0) ∧
            t.stc.stage = s.stc.stage ∧ t.steady = u.steady)) ∧
      (∀ d : Nat, (s.barrier b).travelTimer = .running d →
        let u := { s with now := max s.now d }
        (mode.moves = false →
          exec (.barrierTravelExpiry b) s = .next (u.modBarrier b fun x => { x with travelTimer := .stopped })) ∧
        (mode.moves = true → ∃ t, exec (.barrierTravelExpiry b) s = .next t ∧
          (t.barrier b).mode = .faultTravel ∧ (t.barrier b).fault = 1 ∧ (t.barrier b).travelTimer = .stopped ∧
          t.steady = u.steady)) ∧
      ((∀ d : Nat, (s.barrier b).warnTimer ≠ .running d) → exec (.barrierWarnExpiry b) s = .next s) ∧
      ((∀ d : Nat, (s.barrier b).clearTimer ≠ .running d) → exec (.barrierClearanceExpiry b) s = .next s) ∧
      ((∀ d : Nat, (s.barrier b).travelTimer ≠ .running d) → exec (.barrierTravelExpiry b) s = .next s)) ∧
    (∀ d : Nat, s.gsq.gate.dwellTimer = .running d →
      let u := { s with now := max s.now d }
      let full := s.flc.line = .quenched ∨ 16 ≤ s.lau.queue.length ∧ ∀ r ∈ s.lau.queue, r.device ≠ .gate
      (s.gsq.gate.mode ≠ .closed →
        exec .gateOpenDwellExpiry s = .next (u.modGate fun x => { x with dwellTimer := .stopped })) ∧
      (s.gsq.gate.mode = .closed → s.stc.hold ≠ .held → full →
        exec .gateOpenDwellExpiry s = .next (u.modGate fun x => { x with dwellTimer := .stopped, postDeferred := true })) ∧
      (s.gsq.gate.mode = .closed → s.stc.hold ≠ .held → ¬ full → s.ReportsCurrent → ∃ t, exec .gateOpenDwellExpiry s = .next t ∧
        (t.gsq.gate.mode = .opening ∨
          t.gsq.gate.mode = .queuedOpen ∧ ∃ r ∈ t.lau.queue, r.device = .gate ∧ r.cls = 2) ∧
        (∀ k : SumpId, (s.sumpCfg k).gateLink = true → (t.sump k).inflowGood = false) ∧
        t.stc.stage = s.stc.stage ∧ t.steady = u.steady)) ∧
    (∀ d : Nat, s.gsq.gate.travelTimer = .running d →
      let u := { s with now := max s.now d }
      (s.gsq.gate.mode.moves = false →
        exec .gateTravelExpiry s = .next (u.modGate fun x => { x with travelTimer := .stopped })) ∧
      (s.gsq.gate.mode.moves = true → ∃ t, exec .gateTravelExpiry s = .next t ∧
        t.gsq.gate.mode = .fault ∧ t.gsq.gate.fault = 1 ∧ t.gsq.gate.travelTimer = .stopped ∧ t.steady = u.steady)) ∧
    ((∀ d : Nat, s.gsq.gate.dwellTimer ≠ .running d) → exec .gateOpenDwellExpiry s = .next s) ∧
    ((∀ d : Nat, s.gsq.gate.travelTimer ≠ .running d) → exec .gateTravelExpiry s = .next s)

/-- The curves (R168), the load and the restoration increment of a zone and their report (R119), the lighting evaluation with the
curve value and the target of every zone (R169), the ramp and the dimmer retry (R170), the restoration post and its update (R171),
the release of a reserve (R172), the judgement of the lamps (R173) and the re-derivation of a zone (R174); after an evaluation the
LAU holds the load and the increment of every zone as they stand. The model's choices: the lamps are judged after the ramp (log
entry 35), the curve value without a luminance point, or with one NEVER, is 100 while the curve is INVALID too (log entry 88), the
LAU judges after each zone (log entries 17 and 19), POST_DEFERRED is cleared when a SHED zone with increment 0 becomes NORMAL (log
entry 31), on a QUENCHED line no zone is acted on and every retry counter stands (R111, log entries 77 and 79), and an evaluation
without a running timer changes nothing and the clock moves to the deadline (log entry 3). The fields that a re-derivation leaves as
they stand are the model's choice (log entry 94). -/
def Obligations.LightingEvaluation : Prop :=
  (∀ (v : Vector (Option Breakpoint) 8) (l : List Breakpoint), validCurve v = some l ↔
    2 ≤ l.length ∧ v.toList = l.map some ++ List.replicate (8 - l.length) none ∧ l.Pairwise fun a b => a.x < b.x) ∧
  (∀ (v : Vector (Option Breakpoint) 8) (l before after : List Breakpoint) (a b : Breakpoint) (x : Nat), validCurve v = some l →
    (∀ rest, l = a :: rest → x < a.x → curveAt x l = a.y) ∧ (l = before ++ [a] → a.x ≤ x → curveAt x l = a.y) ∧
    (l = before ++ a :: b :: after → a.x ≤ x → x < b.x →
      (curveAt x l : Int) = a.y + ((b.y : Int) - a.y) * ((x : Int) - a.x) / ((b.x : Int) - a.x))) ∧
  (∀ (z : ZoneId) (s : State),
    let l := (s.zone z).level
    let g := (s.zone z).target
    let r := (s.zoneCfg z).ramp
    ((zoneRamp z s).zone z).level = if l ≤ g then min g (l + r) else max g (l - r)) ∧
  (∀ (z : ZoneId) (s : State),
    let x := s.zone z
    let c := s.zoneCfg z
    let measured := (c.current.map fun p => (s.point p).raw.toInt.toNat).getD 0
    let atLevel := fun level : Nat => (c.ratedKw * level + 99) / 100
    let bare : Nat :=
      if x.mode = .disabled then 0
      else if x.mode = .unknown then c.ratedKw
      else if s.isGood c.current = true ∧ 0 < c.ratedCurrent ∧ x.lampFault = false then
        (c.ratedKw * measured + c.ratedCurrent - 1) / c.ratedCurrent
      else atLevel x.level
    let inc := if x.mode = .shed ∨ x.mode = .restoreQueued then atLevel x.target - atLevel c.safety else 0
    (s.loadOf z = match x.reserve with
      | some r => max bare (atLevel r)
      | none => bare) ∧
    s.increment z = inc ∧
    (let t := zoneReport z s;
      { t with lau := s.lau } = s ∧
      t.lau =
        { s.lau with
          zoneLoad := Tab.put s.lau.zoneLoad z (s.loadOf z), restoration := Tab.put s.lau.restoration z inc
          judgeDue := t.lau.judgeDue } ∧
      (t.lau.judgeDue = false ↔ s.lau.judgeDue = false ∧ t.lau.committed = s.lau.committed ∧
        t.lau.lightingRestoration = s.lau.lightingRestoration)) ∧
    let retried := fun u : State =>
      if x.dimmerFault = true then
        if 9 ≤ x.retry then commandPoint c.dim (BitVec.ofNat 16 x.level) (u.modZone z fun y => { y with retry := 0 })
        else u.modZone z fun y => { y with retry := x.retry + 1 }
      else u
    let next := if x.level ≤ x.target then min x.target (x.level + c.ramp) else max x.target (x.level - c.ramp)
    let r : Request := { device := .zone z, cls := 3, runKw := inc, extra := 0, inrush := 0, arrival := s.now }
    let put := if s.flc.line = .quenched then none else postQueue r s.lau.queue
    let u := reserveCheck z (zoneTarget z s)
    let t := zoneAct z s
    (x.mode = .disabled → zoneEval true z s = s ∧ zoneEval false z s = s) ∧
    (x.mode ≠ .disabled → zoneEval false z s = zoneReport z (reserveCheck z u) ∧
      zoneEval true z s = zoneReport z (reserveCheck z (lampJudge z (reserveCheck z (zoneAct z u))))) ∧
    (x.mode = .disabled ∨ s.flc.line = .quenched → t = s) ∧
    (s.flc.line ≠ .quenched →
      (x.mode = .unknown → t = zoneRederive z s) ∧
      (x.mode = .normal → next = x.level → t = retried s) ∧
      (x.mode = .normal → next ≠ x.level →
        t = commandPoint c.dim (BitVec.ofNat 16 next) (s.modZone z fun y => { y with level := next, retry := 0 })) ∧
      (x.mode = .shed →
        (s.lau.shedDemand = true → t = retried s) ∧
        (s.lau.shedDemand = false → inc = 0 →
          t = retried (zoneReport z (s.modZone z fun y => { y with mode := .normal, postDeferred := false }))) ∧
        (s.lau.shedDemand = false → inc ≠ 0 →
          (put = none → t = retried (s.modZone z fun y => { y with postDeferred := true })) ∧
          ∀ q, put = some q → t = retried
            (({ s with lau := { s.lau with queue := q, judgeDue := true } } : State).modZone z fun y =>
              { y with mode := .restoreQueued, postDeferred := false }))) ∧
      (x.mode = .restoreQueued →
        (inc = 0 → t = retried ((withdraw (.zone z) s).modZone z fun y => { y with mode := .normal })) ∧
        (inc ≠ 0 → s.lau.entry (.zone z) = none → t = retried s) ∧
        (inc ≠ 0 → ∀ e, s.lau.entry (.zone z) = some e →
          (e.runKw = inc ∨ put = none → t = retried s) ∧
          (e.runKw ≠ inc → ∀ q, put = some q → t = retried { s with lau := { s.lau with queue := q, judgeDue := true } }))))) ∧
  (∀ (z : ZoneId) (s : State),
    let x := s.zone z
    let c := s.zoneCfg z
    let measured := (c.current.map fun p => (s.point p).raw.toInt.toNat).getD 0
    let expected := c.ratedCurrent * x.level / 100
    let judged := (x.mode = .normal ∨ x.mode = .shed ∨ x.mode = .restoreQueued) ∧ s.isGood c.current = true ∧
      0 < c.ratedCurrent ∧ ∃ p, c.dim = some p ∧ (s.point p).command = .confirmed
    let out := c.tolerance * c.ratedCurrent / 100 < (max measured expected) - (min measured expected)
    let changed := s.modZone z fun y => { y with lampFault := !y.lampFault, faultCounter := 0 }
    (reserveCheck z s = s.modZone z fun y =>
      { y with reserve := y.reserve.filter fun r => y.mode == .normal && decide (y.level < r) && decide (y.level ≤ y.target) }) ∧
    (¬ judged → lampJudge z s = s) ∧
    (judged →
      ((out ↔ x.lampFault = true) → lampJudge z s = s.modZone z fun y => { y with faultCounter := 0 }) ∧
      (¬ (out ↔ x.lampFault = true) →
        (x.faultCounter < 2 → lampJudge z s = s.modZone z fun y => { y with faultCounter := y.faultCounter + 1 }) ∧
        (2 ≤ x.faultCounter → lampJudge z s =
          if out then raiseNotice 15 [word (z.val + 1), 1, word measured, word expected] changed
          else raiseNotice 16 [word (z.val + 1), word measured, word expected] changed))) ∧
    (let t := zoneRederive z s;
      let found : Int :=
        if s.isGood c.current = true ∧ 0 < c.ratedCurrent ∧ x.lampFault = false then
          ((100 * measured + c.ratedCurrent - 1) / c.ratedCurrent : Nat)
        else match c.dim with
          | some p => if (s.point p).quality = .good then (s.point p).confirmed.toInt else x.target
          | none => x.target
      (s.lau.shedDemand = true → (t.zone z).mode = .shed ∧ (t.zone z).level = c.safety) ∧
      (s.lau.shedDemand = false → (t.zone z).mode = .normal ∧
        ((t.zone z).level : Int) = min 100 (max (c.safety : Int) found)) ∧
      (t.zone z).reserve = none ∧ (∀ y, y ≠ z → t.zone y = s.zone y) ∧
      t.flc = (commandPoint c.dim (BitVec.ofNat 16 (t.zone z).level) s).flc ∧ t.pim = (commandPoint c.dim (BitVec.ofNat 16 (t.zone z).level) s).pim)) ∧
  ∀ s : State, s.AtRest →
    (∀ d : Nat, s.ltu.timer = .running d → ∃ t, exec .lightingEvaluation s = .next t ∧
      t.steady = State.steady { s with now := max s.now d, ltu := { s.ltu with timer := .running (max s.now d + 1000) } } ∧
      t = quiesce ((List.finRange 6).foldl (fun u z => lauSettle (zoneEval (s.stc.hold == .running) z u))
        { s with now := max s.now d, ltu := { s.ltu with timer := .running (max s.now d + 1000) } }) ∧
      (∀ z : ZoneId, (s.zone z).mode ≠ .disabled →
        Tab.get t.lau.zoneLoad z = t.loadOf z ∧ Tab.get t.lau.restoration z = t.increment z) ∧
      ∀ z : ZoneId,
        let c := s.zoneCfg z
        let curve : Nat :=
          match c.luminance with
          | none => 100
          | some p =>
            if (s.point p).quality = .never then 100
            else match validCurve (Tab.get s.cfg.curves c.curve) with
              | some l => if (s.point p).quality = .good then curveAt (s.point p).raw.toNat l else (s.zone z).curveValue
              | none => (s.zone z).curveValue
        ((s.zone z).mode = .disabled → t.zone z = s.zone z) ∧
        ((s.zone z).mode ≠ .disabled → (t.zone z).curveValue = curve ∧
          (t.zone z).target = max c.safety (match s.override c.dim with
            | some e => e.value.toNat
            | none => if s.stc.stage = .closed then c.safety else curve)) ∧
        ((s.zone z).mode = .unknown → s.stc.hold = .running → s.flc.line ≠ .quenched →
          (t.zone z).mode ≠ .unknown ∧ (t.zone z).mode ≠ .disabled)) ∧
    ((∀ d : Nat, s.ltu.timer ≠ .running d) → exec .lightingEvaluation s = .next s)

/-- Every step keeps the commanded level of every zone that is neither DISABLED nor UNKNOWN at its safety level or above (R170). -/
def Obligations.LightingStaysAboveSafety : Prop := ∀ s t : State, s.ZonesAboveSafety → step s = .next t → t.ZonesAboveSafety

/-! ## Reads -/

/-- POINT_GET (R60) and RECORD_GET of the classes STAGE (R100), SUPPLY (R127), AUTHORITY (R113) and LEVEL_QUEUE (R56). A number
above 65535 in one data word is a free word (log entry 6), and so are the words that the spec leaves without a value (log entry 7).
The remaining time shown of a paused descent timer (log entry 32) and the head class 0 of SUPPLY with an empty Start Queue (log
entry 36) are the model's readings. -/
def Obligations.ControlReads : Prop :=
  ∀ (tag : Tag) (i clear : Word) (more : List Word) (s : State), s.Taking →
    let ops := i :: clear :: more
    let bit := fun (n : Nat) (b : Bool) => if b = true then BitVec.ofNat 16 (2 ^ n) else (0 : Word)
    let secs := fun x : Timer => word ((x.left s.now + 999) / 1000)
    let point := fun o : Option PointId => match o with
      | some p => BitVec.ofNat 16 p.val
      | none => (256 : Word)
    let one := fun o : Option PointId =>
      o.any fun p => !((s.point p).quality == .never) && (s.pcfg p).kind == .discrete && (s.point p).raw == 1
    let stc := s.stc
    let lau := s.lau
    let pumps := lau.pumpLoad.toList.sum
    let motors := lau.motorLoad.toList.sum
    let zones := lau.zoneLoad.toList.sum
    let inrush := match lau.window with
      | some w => w.extra
      | none => 0
    let committed := pumps + motors + zones + inrush
    let headWait : Nat := match lau.queue with
      | [] => 0
      | r :: _ =>
        if s.allowance < committed + r.runKw + r.extra then 1
        else if lau.window.isSome = true ∧ r.extra ≠ 0 then 2
        else if lau.clearToStart = false ∧ r.cls ≠ 3 then 3
        else if stc.hold = .held then 4 else 0
    (i = 0 → clear.toNat ≤ 1 →
      exec (.recordGetStage tag ops) s = .next (answer tag 32 0
        [word stc.stage.code, word (min 65535 ((s.now - stc.enteredAt) / 1000)), word stc.cause.sump, word stc.cause.test,
          word stc.demanded.code, word stc.confirm, secs stc.descent, secs stc.reopen, word stc.hold.code,
          s.planInForce.zeroExtend 16,
          bit 0 stc.reopenReady ||| bit 1 stc.derivePending ||| bit 2 stc.holdRequest ||| bit 3 stc.allClosed |||
            bit 4 stc.allOpen ||| bit 5 stc.descent.isRunning ||| bit 6 stc.reopen.isRunning] s) ∧
      exec (.recordGetSupply tag ops) s = .next (answer tag 32 0
        [word lau.mode.code, word s.allowance, word committed, word pumps, word motors, word zones, word inrush,
          word lau.queue.length, (lau.queue.head?.map fun r => word r.device.code).getD 0,
          (lau.queue.head?.map fun r => word r.cls).getD 0, word headWait,
          (lau.window.map fun w => word w.device.code).getD 0,
          (lau.window.map fun w => word ((w.timer.left s.now + 99) / 100)).getD 0,
          bit 0 lau.shedDemand ||| bit 1 lau.clearToStart ||| bit 2 (one s.cfg.supply.mains) |||
            bit 3 (one s.cfg.supply.generator) |||
            ((lau.shedOrder.map fun p => BitVec.ofNat 16 (16 * (p.val + 1))).getD 0)] s) ∧
      exec (.recordGetAuthority tag ops) s = .next (answer tag 32 0
        [point s.cfg.supply.panelKey, bit 0 s.cau.keyLocal,
          (s.cfg.supply.panelKey.map fun p => word (s.point p).quality.code).getD 0, bit 0 s.cau.keyChanged,
          word s.cfg.supply.lifetime, word s.cau.overrides.length,
          word ((s.cau.overrides.map fun e => (e.expiry - s.now + 59999) / 60000).min?.getD 0)]
        (if clear = 1 then { s with cau := { s.cau with keyChanged := false } } else s))) ∧
    (i ≠ 0 ∨ 1 < clear.toNat →
      exec (.recordGetStage tag ops) s = .next (answer tag 32 2 [] s) ∧
      exec (.recordGetSupply tag ops) s = .next (answer tag 32 2 [] s) ∧
      exec (.recordGetAuthority tag ops) s = .next (answer tag 32 2 [] s)) ∧
    (∀ q : QueueId, i.toNat = q.val → clear.toNat ≤ 1 →
      let x := s.levelQueue q
      let kept : LevelQueue :=
        if clear = 1 then { entries := x.entries, overrun := false, accInvalid := false, accRange := false } else x
      exec (.recordGetLevelQueue tag ops) s = .next (answer tag 32 0
        [point (s.queueHolder q),
          (match s.queueHolder q with
            | some p => bit 0 ((s.pcfg p).errorMode == .accumulated)
            | none => Config.unstatedWord 3 s.free),
          word x.entries.length, bit 0 x.overrun, bit 0 x.accInvalid, bit 0 x.accRange]
        { s with free := s.free + 1, pim := { s.pim with queues := Tab.put s.pim.queues q kept } })) ∧
    (7 < i.toNat ∨ 1 < clear.toNat → ∃ n, exec (.recordGetLevelQueue tag ops) s = .next (answer tag 32 2 [] { s with free := n })) ∧
    (∀ few : List Word, few.length < 2 →
      exec (.recordGetStage tag few) s = .next (answer tag 32 2 [] s) ∧
      exec (.recordGetSupply tag few) s = .next (answer tag 32 2 [] s) ∧
      exec (.recordGetAuthority tag few) s = .next (answer tag 32 2 [] s) ∧
      ∃ n, exec (.recordGetLevelQueue tag few) s = .next (answer tag 32 2 [] { s with free := n })) ∧
    (∀ p : PointId, i.toNat = p.val →
      let c := s.pcfg p
      let x := s.point p
      let ifUsed := fun w : Word => if c.kind = .unused then 0 else w
      let ifRanged := fun w : Word => if c.kind = .level ∨ c.kind = .analog then w else 0
      let ifCommand := fun w : Word => if c.kind = .command then w else 0
      let owner := if c.kind = .command then ownerOf s.cfg p else .nobody
      exec (.pointGet tag (i :: more)) s = .next (answer tag 17 0
        [word c.kind.code, ifUsed (word c.freshness),
          ifUsed (if x.quality = .never then 0 else word (min 65535 ((s.now - x.since) / 100))),
          ifUsed (word x.quality.code) ||| ifCommand (BitVec.ofNat 16 (16384 * x.command.code)),
          ifUsed (if c.kind = .command then 0 else x.raw), ifRanged c.rawMin, ifRanged c.rawMax,
          bit 0 (c.kind == .level && c.errorMode == .accumulated),
          (c.queue.map fun q => BitVec.ofNat 16 q.val).getD 8,
          (match owner with
            | .nobody => 0
            | .pump _ => 1
            | .barrier _ => 2
            | .signal _ => 3
            | .gate => 4
            | .zone _ => 5),
          (match owner with
            | .nobody => 0
            | .pump n => BitVec.ofNat 16 (n.val + 1)
            | .barrier n => BitVec.ofNat 16 (n.val + 1)
            | .signal n => BitVec.ofNat 16 (n.val + 1)
            | .gate => Config.unstatedWord 2 s.free
            | .zone n => BitVec.ofNat 16 (n.val + 1)),
          ifUsed (bit 0 x.changed), ifCommand x.commanded, ifCommand x.confirmed]
        { s with free := s.free + 1
                 pim := { s.pim with points := Tab.put s.pim.points p { x with changed := false } } })) ∧
    (255 < i.toNat → exec (.pointGet tag (i :: more)) s = .next (answer tag 17 2 [] s)) ∧
    exec (.pointGet tag []) s = .next (answer tag 17 2 [] s)

/-- RECORD_GET of the classes SUMP (R82, a sump not CONFIGURED with the values of R83, deferred while a cycle is in flight by R66),
PUMP (R146), BARRIER and GATE (R165) and ZONE (R175). A number above 65535 in one data word is a free word (log entry 6), and so are
the words that the spec leaves without a value (log entry 7); paused timers are shown by log entry 32. The run time of a pump is
counted in ms (log entry 37). -/
def Obligations.DeviceReads : Prop :=
  ∀ (tag : Tag) (i clear : Word) (more : List Word) (s : State), s.Taking →
    let ops := i :: clear :: more
    let bit := fun (n : Nat) (b : Bool) => if b = true then BitVec.ofNat 16 (2 ^ n) else (0 : Word)
    let secs := fun x : Timer => word ((x.left s.now + 999) / 1000)
    let high := fun n : Nat => BitVec.ofNat 16 (n / 65536)
    let low := fun n : Nat => BitVec.ofNat 16 (n % 65536)
    let entry := fun o : Option PointId => match s.override o with
      | some e => [e.value, word ((e.expiry - s.now + 59999) / 60000)]
      | none => [0, 0]
    let stands := fun o : Option PointId => (s.override o).isSome
    let tagAt := fun (o : Option PointId) (n : Nat) =>
      ((s.override o).map fun e => BitVec.ofNat 16 (e.tag.toNat * 2 ^ n)).getD 0
    let isSet := fun o : Option PointId => o.any fun p => (s.point p).quality == .good && (s.point p).raw == 1
    let occupied := fun o : Option PointId => o.any fun p => (s.point p).raw == 1 || !((s.point p).quality == .good)
    (∀ k : SumpId, i.toNat = k.val + 1 → clear.toNat ≤ 1 → s.sau.cycle = none →
      let unset : SumpState :=
        { source := .held, levelQuality := .blind, cycleLevel := 0, filter := 0, primed := false, volume := 0, base := none
          ring := [], inflow := 0, controlInflow := 0, inflowLimited := false, inflowGood := false, rate := 0, blindCount := 0
          geometryValid := (s.sump k).geometryValid, limited := false, growth := false, overrun := false, invalidSeen := false }
      let x := if (s.sumpCfg k).primary.isSome = true then s.sump k else unset
      let cleared : SumpState :=
        { s.sump k with limited := false, growth := false, overrun := false, invalidSeen := false }
      exec (.recordGetSump tag ops) s = .next (answer tag 32 0
        [word x.source.code, word x.levelQuality.code, word x.cycleLevel, word ((x.filter + 8) / 16).toNat,
          high x.filter.toNat, low x.filter.toNat, high x.volume, low x.volume, BitVec.ofInt 16 x.inflow, bit 0 (!x.inflowGood),
          BitVec.ofInt 16 x.rate, word x.blindCount, word x.ring.length,
          bit 0 x.limited ||| bit 1 x.growth ||| bit 2 x.overrun ||| bit 3 x.invalidSeen ||| bit 4 x.geometryValid |||
            bit 5 x.base.isSome ||| bit 6 x.primed ||| bit 7 (s.sumpCfg k).primary.isSome ||| bit 8 x.inflowLimited]
        (if clear = 1 then { s with sau := { s.sau with sumps := Tab.put s.sau.sumps k cleared } } else s))) ∧
    (s.sau.cycle.isSome = true →
      exec (.recordGetSump tag ops) s = .next { s with sau := { s.sau with deferred := s.sau.deferred ++ [.recordSump tag ops] } }) ∧
    (∀ p : PumpId, i.toNat = p.val + 1 → clear.toNat ≤ 1 →
      let x := s.pump p
      let c := s.pumpCfg p
      let list := s.dutyList c.sump
      let minutes := min 4294967295 ((x.runMs + (x.runningSince.map fun t => s.now - t).getD 0) / 60000)
      exec (.recordGetPump tag ops) s = .next (answer tag 32 0
        ([word x.mode.code, word x.stopReason.code, word x.fault,
          word (if x.mode ≠ .disabled ∧ p ∈ list then list.idxOf p + 1 else 0), high minutes, low minutes, high x.startCount,
          low x.startCount, word x.startsInWindow, secs x.hourWindow, secs x.offTimer,
          bit 0 x.postDeferred ||| bit 1 (stands c.runPoint) ||| bit 2 (s.lau.shedOrder == some p) ||| tagAt c.runPoint 4] ++
          entry c.runPoint) s)) ∧
    (∀ b : BarrierId, i.toNat = b.val + 1 → clear.toNat ≤ 1 →
      let x := s.barrier b
      let c := s.barrierCfg b
      exec (.recordGetBarrier tag ops) s = .next (answer tag 32 0
        ([word x.mode.code, word x.fault, word x.reversals, (x.aspect.map fun a => word a.code).getD 4,
          (if x.warnTimer.isRunning = true then secs x.warnTimer else if x.clearTimer.isRunning = true then secs x.clearTimer else 0),
          secs x.travelTimer,
          bit 0 x.postDeferred ||| bit 1 (!occupied c.presence1 && !occupied c.presence2) ||| bit 2 (isSet c.openLimit) |||
            bit 3 (isSet c.closedLimit) ||| bit 4 x.headFault ||| bit 5 (stands c.drive) ||| bit 6 (stands c.head) |||
            tagAt c.drive 8] ++ entry c.drive ++ entry c.head) s)) ∧
    (i = 0 → clear.toNat ≤ 1 →
      let x := s.gsq.gate
      let c := s.cfg.gate
      let linked := (s.gsq.data.getD []).find? fun d => d.sump == c.linkedSump
      let tests : Bool × Bool := match s.override c.drive with
        | some e => (e.value == 2, e.value == 1)
        | none => match c.outfall, linked with
          | some p, some d =>
            if (s.point p).quality = .good then
              (decide ((d.filtered : Int) + c.margin ≤ (s.point p).raw.toInt),
                decide ((s.point p).raw.toInt ≤ (d.filtered : Int) - c.margin))
            else (true, false)
          | _, _ => (true, false)
      exec (.recordGetGate tag ops) s = .next (answer tag 32 0
        ([word x.mode.code, word x.fault, (c.outfall.map fun p => (s.point p).raw).getD (Config.unstatedWord 0 s.free),
          (linked.map fun d => word d.filtered).getD (Config.unstatedWord 1 s.free), secs x.dwellTimer, secs x.travelTimer,
          bit 0 x.postDeferred ||| bit 1 tests.1 ||| bit 2 tests.2 ||| bit 3 (isSet c.openLimit) ||| bit 4 (isSet c.closedLimit) |||
            bit 5 (stands c.drive) ||| tagAt c.drive 8] ++ entry c.drive)
        { s with free := s.free + 1 })) ∧
    (∀ z : ZoneId, i.toNat = z.val + 1 → clear.toNat ≤ 1 →
      let x := s.zone z
      let c := s.zoneCfg z
      let kw := fun level : Nat => (c.ratedKw * level + 99) / 100
      exec (.recordGetZone tag ops) s = .next (answer tag 32 0
        ([word x.mode.code, word x.level, word x.target, word x.curveValue, word c.safety,
          word (if x.mode = .shed ∨ x.mode = .restoreQueued then kw x.target - kw c.safety else 0), (x.reserve.map word).getD 0,
          word (Tab.get s.lau.zoneLoad z), word x.faultCounter,
          word ((c.current.map fun p => (s.point p).raw.toInt.toNat).getD 0), word (c.ratedCurrent * x.level / 100),
          bit 0 x.postDeferred ||| bit 1 x.lampFault ||| bit 2 x.dimmerFault ||| bit 3 x.reserve.isSome ||| bit 4 (stands c.dim) |||
            bit 5 (validCurve (Tab.get s.cfg.curves c.curve)).isSome ||| tagAt c.dim 8] ++ entry c.dim) s)) ∧
    (1 < clear.toNat ∨ i = 0 ∨ 4 < i.toNat →
      (s.sau.cycle = none → exec (.recordGetSump tag ops) s = .next (answer tag 32 2 [] s)) ∧
      exec (.recordGetBarrier tag ops) s = .next (answer tag 32 2 [] s)) ∧
    (1 < clear.toNat ∨ i = 0 ∨ 8 < i.toNat → exec (.recordGetPump tag ops) s = .next (answer tag 32 2 [] s)) ∧
    (1 < clear.toNat ∨ i = 0 ∨ 6 < i.toNat → exec (.recordGetZone tag ops) s = .next (answer tag 32 2 [] s)) ∧
    (1 < clear.toNat ∨ i ≠ 0 → ∃ n, exec (.recordGetGate tag ops) s = .next (answer tag 32 2 [] { s with free := n })) ∧
    ∀ few : List Word, few.length < 2 →
      (s.sau.cycle = none → exec (.recordGetSump tag few) s = .next (answer tag 32 2 [] s)) ∧
      exec (.recordGetPump tag few) s = .next (answer tag 32 2 [] s) ∧
      exec (.recordGetBarrier tag few) s = .next (answer tag 32 2 [] s) ∧
      exec (.recordGetZone tag few) s = .next (answer tag 32 2 [] s) ∧
      ∃ n, exec (.recordGetGate tag few) s = .next (answer tag 32 2 [] { s with free := n })

/-- SNAPSHOT_TAKE (R181), SNAPSHOT_NEXT (R182) and STATUS_CLEAR (R180). In a cycle in flight a snapshot shows OVERRUN and
INVALID_SEEN of the sumps as the last completion left them (R181); that it shows the inflow quality as it stands, which a gate
leaving CLOSED makes SUSPECT at once (R78), is the model's reading (log entry 78). The words of a number above 65535 and the words
of the GATE record without a value are free words (log entries 6 and 7), for which the counter of free words advances. -/
def Obligations.SnapshotAndStatusClear : Prop :=
  ∀ (tag : Tag) (s : State), s.Taking →
    let completed : State := match s.sau.cycle with
      | none => s
      | some c =>
        let kept := fun k : SumpId =>
          { s.sump k with overrun := Tab.get c.overrunBefore k, invalidSeen := Tab.get c.invalidBefore k }
        { s with sau := { s.sau with sumps := #v[kept 0, kept 1, kept 2, kept 3] } }
    (let split := fun (cls index : Nat) (fields : List Word) =>
      if fields.length ≤ 12 then [BitVec.ofNat 16 cls :: BitVec.ofNat 16 index :: fields]
      else [BitVec.ofNat 16 cls :: BitVec.ofNat 16 index :: fields.take 12,
        BitVec.ofNat 16 cls :: BitVec.ofNat 16 (3072 + index) :: fields.drop 12]
    let parts : List (List Word) :=
      split 0 0 (stageWords s) ++ split 1 0 (supplyWords s) ++
      (List.finRange 4).flatMap (fun k => split 3 (k.val + 1) (sumpWords completed k)) ++
      (List.finRange 8).flatMap (fun p => split 4 (p.val + 1) (pumpWords s p)) ++
      (List.finRange 4).flatMap (fun b => split 5 (b.val + 1) (barrierWords s b)) ++ split 6 0 (gateWords s) ++
      (List.finRange 6).flatMap (fun z => split 7 (z.val + 1) (zoneWords s z))
    parts.length = 44 ∧ (∀ x ∈ parts, x.length ≤ 14) ∧
    exec (.snapshotTake tag) s =
      .next (answer tag 40 0 [] { s with free := s.free + 1, mgu := { s.mgu with snapshot := some (parts, 0) } })) ∧
    (∀ (parts : List (List Word)) (n : Nat), s.mgu.snapshot = some (parts, n) →
      (∀ part, parts[n]? = some part → exec (.snapshotNext tag) s =
        .next (answer tag 41 0 part { s with mgu := { s.mgu with snapshot := some (parts, n + 1) } })) ∧
      (parts.length ≤ n → exec (.snapshotNext tag) s = .next (answer tag 41 0 [15, 0] s))) ∧
    (s.mgu.snapshot = none → exec (.snapshotNext tag) s = .next (answer tag 41 0 [15, 0] s)) ∧
    let pim : Pim :=
      { s.pim with queues := s.pim.queues.map fun q => { q with overrun := false, accInvalid := false, accRange := false } }
    (s.sau.cycle = none → exec (.statusClear tag) s = .next (answer tag 54 0 []
      { s with
        pim := pim
        sau := { s.sau with sumps := s.sau.sumps.map fun x =>
          { x with limited := false, growth := false, overrun := false, invalidSeen := false } } })) ∧
    (s.sau.cycle.isSome = true → exec (.statusClear tag) s =
      .next { s with pim := pim, sau := { s.sau with deferred := s.sau.deferred ++ [.statusClear tag] } })

/-! ## The store and the resets -/

/-- STORE_COMMIT and its completion (R183), RESTART and its performance (R185, R10, R23, R63, R114) with the duty lists, run
minutes, start counts and hour windows it keeps (R147) and the cycle, lighting, derive and scan timers it restarts (R83, R176, R93,
R63), and what POWER_ON and the reset input leave (R184). What the store holds while it is rewritten, and which fields a reset does
not touch, are the model's choices (log entries 1, 8 and 40), and so are what a RESTART leaves of the PSC (log entries 62, 72 and
81) and the running values of a DISABLED pump or zone (log entry 83). -/
def Obligations.StoreAndResets : Prop :=
  (∀ (tag : Tag) (s : State), s.Altering →
    (s.powerFail = true → exec (.storeCommit tag) s = .next (answer tag 57 3 [] s)) ∧
    (s.powerFail = false →
      let image : StoreImage :=
        { tables := s.cfg, pinned := s.pmu.pinned.map MapEntry.fields, sets := s.pmu.sets.map MapEntry.fields }
      exec (.storeCommit tag) s =
        .next { s with mgu := { s.mgu with store := none, commit := some { tag := tag, image := image } } }) ∧
    let frame : Frame :=
      { kind := 7, tag := tag, reserved := 0, dst := 62, src := 63, channel := 0, payload := [58, 0] }
    exec (.restart tag) s =
      .next (offerUp { frame := frame, restartAnswer := true } { s with mgu := { s.mgu with restart := .answering } })) ∧
  ∀ s : State, s.AtRest →
    (∀ c : Commit, s.mgu.commit = some c → exec .storeCommitComplete s = .next (answer c.tag 57 0 []
      { s with mgu := { s.mgu with commit := none, store := some c.image, storeInvalid := false } })) ∧
    (s.mgu.commit = none → exec .storeCommitComplete s = .next s) ∧
    (s.mgu.restart ≠ .ready → exec .restartPerform s = .next s) ∧
    (let fresh := fun t : State =>
      (∀ p : PumpId, (t.pump p).mode = if (t.pumpCfg p).enable = true then .unknown else .disabled) ∧
      (∀ b : BarrierId, (t.barrier b).mode = if (t.barrierCfg b).enable = true then .unknown else .disabled) ∧
      (t.gsq.gate.mode = if t.cfg.gate.enable = true then .unknown else .disabled) ∧
      (∀ z : ZoneId, (t.zone z).mode = if (t.zoneCfg z).enable = true then .unknown else .disabled) ∧
      (∀ p : PointId, (t.point p).quality = .never ∧ (t.point p).raw = 0 ∧ (t.point p).command = .idle) ∧
      (∀ q : QueueId, t.levelQueue q = {}) ∧ t.flc = {} ∧ t.lau.queue = [] ∧ t.lau.mode = .none ∧ t.sau.cycle = none ∧
      t.stc.stage = .clear ∧ t.stc.hold = .running ∧ t.stc.holdRequest = false ∧ t.stc.derivePending = true ∧
      t.cau = { keyLocal := t.cfg.supply.panelKey.isSome, keyChanged := false, overrides := [] } ∧
      t.mgu.snapshot = none ∧ t.mgu.restart = .none ∧
      t.sau.cycleTimer = .running (t.now + t.cfg.line.cyclePeriod) ∧ t.sau.timerPeriod = t.cfg.line.cyclePeriod ∧
      t.sau.deferred = [] ∧ t.ltu.timer = .running (t.now + 1000) ∧ t.stc.derive = .running (t.now + 10000) ∧
      (∀ e : ScanId, Tab.get t.pim.scanDue e =
        if (t.scanCfg e).enable = true then .running (t.now + 100 * (t.scanCfg e).interval) else .stopped) ∧
      t.psc.startSeq = 0 ∧ t.psc.data = none ∧ t.gsq.data = none ∧ t.stc.data = none ∧ (∀ k : SumpId, Tab.get t.psc.step k = none) ∧
      (∀ p : PumpId, (t.pump p).fault = 0 ∧ (t.pump p).lastStop = none ∧ (t.pump p).postDeferred = false ∧
        (t.pump p).startTimer = .stopped ∧ (t.pump p).stopTimer = .stopped ∧ (t.pump p).offTimer = .stopped) ∧
      ∀ z : ZoneId, t.zone z = { mode := (t.zone z).mode, level := 0, target := 100, curveValue := 100 }
    (s.mgu.restart = .ready → ∃ t, exec .restartPerform s = .next t ∧ fresh t ∧ t.cfg = s.cfg ∧ t.pmu = s.pmu ∧ t.now = s.now ∧
      t.mgu.store = s.mgu.store ∧ t.mgu.commit = s.mgu.commit ∧ t.psc.duty = s.psc.duty ∧
      (∀ p : PumpId, (t.pump p).runMs = s.runTime p ∧ (t.pump p).runningSince = none ∧
        (t.pump p).startCount = (s.pump p).startCount ∧ (t.pump p).hourWindow = (s.pump p).hourWindow ∧
        (t.pump p).startsInWindow = (s.pump p).startsInWindow) ∧
      t.upp =
        { downstream := [], upstream := [], transmitter := s.upp.transmitter, link := s.upp.link, noticeSeq := 0
          silence := if s.upp.link = .up then .running (s.now + 1000 * s.cfg.line.silencePeriod) else .stopped }) ∧
    ∀ c ∈ [Instr.powerOn, .resetInput],
      (s.mgu.store = none → exec c s =
        .next { State.reset with pending := s.pending, free := s.free, powerFail := s.powerFail }) ∧
      ∀ i : StoreImage, s.mgu.store = some i → ∃ t, exec c s = .next t ∧ fresh t ∧ t.cfg = i.tables ∧
        (∀ k : SumpId, t.dutyList k =
          pumpIds.filter fun p => (Tab.get i.tables.pumps p).enable && (Tab.get i.tables.pumps p).sump == k) ∧
        (∀ p : PumpId, (t.pump p).runMs = 0 ∧ (t.pump p).startCount = 0 ∧ (t.pump p).hourWindow = .stopped ∧
          (t.pump p).startsInWindow = 0) ∧
        t.upp = {} ∧ t.mgu.store = some i ∧ t.mgu.commit = none ∧ t.mgu.storeInvalid = false ∧
        (∀ j, (Tab.get t.pmu.pinned j).fields = Tab.get i.pinned j ∧ (Tab.get t.pmu.pinned j).used = false ∧
          (Tab.get t.pmu.pinned j).checkGood = true) ∧
        (∀ j, (Tab.get t.pmu.sets j).fields = Tab.get i.sets j ∧ (Tab.get t.pmu.sets j).used = false ∧
          (Tab.get t.pmu.sets j).checkGood = true) ∧
        t.pmu.miss.full = false ∧ t.pmu.fault.fv = false)
end

