-- ==== Sys2Proof/Laws/PerInstr.lean ====
section
/-! SUPPORT. The family Carried: the MANAGE frame of every well-formed management command passes the sorting of R5 and fits the
frame layout of 1.1.1. -/

set_option Elab.async false

namespace Sys2Proof.Laws.Carried

open Sys2Proof.Machine

/-- A frame of a well-formed command is a MANAGE frame that R5 passes to the MGU. -/
def Statement (i : Instr) : Prop :=
  i.wellFormed = true → ∀ f, commandFrame i = some f → f.isManagement = true

/-- A MANAGE frame with 1 to 16 payload words is passed to the MGU (R5). -/
theorem manageFrame_isManagement (tag : Tag) (p : List Word) (h : 1 ≤ p.length ∧ p.length ≤ 16) :
    (manageFrame tag p).isManagement = true := by
  simp [Frame.isManagement, manageFrame, h.1, h.2]

theorem powerOn : Statement (.powerOn) := by
  intro _ f hf
  simp [commandFrame] at hf

theorem resetInput : Statement (.resetInput) := by
  intro _ f hf
  simp [commandFrame] at hf

theorem upstreamFrameArrival (words : List Word) : Statement (.upstreamFrameArrival words) := by
  intro _ f hf
  simp [commandFrame] at hf

theorem linkSilenceExpiry : Statement (.linkSilenceExpiry) := by
  intro _ f hf
  simp [commandFrame] at hf

theorem upstreamTransmit : Statement (.upstreamTransmit) := by
  intro _ f hf
  simp [commandFrame] at hf

theorem upstreamTransmitEnd : Statement (.upstreamTransmitEnd) := by
  intro _ f hf
  simp [commandFrame] at hf

theorem fieldArbiterGrant : Statement (.fieldArbiterGrant) := by
  intro _ f hf
  simp [commandFrame] at hf

theorem fieldSendEnd : Statement (.fieldSendEnd) := by
  intro _ f hf
  simp [commandFrame] at hf

theorem fieldFrameArrival (words : List Word) : Statement (.fieldFrameArrival words) := by
  intro _ f hf
  simp [commandFrame] at hf

theorem replyWindowExpiry : Statement (.replyWindowExpiry) := by
  intro _ f hf
  simp [commandFrame] at hf

theorem guardExpiry : Statement (.guardExpiry) := by
  intro _ f hf
  simp [commandFrame] at hf

theorem pointFreshnessExpiry (point : PointId) : Statement (.pointFreshnessExpiry point) := by
  intro _ f hf
  simp [commandFrame] at hf

theorem scanDueExpiry (entry : ScanId) : Statement (.scanDueExpiry entry) := by
  intro _ f hf
  simp [commandFrame] at hf

theorem mapStorageFault (loc : MapLoc) (flips : BitVec 24) : Statement (.mapStorageFault loc flips) := by
  intro _ f hf
  simp [commandFrame] at hf

theorem mapWrite (tag : Tag) (operands : List Word) : Statement (.mapWrite tag operands) := by
  intro h f hf
  simp only [commandFrame, Option.some.injEq] at hf
  subst hf
  simp only [Instr.wellFormed, decide_eq_true_eq] at h
  exact manageFrame_isManagement _ _ (by simp; omega)

theorem mapRead (tag : Tag) (operands : List Word) : Statement (.mapRead tag operands) := by
  intro h f hf
  simp only [commandFrame, Option.some.injEq] at hf
  subst hf
  simp only [Instr.wellFormed, decide_eq_true_eq] at h
  exact manageFrame_isManagement _ _ (by simp; omega)

theorem demapKey (tag : Tag) (operands : List Word) : Statement (.demapKey tag operands) := by
  intro h f hf
  simp only [commandFrame, Option.some.injEq] at hf
  subst hf
  simp only [Instr.wellFormed, decide_eq_true_eq] at h
  exact manageFrame_isManagement _ _ (by simp; omega)

theorem demapPlan (tag : Tag) (operands : List Word) : Statement (.demapPlan tag operands) := by
  intro h f hf
  simp only [commandFrame, Option.some.injEq] at hf
  subst hf
  simp only [Instr.wellFormed, decide_eq_true_eq] at h
  exact manageFrame_isManagement _ _ (by simp; omega)

theorem demapAll (tag : Tag) : Statement (.demapAll tag) := by
  intro h f hf
  simp only [commandFrame, Option.some.injEq] at hf
  subst hf
  exact manageFrame_isManagement _ _ (by simp)

theorem missGet (tag : Tag) (operands : List Word) : Statement (.missGet tag operands) := by
  intro h f hf
  simp only [commandFrame, Option.some.injEq] at hf
  subst hf
  simp only [Instr.wellFormed, decide_eq_true_eq] at h
  exact manageFrame_isManagement _ _ (by simp; omega)

theorem faultGet (tag : Tag) (operands : List Word) : Statement (.faultGet tag operands) := by
  intro h f hf
  simp only [commandFrame, Option.some.injEq] at hf
  subst hf
  simp only [Instr.wellFormed, decide_eq_true_eq] at h
  exact manageFrame_isManagement _ _ (by simp; omega)

theorem pointSet (tag : Tag) (operands : List Word) : Statement (.pointSet tag operands) := by
  intro h f hf
  simp only [commandFrame, Option.some.injEq] at hf
  subst hf
  simp only [Instr.wellFormed, decide_eq_true_eq] at h
  exact manageFrame_isManagement _ _ (by simp; omega)

theorem pointGet (tag : Tag) (operands : List Word) : Statement (.pointGet tag operands) := by
  intro h f hf
  simp only [commandFrame, Option.some.injEq] at hf
  subst hf
  simp only [Instr.wellFormed, decide_eq_true_eq] at h
  exact manageFrame_isManagement _ _ (by simp; omega)

theorem scanSet (tag : Tag) (operands : List Word) : Statement (.scanSet tag operands) := by
  intro h f hf
  simp only [commandFrame, Option.some.injEq] at hf
  subst hf
  simp only [Instr.wellFormed, decide_eq_true_eq] at h
  exact manageFrame_isManagement _ _ (by simp; omega)

theorem sumpSet (tag : Tag) (operands : List Word) : Statement (.sumpSet tag operands) := by
  intro h f hf
  simp only [commandFrame, Option.some.injEq] at hf
  subst hf
  simp only [Instr.wellFormed, decide_eq_true_eq] at h
  exact manageFrame_isManagement _ _ (by simp; omega)

theorem geometrySet (tag : Tag) (operands : List Word) : Statement (.geometrySet tag operands) := by
  intro h f hf
  simp only [commandFrame, Option.some.injEq] at hf
  subst hf
  simp only [Instr.wellFormed, decide_eq_true_eq] at h
  exact manageFrame_isManagement _ _ (by simp; omega)

theorem stageSet (tag : Tag) (operands : List Word) : Statement (.stageSet tag operands) := by
  intro h f hf
  simp only [commandFrame, Option.some.injEq] at hf
  subst hf
  simp only [Instr.wellFormed, decide_eq_true_eq] at h
  exact manageFrame_isManagement _ _ (by simp; omega)

theorem planSet (tag : Tag) (operands : List Word) : Statement (.planSet tag operands) := by
  intro h f hf
  simp only [commandFrame, Option.some.injEq] at hf
  subst hf
  simp only [Instr.wellFormed, decide_eq_true_eq] at h
  exact manageFrame_isManagement _ _ (by simp; omega)

theorem supplySet (tag : Tag) (operands : List Word) : Statement (.supplySet tag operands) := by
  intro h f hf
  simp only [commandFrame, Option.some.injEq] at hf
  subst hf
  simp only [Instr.wellFormed, decide_eq_true_eq] at h
  exact manageFrame_isManagement _ _ (by simp; omega)

theorem pumpSet (tag : Tag) (operands : List Word) : Statement (.pumpSet tag operands) := by
  intro h f hf
  simp only [commandFrame, Option.some.injEq] at hf
  subst hf
  simp only [Instr.wellFormed, Bool.and_eq_true, decide_eq_true_eq] at h
  exact manageFrame_isManagement _ _ (by simp; omega)

theorem pumpSetSumpSettings (tag : Tag) (operands : List Word) : Statement (.pumpSetSumpSettings tag operands) := by
  intro h f hf
  simp only [commandFrame, Option.some.injEq] at hf
  subst hf
  simp only [Instr.wellFormed, decide_eq_true_eq] at h
  exact manageFrame_isManagement _ _ (by simp; omega)

theorem barrierSet (tag : Tag) (operands : List Word) : Statement (.barrierSet tag operands) := by
  intro h f hf
  simp only [commandFrame, Option.some.injEq] at hf
  subst hf
  simp only [Instr.wellFormed, decide_eq_true_eq] at h
  exact manageFrame_isManagement _ _ (by simp; omega)

theorem gateSet (tag : Tag) (operands : List Word) : Statement (.gateSet tag operands) := by
  intro h f hf
  simp only [commandFrame, Option.some.injEq] at hf
  subst hf
  simp only [Instr.wellFormed, decide_eq_true_eq] at h
  exact manageFrame_isManagement _ _ (by simp; omega)

theorem zoneSet (tag : Tag) (operands : List Word) : Statement (.zoneSet tag operands) := by
  intro h f hf
  simp only [commandFrame, Option.some.injEq] at hf
  subst hf
  simp only [Instr.wellFormed, decide_eq_true_eq] at h
  exact manageFrame_isManagement _ _ (by simp; omega)

theorem curveSet (tag : Tag) (operands : List Word) : Statement (.curveSet tag operands) := by
  intro h f hf
  simp only [commandFrame, Option.some.injEq] at hf
  subst hf
  simp only [Instr.wellFormed, decide_eq_true_eq] at h
  exact manageFrame_isManagement _ _ (by simp; omega)

theorem lineSet (tag : Tag) (operands : List Word) : Statement (.lineSet tag operands) := by
  intro h f hf
  simp only [commandFrame, Option.some.injEq] at hf
  subst hf
  simp only [Instr.wellFormed, decide_eq_true_eq] at h
  exact manageFrame_isManagement _ _ (by simp; omega)

theorem recordGetStage (tag : Tag) (operands : List Word) : Statement (.recordGetStage tag operands) := by
  intro h f hf
  simp only [commandFrame, Option.some.injEq] at hf
  subst hf
  simp only [Instr.wellFormed, decide_eq_true_eq] at h
  exact manageFrame_isManagement _ _ (by simp; omega)

theorem recordGetSupply (tag : Tag) (operands : List Word) : Statement (.recordGetSupply tag operands) := by
  intro h f hf
  simp only [commandFrame, Option.some.injEq] at hf
  subst hf
  simp only [Instr.wellFormed, decide_eq_true_eq] at h
  exact manageFrame_isManagement _ _ (by simp; omega)

theorem recordGetAuthority (tag : Tag) (operands : List Word) : Statement (.recordGetAuthority tag operands) := by
  intro h f hf
  simp only [commandFrame, Option.some.injEq] at hf
  subst hf
  simp only [Instr.wellFormed, decide_eq_true_eq] at h
  exact manageFrame_isManagement _ _ (by simp; omega)

theorem recordGetSump (tag : Tag) (operands : List Word) : Statement (.recordGetSump tag operands) := by
  intro h f hf
  simp only [commandFrame, Option.some.injEq] at hf
  subst hf
  simp only [Instr.wellFormed, decide_eq_true_eq] at h
  exact manageFrame_isManagement _ _ (by simp; omega)

theorem recordGetPump (tag : Tag) (operands : List Word) : Statement (.recordGetPump tag operands) := by
  intro h f hf
  simp only [commandFrame, Option.some.injEq] at hf
  subst hf
  simp only [Instr.wellFormed, decide_eq_true_eq] at h
  exact manageFrame_isManagement _ _ (by simp; omega)

theorem recordGetBarrier (tag : Tag) (operands : List Word) : Statement (.recordGetBarrier tag operands) := by
  intro h f hf
  simp only [commandFrame, Option.some.injEq] at hf
  subst hf
  simp only [Instr.wellFormed, decide_eq_true_eq] at h
  exact manageFrame_isManagement _ _ (by simp; omega)

theorem recordGetGate (tag : Tag) (operands : List Word) : Statement (.recordGetGate tag operands) := by
  intro h f hf
  simp only [commandFrame, Option.some.injEq] at hf
  subst hf
  simp only [Instr.wellFormed, decide_eq_true_eq] at h
  exact manageFrame_isManagement _ _ (by simp; omega)

theorem recordGetZone (tag : Tag) (operands : List Word) : Statement (.recordGetZone tag operands) := by
  intro h f hf
  simp only [commandFrame, Option.some.injEq] at hf
  subst hf
  simp only [Instr.wellFormed, decide_eq_true_eq] at h
  exact manageFrame_isManagement _ _ (by simp; omega)

theorem recordGetLevelQueue (tag : Tag) (operands : List Word) : Statement (.recordGetLevelQueue tag operands) := by
  intro h f hf
  simp only [commandFrame, Option.some.injEq] at hf
  subst hf
  simp only [Instr.wellFormed, decide_eq_true_eq] at h
  exact manageFrame_isManagement _ _ (by simp; omega)

theorem snapshotTake (tag : Tag) : Statement (.snapshotTake tag) := by
  intro h f hf
  simp only [commandFrame, Option.some.injEq] at hf
  subst hf
  exact manageFrame_isManagement _ _ (by simp)

theorem snapshotNext (tag : Tag) : Statement (.snapshotNext tag) := by
  intro h f hf
  simp only [commandFrame, Option.some.injEq] at hf
  subst hf
  exact manageFrame_isManagement _ _ (by simp)

theorem holdSet (tag : Tag) : Statement (.holdSet tag) := by
  intro h f hf
  simp only [commandFrame, Option.some.injEq] at hf
  subst hf
  exact manageFrame_isManagement _ _ (by simp)

theorem holdClear (tag : Tag) : Statement (.holdClear tag) := by
  intro h f hf
  simp only [commandFrame, Option.some.injEq] at hf
  subst hf
  exact manageFrame_isManagement _ _ (by simp)

theorem advance (tag : Tag) : Statement (.advance tag) := by
  intro h f hf
  simp only [commandFrame, Option.some.injEq] at hf
  subst hf
  exact manageFrame_isManagement _ _ (by simp)

theorem stepEnd : Statement (.stepEnd) := by
  intro _ f hf
  simp [commandFrame] at hf

theorem release (tag : Tag) : Statement (.release tag) := by
  intro h f hf
  simp only [commandFrame, Option.some.injEq] at hf
  subst hf
  exact manageFrame_isManagement _ _ (by simp)

theorem quench (tag : Tag) : Statement (.quench tag) := by
  intro h f hf
  simp only [commandFrame, Option.some.injEq] at hf
  subst hf
  exact manageFrame_isManagement _ _ (by simp)

theorem unquench (tag : Tag) : Statement (.unquench tag) := by
  intro h f hf
  simp only [commandFrame, Option.some.injEq] at hf
  subst hf
  exact manageFrame_isManagement _ _ (by simp)

theorem statusClear (tag : Tag) : Statement (.statusClear tag) := by
  intro h f hf
  simp only [commandFrame, Option.some.injEq] at hf
  subst hf
  exact manageFrame_isManagement _ _ (by simp)

theorem pumpReset (tag : Tag) (operands : List Word) : Statement (.pumpReset tag operands) := by
  intro h f hf
  simp only [commandFrame, Option.some.injEq] at hf
  subst hf
  simp only [Instr.wellFormed, decide_eq_true_eq] at h
  exact manageFrame_isManagement _ _ (by simp; omega)

theorem barrierReset (tag : Tag) (operands : List Word) : Statement (.barrierReset tag operands) := by
  intro h f hf
  simp only [commandFrame, Option.some.injEq] at hf
  subst hf
  simp only [Instr.wellFormed, decide_eq_true_eq] at h
  exact manageFrame_isManagement _ _ (by simp; omega)

theorem storeCommit (tag : Tag) : Statement (.storeCommit tag) := by
  intro h f hf
  simp only [commandFrame, Option.some.injEq] at hf
  subst hf
  exact manageFrame_isManagement _ _ (by simp)

theorem storeCommitComplete : Statement (.storeCommitComplete) := by
  intro _ f hf
  simp [commandFrame] at hf

theorem restart (tag : Tag) : Statement (.restart tag) := by
  intro h f hf
  simp only [commandFrame, Option.some.injEq] at hf
  subst hf
  exact manageFrame_isManagement _ _ (by simp)

theorem restartPerform : Statement (.restartPerform) := by
  intro _ f hf
  simp [commandFrame] at hf

theorem unknownOp (tag : Tag) (opWord : Word) : Statement (.unknownOp tag opWord) := by
  intro h f hf
  simp only [commandFrame, Option.some.injEq] at hf
  subst hf
  exact manageFrame_isManagement _ _ (by simp)

theorem drainageCycleStart : Statement (.drainageCycleStart) := by
  intro _ f hf
  simp [commandFrame] at hf

theorem drainageCycleCompletion : Statement (.drainageCycleCompletion) := by
  intro _ f hf
  simp [commandFrame] at hf

theorem descentTimerExpiry : Statement (.descentTimerExpiry) := by
  intro _ f hf
  simp [commandFrame] at hf

theorem reopenTimerExpiry : Statement (.reopenTimerExpiry) := by
  intro _ f hf
  simp [commandFrame] at hf

theorem deriveTimerExpiry : Statement (.deriveTimerExpiry) := by
  intro _ f hf
  simp [commandFrame] at hf

theorem overrideExpiry (point : PointId) : Statement (.overrideExpiry point) := by
  intro _ f hf
  simp [commandFrame] at hf

theorem inrushWindowExpiry : Statement (.inrushWindowExpiry) := by
  intro _ f hf
  simp [commandFrame] at hf

theorem pumpStartConfirmExpiry (pump : PumpId) : Statement (.pumpStartConfirmExpiry pump) := by
  intro _ f hf
  simp [commandFrame] at hf

theorem pumpStopConfirmExpiry (pump : PumpId) : Statement (.pumpStopConfirmExpiry pump) := by
  intro _ f hf
  simp [commandFrame] at hf

theorem pumpMinimumOffExpiry (pump : PumpId) : Statement (.pumpMinimumOffExpiry pump) := by
  intro _ f hf
  simp [commandFrame] at hf

theorem pumpHourWindowExpiry (pump : PumpId) : Statement (.pumpHourWindowExpiry pump) := by
  intro _ f hf
  simp [commandFrame] at hf

theorem barrierWarnExpiry (barrier : BarrierId) : Statement (.barrierWarnExpiry barrier) := by
  intro _ f hf
  simp [commandFrame] at hf

theorem barrierClearanceExpiry (barrier : BarrierId) : Statement (.barrierClearanceExpiry barrier) := by
  intro _ f hf
  simp [commandFrame] at hf

theorem barrierTravelExpiry (barrier : BarrierId) : Statement (.barrierTravelExpiry barrier) := by
  intro _ f hf
  simp [commandFrame] at hf

theorem gateOpenDwellExpiry : Statement (.gateOpenDwellExpiry) := by
  intro _ f hf
  simp [commandFrame] at hf

theorem gateTravelExpiry : Statement (.gateTravelExpiry) := by
  intro _ f hf
  simp [commandFrame] at hf

theorem lightingEvaluation : Statement (.lightingEvaluation) := by
  intro _ f hf
  simp [commandFrame] at hf

end Sys2Proof.Laws.Carried
end

