-- ==== Sys2Proof/Laws/State.lean ====
section
/-! SUPPORT. For each update of one part of State, what it does to each field: one lemma per field, true by rfl. -/

namespace Sys2Proof.Machine

variable (s : State)

@[simp] theorem State.modCfg_pending (f : Tables → Tables) : (s.modCfg f).pending = s.pending := rfl
@[simp] theorem State.modCfg_signals (f : Tables → Tables) : (s.modCfg f).signals = s.signals := rfl
@[simp] theorem State.modCfg_now (f : Tables → Tables) : (s.modCfg f).now = s.now := rfl
@[simp] theorem State.modCfg_free (f : Tables → Tables) : (s.modCfg f).free = s.free := rfl
@[simp] theorem State.modCfg_powerFail (f : Tables → Tables) : (s.modCfg f).powerFail = s.powerFail := rfl
@[simp] theorem State.modCfg_cfg (f : Tables → Tables) : (s.modCfg f).cfg = f s.cfg := rfl
@[simp] theorem State.modCfg_upp (f : Tables → Tables) : (s.modCfg f).upp = s.upp := rfl
@[simp] theorem State.modCfg_flc (f : Tables → Tables) : (s.modCfg f).flc = s.flc := rfl
@[simp] theorem State.modCfg_pmu (f : Tables → Tables) : (s.modCfg f).pmu = s.pmu := rfl
@[simp] theorem State.modCfg_pim (f : Tables → Tables) : (s.modCfg f).pim = s.pim := rfl
@[simp] theorem State.modCfg_sau (f : Tables → Tables) : (s.modCfg f).sau = s.sau := rfl
@[simp] theorem State.modCfg_stc (f : Tables → Tables) : (s.modCfg f).stc = s.stc := rfl
@[simp] theorem State.modCfg_cau (f : Tables → Tables) : (s.modCfg f).cau = s.cau := rfl
@[simp] theorem State.modCfg_lau (f : Tables → Tables) : (s.modCfg f).lau = s.lau := rfl
@[simp] theorem State.modCfg_psc (f : Tables → Tables) : (s.modCfg f).psc = s.psc := rfl
@[simp] theorem State.modCfg_gsq (f : Tables → Tables) : (s.modCfg f).gsq = s.gsq := rfl
@[simp] theorem State.modCfg_ltu (f : Tables → Tables) : (s.modCfg f).ltu = s.ltu := rfl
@[simp] theorem State.modCfg_mgu (f : Tables → Tables) : (s.modCfg f).mgu = s.mgu := rfl

@[simp] theorem State.modUpp_pending (f : Upp → Upp) : (s.modUpp f).pending = s.pending := rfl
@[simp] theorem State.modUpp_signals (f : Upp → Upp) : (s.modUpp f).signals = s.signals := rfl
@[simp] theorem State.modUpp_now (f : Upp → Upp) : (s.modUpp f).now = s.now := rfl
@[simp] theorem State.modUpp_free (f : Upp → Upp) : (s.modUpp f).free = s.free := rfl
@[simp] theorem State.modUpp_powerFail (f : Upp → Upp) : (s.modUpp f).powerFail = s.powerFail := rfl
@[simp] theorem State.modUpp_cfg (f : Upp → Upp) : (s.modUpp f).cfg = s.cfg := rfl
@[simp] theorem State.modUpp_upp (f : Upp → Upp) : (s.modUpp f).upp = f s.upp := rfl
@[simp] theorem State.modUpp_flc (f : Upp → Upp) : (s.modUpp f).flc = s.flc := rfl
@[simp] theorem State.modUpp_pmu (f : Upp → Upp) : (s.modUpp f).pmu = s.pmu := rfl
@[simp] theorem State.modUpp_pim (f : Upp → Upp) : (s.modUpp f).pim = s.pim := rfl
@[simp] theorem State.modUpp_sau (f : Upp → Upp) : (s.modUpp f).sau = s.sau := rfl
@[simp] theorem State.modUpp_stc (f : Upp → Upp) : (s.modUpp f).stc = s.stc := rfl
@[simp] theorem State.modUpp_cau (f : Upp → Upp) : (s.modUpp f).cau = s.cau := rfl
@[simp] theorem State.modUpp_lau (f : Upp → Upp) : (s.modUpp f).lau = s.lau := rfl
@[simp] theorem State.modUpp_psc (f : Upp → Upp) : (s.modUpp f).psc = s.psc := rfl
@[simp] theorem State.modUpp_gsq (f : Upp → Upp) : (s.modUpp f).gsq = s.gsq := rfl
@[simp] theorem State.modUpp_ltu (f : Upp → Upp) : (s.modUpp f).ltu = s.ltu := rfl
@[simp] theorem State.modUpp_mgu (f : Upp → Upp) : (s.modUpp f).mgu = s.mgu := rfl

@[simp] theorem State.modFlc_pending (f : Flc → Flc) : (s.modFlc f).pending = s.pending := rfl
@[simp] theorem State.modFlc_signals (f : Flc → Flc) : (s.modFlc f).signals = s.signals := rfl
@[simp] theorem State.modFlc_now (f : Flc → Flc) : (s.modFlc f).now = s.now := rfl
@[simp] theorem State.modFlc_free (f : Flc → Flc) : (s.modFlc f).free = s.free := rfl
@[simp] theorem State.modFlc_powerFail (f : Flc → Flc) : (s.modFlc f).powerFail = s.powerFail := rfl
@[simp] theorem State.modFlc_cfg (f : Flc → Flc) : (s.modFlc f).cfg = s.cfg := rfl
@[simp] theorem State.modFlc_upp (f : Flc → Flc) : (s.modFlc f).upp = s.upp := rfl
@[simp] theorem State.modFlc_flc (f : Flc → Flc) : (s.modFlc f).flc = f s.flc := rfl
@[simp] theorem State.modFlc_pmu (f : Flc → Flc) : (s.modFlc f).pmu = s.pmu := rfl
@[simp] theorem State.modFlc_pim (f : Flc → Flc) : (s.modFlc f).pim = s.pim := rfl
@[simp] theorem State.modFlc_sau (f : Flc → Flc) : (s.modFlc f).sau = s.sau := rfl
@[simp] theorem State.modFlc_stc (f : Flc → Flc) : (s.modFlc f).stc = s.stc := rfl
@[simp] theorem State.modFlc_cau (f : Flc → Flc) : (s.modFlc f).cau = s.cau := rfl
@[simp] theorem State.modFlc_lau (f : Flc → Flc) : (s.modFlc f).lau = s.lau := rfl
@[simp] theorem State.modFlc_psc (f : Flc → Flc) : (s.modFlc f).psc = s.psc := rfl
@[simp] theorem State.modFlc_gsq (f : Flc → Flc) : (s.modFlc f).gsq = s.gsq := rfl
@[simp] theorem State.modFlc_ltu (f : Flc → Flc) : (s.modFlc f).ltu = s.ltu := rfl
@[simp] theorem State.modFlc_mgu (f : Flc → Flc) : (s.modFlc f).mgu = s.mgu := rfl

@[simp] theorem State.modPmu_pending (f : Pmu → Pmu) : (s.modPmu f).pending = s.pending := rfl
@[simp] theorem State.modPmu_signals (f : Pmu → Pmu) : (s.modPmu f).signals = s.signals := rfl
@[simp] theorem State.modPmu_now (f : Pmu → Pmu) : (s.modPmu f).now = s.now := rfl
@[simp] theorem State.modPmu_free (f : Pmu → Pmu) : (s.modPmu f).free = s.free := rfl
@[simp] theorem State.modPmu_powerFail (f : Pmu → Pmu) : (s.modPmu f).powerFail = s.powerFail := rfl
@[simp] theorem State.modPmu_cfg (f : Pmu → Pmu) : (s.modPmu f).cfg = s.cfg := rfl
@[simp] theorem State.modPmu_upp (f : Pmu → Pmu) : (s.modPmu f).upp = s.upp := rfl
@[simp] theorem State.modPmu_flc (f : Pmu → Pmu) : (s.modPmu f).flc = s.flc := rfl
@[simp] theorem State.modPmu_pmu (f : Pmu → Pmu) : (s.modPmu f).pmu = f s.pmu := rfl
@[simp] theorem State.modPmu_pim (f : Pmu → Pmu) : (s.modPmu f).pim = s.pim := rfl
@[simp] theorem State.modPmu_sau (f : Pmu → Pmu) : (s.modPmu f).sau = s.sau := rfl
@[simp] theorem State.modPmu_stc (f : Pmu → Pmu) : (s.modPmu f).stc = s.stc := rfl
@[simp] theorem State.modPmu_cau (f : Pmu → Pmu) : (s.modPmu f).cau = s.cau := rfl
@[simp] theorem State.modPmu_lau (f : Pmu → Pmu) : (s.modPmu f).lau = s.lau := rfl
@[simp] theorem State.modPmu_psc (f : Pmu → Pmu) : (s.modPmu f).psc = s.psc := rfl
@[simp] theorem State.modPmu_gsq (f : Pmu → Pmu) : (s.modPmu f).gsq = s.gsq := rfl
@[simp] theorem State.modPmu_ltu (f : Pmu → Pmu) : (s.modPmu f).ltu = s.ltu := rfl
@[simp] theorem State.modPmu_mgu (f : Pmu → Pmu) : (s.modPmu f).mgu = s.mgu := rfl

@[simp] theorem State.modPim_pending (f : Pim → Pim) : (s.modPim f).pending = s.pending := rfl
@[simp] theorem State.modPim_signals (f : Pim → Pim) : (s.modPim f).signals = s.signals := rfl
@[simp] theorem State.modPim_now (f : Pim → Pim) : (s.modPim f).now = s.now := rfl
@[simp] theorem State.modPim_free (f : Pim → Pim) : (s.modPim f).free = s.free := rfl
@[simp] theorem State.modPim_powerFail (f : Pim → Pim) : (s.modPim f).powerFail = s.powerFail := rfl
@[simp] theorem State.modPim_cfg (f : Pim → Pim) : (s.modPim f).cfg = s.cfg := rfl
@[simp] theorem State.modPim_upp (f : Pim → Pim) : (s.modPim f).upp = s.upp := rfl
@[simp] theorem State.modPim_flc (f : Pim → Pim) : (s.modPim f).flc = s.flc := rfl
@[simp] theorem State.modPim_pmu (f : Pim → Pim) : (s.modPim f).pmu = s.pmu := rfl
@[simp] theorem State.modPim_pim (f : Pim → Pim) : (s.modPim f).pim = f s.pim := rfl
@[simp] theorem State.modPim_sau (f : Pim → Pim) : (s.modPim f).sau = s.sau := rfl
@[simp] theorem State.modPim_stc (f : Pim → Pim) : (s.modPim f).stc = s.stc := rfl
@[simp] theorem State.modPim_cau (f : Pim → Pim) : (s.modPim f).cau = s.cau := rfl
@[simp] theorem State.modPim_lau (f : Pim → Pim) : (s.modPim f).lau = s.lau := rfl
@[simp] theorem State.modPim_psc (f : Pim → Pim) : (s.modPim f).psc = s.psc := rfl
@[simp] theorem State.modPim_gsq (f : Pim → Pim) : (s.modPim f).gsq = s.gsq := rfl
@[simp] theorem State.modPim_ltu (f : Pim → Pim) : (s.modPim f).ltu = s.ltu := rfl
@[simp] theorem State.modPim_mgu (f : Pim → Pim) : (s.modPim f).mgu = s.mgu := rfl

@[simp] theorem State.modSau_pending (f : Sau → Sau) : (s.modSau f).pending = s.pending := rfl
@[simp] theorem State.modSau_signals (f : Sau → Sau) : (s.modSau f).signals = s.signals := rfl
@[simp] theorem State.modSau_now (f : Sau → Sau) : (s.modSau f).now = s.now := rfl
@[simp] theorem State.modSau_free (f : Sau → Sau) : (s.modSau f).free = s.free := rfl
@[simp] theorem State.modSau_powerFail (f : Sau → Sau) : (s.modSau f).powerFail = s.powerFail := rfl
@[simp] theorem State.modSau_cfg (f : Sau → Sau) : (s.modSau f).cfg = s.cfg := rfl
@[simp] theorem State.modSau_upp (f : Sau → Sau) : (s.modSau f).upp = s.upp := rfl
@[simp] theorem State.modSau_flc (f : Sau → Sau) : (s.modSau f).flc = s.flc := rfl
@[simp] theorem State.modSau_pmu (f : Sau → Sau) : (s.modSau f).pmu = s.pmu := rfl
@[simp] theorem State.modSau_pim (f : Sau → Sau) : (s.modSau f).pim = s.pim := rfl
@[simp] theorem State.modSau_sau (f : Sau → Sau) : (s.modSau f).sau = f s.sau := rfl
@[simp] theorem State.modSau_stc (f : Sau → Sau) : (s.modSau f).stc = s.stc := rfl
@[simp] theorem State.modSau_cau (f : Sau → Sau) : (s.modSau f).cau = s.cau := rfl
@[simp] theorem State.modSau_lau (f : Sau → Sau) : (s.modSau f).lau = s.lau := rfl
@[simp] theorem State.modSau_psc (f : Sau → Sau) : (s.modSau f).psc = s.psc := rfl
@[simp] theorem State.modSau_gsq (f : Sau → Sau) : (s.modSau f).gsq = s.gsq := rfl
@[simp] theorem State.modSau_ltu (f : Sau → Sau) : (s.modSau f).ltu = s.ltu := rfl
@[simp] theorem State.modSau_mgu (f : Sau → Sau) : (s.modSau f).mgu = s.mgu := rfl

@[simp] theorem State.modStc_pending (f : Stc → Stc) : (s.modStc f).pending = s.pending := rfl
@[simp] theorem State.modStc_signals (f : Stc → Stc) : (s.modStc f).signals = s.signals := rfl
@[simp] theorem State.modStc_now (f : Stc → Stc) : (s.modStc f).now = s.now := rfl
@[simp] theorem State.modStc_free (f : Stc → Stc) : (s.modStc f).free = s.free := rfl
@[simp] theorem State.modStc_powerFail (f : Stc → Stc) : (s.modStc f).powerFail = s.powerFail := rfl
@[simp] theorem State.modStc_cfg (f : Stc → Stc) : (s.modStc f).cfg = s.cfg := rfl
@[simp] theorem State.modStc_upp (f : Stc → Stc) : (s.modStc f).upp = s.upp := rfl
@[simp] theorem State.modStc_flc (f : Stc → Stc) : (s.modStc f).flc = s.flc := rfl
@[simp] theorem State.modStc_pmu (f : Stc → Stc) : (s.modStc f).pmu = s.pmu := rfl
@[simp] theorem State.modStc_pim (f : Stc → Stc) : (s.modStc f).pim = s.pim := rfl
@[simp] theorem State.modStc_sau (f : Stc → Stc) : (s.modStc f).sau = s.sau := rfl
@[simp] theorem State.modStc_stc (f : Stc → Stc) : (s.modStc f).stc = f s.stc := rfl
@[simp] theorem State.modStc_cau (f : Stc → Stc) : (s.modStc f).cau = s.cau := rfl
@[simp] theorem State.modStc_lau (f : Stc → Stc) : (s.modStc f).lau = s.lau := rfl
@[simp] theorem State.modStc_psc (f : Stc → Stc) : (s.modStc f).psc = s.psc := rfl
@[simp] theorem State.modStc_gsq (f : Stc → Stc) : (s.modStc f).gsq = s.gsq := rfl
@[simp] theorem State.modStc_ltu (f : Stc → Stc) : (s.modStc f).ltu = s.ltu := rfl
@[simp] theorem State.modStc_mgu (f : Stc → Stc) : (s.modStc f).mgu = s.mgu := rfl

@[simp] theorem State.modCau_pending (f : Cau → Cau) : (s.modCau f).pending = s.pending := rfl
@[simp] theorem State.modCau_signals (f : Cau → Cau) : (s.modCau f).signals = s.signals := rfl
@[simp] theorem State.modCau_now (f : Cau → Cau) : (s.modCau f).now = s.now := rfl
@[simp] theorem State.modCau_free (f : Cau → Cau) : (s.modCau f).free = s.free := rfl
@[simp] theorem State.modCau_powerFail (f : Cau → Cau) : (s.modCau f).powerFail = s.powerFail := rfl
@[simp] theorem State.modCau_cfg (f : Cau → Cau) : (s.modCau f).cfg = s.cfg := rfl
@[simp] theorem State.modCau_upp (f : Cau → Cau) : (s.modCau f).upp = s.upp := rfl
@[simp] theorem State.modCau_flc (f : Cau → Cau) : (s.modCau f).flc = s.flc := rfl
@[simp] theorem State.modCau_pmu (f : Cau → Cau) : (s.modCau f).pmu = s.pmu := rfl
@[simp] theorem State.modCau_pim (f : Cau → Cau) : (s.modCau f).pim = s.pim := rfl
@[simp] theorem State.modCau_sau (f : Cau → Cau) : (s.modCau f).sau = s.sau := rfl
@[simp] theorem State.modCau_stc (f : Cau → Cau) : (s.modCau f).stc = s.stc := rfl
@[simp] theorem State.modCau_cau (f : Cau → Cau) : (s.modCau f).cau = f s.cau := rfl
@[simp] theorem State.modCau_lau (f : Cau → Cau) : (s.modCau f).lau = s.lau := rfl
@[simp] theorem State.modCau_psc (f : Cau → Cau) : (s.modCau f).psc = s.psc := rfl
@[simp] theorem State.modCau_gsq (f : Cau → Cau) : (s.modCau f).gsq = s.gsq := rfl
@[simp] theorem State.modCau_ltu (f : Cau → Cau) : (s.modCau f).ltu = s.ltu := rfl
@[simp] theorem State.modCau_mgu (f : Cau → Cau) : (s.modCau f).mgu = s.mgu := rfl

@[simp] theorem State.modLau_pending (f : Lau → Lau) : (s.modLau f).pending = s.pending := rfl
@[simp] theorem State.modLau_signals (f : Lau → Lau) : (s.modLau f).signals = s.signals := rfl
@[simp] theorem State.modLau_now (f : Lau → Lau) : (s.modLau f).now = s.now := rfl
@[simp] theorem State.modLau_free (f : Lau → Lau) : (s.modLau f).free = s.free := rfl
@[simp] theorem State.modLau_powerFail (f : Lau → Lau) : (s.modLau f).powerFail = s.powerFail := rfl
@[simp] theorem State.modLau_cfg (f : Lau → Lau) : (s.modLau f).cfg = s.cfg := rfl
@[simp] theorem State.modLau_upp (f : Lau → Lau) : (s.modLau f).upp = s.upp := rfl
@[simp] theorem State.modLau_flc (f : Lau → Lau) : (s.modLau f).flc = s.flc := rfl
@[simp] theorem State.modLau_pmu (f : Lau → Lau) : (s.modLau f).pmu = s.pmu := rfl
@[simp] theorem State.modLau_pim (f : Lau → Lau) : (s.modLau f).pim = s.pim := rfl
@[simp] theorem State.modLau_sau (f : Lau → Lau) : (s.modLau f).sau = s.sau := rfl
@[simp] theorem State.modLau_stc (f : Lau → Lau) : (s.modLau f).stc = s.stc := rfl
@[simp] theorem State.modLau_cau (f : Lau → Lau) : (s.modLau f).cau = s.cau := rfl
@[simp] theorem State.modLau_lau (f : Lau → Lau) : (s.modLau f).lau = f s.lau := rfl
@[simp] theorem State.modLau_psc (f : Lau → Lau) : (s.modLau f).psc = s.psc := rfl
@[simp] theorem State.modLau_gsq (f : Lau → Lau) : (s.modLau f).gsq = s.gsq := rfl
@[simp] theorem State.modLau_ltu (f : Lau → Lau) : (s.modLau f).ltu = s.ltu := rfl
@[simp] theorem State.modLau_mgu (f : Lau → Lau) : (s.modLau f).mgu = s.mgu := rfl

@[simp] theorem State.modPsc_pending (f : Psc → Psc) : (s.modPsc f).pending = s.pending := rfl
@[simp] theorem State.modPsc_signals (f : Psc → Psc) : (s.modPsc f).signals = s.signals := rfl
@[simp] theorem State.modPsc_now (f : Psc → Psc) : (s.modPsc f).now = s.now := rfl
@[simp] theorem State.modPsc_free (f : Psc → Psc) : (s.modPsc f).free = s.free := rfl
@[simp] theorem State.modPsc_powerFail (f : Psc → Psc) : (s.modPsc f).powerFail = s.powerFail := rfl
@[simp] theorem State.modPsc_cfg (f : Psc → Psc) : (s.modPsc f).cfg = s.cfg := rfl
@[simp] theorem State.modPsc_upp (f : Psc → Psc) : (s.modPsc f).upp = s.upp := rfl
@[simp] theorem State.modPsc_flc (f : Psc → Psc) : (s.modPsc f).flc = s.flc := rfl
@[simp] theorem State.modPsc_pmu (f : Psc → Psc) : (s.modPsc f).pmu = s.pmu := rfl
@[simp] theorem State.modPsc_pim (f : Psc → Psc) : (s.modPsc f).pim = s.pim := rfl
@[simp] theorem State.modPsc_sau (f : Psc → Psc) : (s.modPsc f).sau = s.sau := rfl
@[simp] theorem State.modPsc_stc (f : Psc → Psc) : (s.modPsc f).stc = s.stc := rfl
@[simp] theorem State.modPsc_cau (f : Psc → Psc) : (s.modPsc f).cau = s.cau := rfl
@[simp] theorem State.modPsc_lau (f : Psc → Psc) : (s.modPsc f).lau = s.lau := rfl
@[simp] theorem State.modPsc_psc (f : Psc → Psc) : (s.modPsc f).psc = f s.psc := rfl
@[simp] theorem State.modPsc_gsq (f : Psc → Psc) : (s.modPsc f).gsq = s.gsq := rfl
@[simp] theorem State.modPsc_ltu (f : Psc → Psc) : (s.modPsc f).ltu = s.ltu := rfl
@[simp] theorem State.modPsc_mgu (f : Psc → Psc) : (s.modPsc f).mgu = s.mgu := rfl

@[simp] theorem State.modGsq_pending (f : Gsq → Gsq) : (s.modGsq f).pending = s.pending := rfl
@[simp] theorem State.modGsq_signals (f : Gsq → Gsq) : (s.modGsq f).signals = s.signals := rfl
@[simp] theorem State.modGsq_now (f : Gsq → Gsq) : (s.modGsq f).now = s.now := rfl
@[simp] theorem State.modGsq_free (f : Gsq → Gsq) : (s.modGsq f).free = s.free := rfl
@[simp] theorem State.modGsq_powerFail (f : Gsq → Gsq) : (s.modGsq f).powerFail = s.powerFail := rfl
@[simp] theorem State.modGsq_cfg (f : Gsq → Gsq) : (s.modGsq f).cfg = s.cfg := rfl
@[simp] theorem State.modGsq_upp (f : Gsq → Gsq) : (s.modGsq f).upp = s.upp := rfl
@[simp] theorem State.modGsq_flc (f : Gsq → Gsq) : (s.modGsq f).flc = s.flc := rfl
@[simp] theorem State.modGsq_pmu (f : Gsq → Gsq) : (s.modGsq f).pmu = s.pmu := rfl
@[simp] theorem State.modGsq_pim (f : Gsq → Gsq) : (s.modGsq f).pim = s.pim := rfl
@[simp] theorem State.modGsq_sau (f : Gsq → Gsq) : (s.modGsq f).sau = s.sau := rfl
@[simp] theorem State.modGsq_stc (f : Gsq → Gsq) : (s.modGsq f).stc = s.stc := rfl
@[simp] theorem State.modGsq_cau (f : Gsq → Gsq) : (s.modGsq f).cau = s.cau := rfl
@[simp] theorem State.modGsq_lau (f : Gsq → Gsq) : (s.modGsq f).lau = s.lau := rfl
@[simp] theorem State.modGsq_psc (f : Gsq → Gsq) : (s.modGsq f).psc = s.psc := rfl
@[simp] theorem State.modGsq_gsq (f : Gsq → Gsq) : (s.modGsq f).gsq = f s.gsq := rfl
@[simp] theorem State.modGsq_ltu (f : Gsq → Gsq) : (s.modGsq f).ltu = s.ltu := rfl
@[simp] theorem State.modGsq_mgu (f : Gsq → Gsq) : (s.modGsq f).mgu = s.mgu := rfl

@[simp] theorem State.modLtu_pending (f : Ltu → Ltu) : (s.modLtu f).pending = s.pending := rfl
@[simp] theorem State.modLtu_signals (f : Ltu → Ltu) : (s.modLtu f).signals = s.signals := rfl
@[simp] theorem State.modLtu_now (f : Ltu → Ltu) : (s.modLtu f).now = s.now := rfl
@[simp] theorem State.modLtu_free (f : Ltu → Ltu) : (s.modLtu f).free = s.free := rfl
@[simp] theorem State.modLtu_powerFail (f : Ltu → Ltu) : (s.modLtu f).powerFail = s.powerFail := rfl
@[simp] theorem State.modLtu_cfg (f : Ltu → Ltu) : (s.modLtu f).cfg = s.cfg := rfl
@[simp] theorem State.modLtu_upp (f : Ltu → Ltu) : (s.modLtu f).upp = s.upp := rfl
@[simp] theorem State.modLtu_flc (f : Ltu → Ltu) : (s.modLtu f).flc = s.flc := rfl
@[simp] theorem State.modLtu_pmu (f : Ltu → Ltu) : (s.modLtu f).pmu = s.pmu := rfl
@[simp] theorem State.modLtu_pim (f : Ltu → Ltu) : (s.modLtu f).pim = s.pim := rfl
@[simp] theorem State.modLtu_sau (f : Ltu → Ltu) : (s.modLtu f).sau = s.sau := rfl
@[simp] theorem State.modLtu_stc (f : Ltu → Ltu) : (s.modLtu f).stc = s.stc := rfl
@[simp] theorem State.modLtu_cau (f : Ltu → Ltu) : (s.modLtu f).cau = s.cau := rfl
@[simp] theorem State.modLtu_lau (f : Ltu → Ltu) : (s.modLtu f).lau = s.lau := rfl
@[simp] theorem State.modLtu_psc (f : Ltu → Ltu) : (s.modLtu f).psc = s.psc := rfl
@[simp] theorem State.modLtu_gsq (f : Ltu → Ltu) : (s.modLtu f).gsq = s.gsq := rfl
@[simp] theorem State.modLtu_ltu (f : Ltu → Ltu) : (s.modLtu f).ltu = f s.ltu := rfl
@[simp] theorem State.modLtu_mgu (f : Ltu → Ltu) : (s.modLtu f).mgu = s.mgu := rfl

@[simp] theorem State.modMgu_pending (f : Mgu → Mgu) : (s.modMgu f).pending = s.pending := rfl
@[simp] theorem State.modMgu_signals (f : Mgu → Mgu) : (s.modMgu f).signals = s.signals := rfl
@[simp] theorem State.modMgu_now (f : Mgu → Mgu) : (s.modMgu f).now = s.now := rfl
@[simp] theorem State.modMgu_free (f : Mgu → Mgu) : (s.modMgu f).free = s.free := rfl
@[simp] theorem State.modMgu_powerFail (f : Mgu → Mgu) : (s.modMgu f).powerFail = s.powerFail := rfl
@[simp] theorem State.modMgu_cfg (f : Mgu → Mgu) : (s.modMgu f).cfg = s.cfg := rfl
@[simp] theorem State.modMgu_upp (f : Mgu → Mgu) : (s.modMgu f).upp = s.upp := rfl
@[simp] theorem State.modMgu_flc (f : Mgu → Mgu) : (s.modMgu f).flc = s.flc := rfl
@[simp] theorem State.modMgu_pmu (f : Mgu → Mgu) : (s.modMgu f).pmu = s.pmu := rfl
@[simp] theorem State.modMgu_pim (f : Mgu → Mgu) : (s.modMgu f).pim = s.pim := rfl
@[simp] theorem State.modMgu_sau (f : Mgu → Mgu) : (s.modMgu f).sau = s.sau := rfl
@[simp] theorem State.modMgu_stc (f : Mgu → Mgu) : (s.modMgu f).stc = s.stc := rfl
@[simp] theorem State.modMgu_cau (f : Mgu → Mgu) : (s.modMgu f).cau = s.cau := rfl
@[simp] theorem State.modMgu_lau (f : Mgu → Mgu) : (s.modMgu f).lau = s.lau := rfl
@[simp] theorem State.modMgu_psc (f : Mgu → Mgu) : (s.modMgu f).psc = s.psc := rfl
@[simp] theorem State.modMgu_gsq (f : Mgu → Mgu) : (s.modMgu f).gsq = s.gsq := rfl
@[simp] theorem State.modMgu_ltu (f : Mgu → Mgu) : (s.modMgu f).ltu = s.ltu := rfl
@[simp] theorem State.modMgu_mgu (f : Mgu → Mgu) : (s.modMgu f).mgu = f s.mgu := rfl

@[simp] theorem State.emit_pending (x : Signal) : (s.emit x).pending = s.pending := rfl
@[simp] theorem State.emit_signals (x : Signal) : (s.emit x).signals = s.signals ++ [x] := rfl
@[simp] theorem State.emit_now (x : Signal) : (s.emit x).now = s.now := rfl
@[simp] theorem State.emit_free (x : Signal) : (s.emit x).free = s.free := rfl
@[simp] theorem State.emit_powerFail (x : Signal) : (s.emit x).powerFail = s.powerFail := rfl
@[simp] theorem State.emit_cfg (x : Signal) : (s.emit x).cfg = s.cfg := rfl
@[simp] theorem State.emit_upp (x : Signal) : (s.emit x).upp = s.upp := rfl
@[simp] theorem State.emit_flc (x : Signal) : (s.emit x).flc = s.flc := rfl
@[simp] theorem State.emit_pmu (x : Signal) : (s.emit x).pmu = s.pmu := rfl
@[simp] theorem State.emit_pim (x : Signal) : (s.emit x).pim = s.pim := rfl
@[simp] theorem State.emit_sau (x : Signal) : (s.emit x).sau = s.sau := rfl
@[simp] theorem State.emit_stc (x : Signal) : (s.emit x).stc = s.stc := rfl
@[simp] theorem State.emit_cau (x : Signal) : (s.emit x).cau = s.cau := rfl
@[simp] theorem State.emit_lau (x : Signal) : (s.emit x).lau = s.lau := rfl
@[simp] theorem State.emit_psc (x : Signal) : (s.emit x).psc = s.psc := rfl
@[simp] theorem State.emit_gsq (x : Signal) : (s.emit x).gsq = s.gsq := rfl
@[simp] theorem State.emit_ltu (x : Signal) : (s.emit x).ltu = s.ltu := rfl
@[simp] theorem State.emit_mgu (x : Signal) : (s.emit x).mgu = s.mgu := rfl

@[simp] theorem State.advance_pending (x : Nat) : (s.advance x).pending = s.pending := rfl
@[simp] theorem State.advance_signals (x : Nat) : (s.advance x).signals = s.signals := rfl
@[simp] theorem State.advance_now (x : Nat) : (s.advance x).now = max s.now x := rfl
@[simp] theorem State.advance_free (x : Nat) : (s.advance x).free = s.free := rfl
@[simp] theorem State.advance_powerFail (x : Nat) : (s.advance x).powerFail = s.powerFail := rfl
@[simp] theorem State.advance_cfg (x : Nat) : (s.advance x).cfg = s.cfg := rfl
@[simp] theorem State.advance_upp (x : Nat) : (s.advance x).upp = s.upp := rfl
@[simp] theorem State.advance_flc (x : Nat) : (s.advance x).flc = s.flc := rfl
@[simp] theorem State.advance_pmu (x : Nat) : (s.advance x).pmu = s.pmu := rfl
@[simp] theorem State.advance_pim (x : Nat) : (s.advance x).pim = s.pim := rfl
@[simp] theorem State.advance_sau (x : Nat) : (s.advance x).sau = s.sau := rfl
@[simp] theorem State.advance_stc (x : Nat) : (s.advance x).stc = s.stc := rfl
@[simp] theorem State.advance_cau (x : Nat) : (s.advance x).cau = s.cau := rfl
@[simp] theorem State.advance_lau (x : Nat) : (s.advance x).lau = s.lau := rfl
@[simp] theorem State.advance_psc (x : Nat) : (s.advance x).psc = s.psc := rfl
@[simp] theorem State.advance_gsq (x : Nat) : (s.advance x).gsq = s.gsq := rfl
@[simp] theorem State.advance_ltu (x : Nat) : (s.advance x).ltu = s.ltu := rfl
@[simp] theorem State.advance_mgu (x : Nat) : (s.advance x).mgu = s.mgu := rfl

end Sys2Proof.Machine
end

