-- ==== Sys2Proof/Laws/Upstream.lean ====
section
/-! SUPPORT. What the operations on the Upstream Queue and the Path Fault Record leave as it is: one lemma per field. -/

set_option Elab.async false

namespace Sys2Proof.Machine

variable (s : State)


@[simp] theorem raiseNotice_pending (code : Nat) (data : List Word) : (raiseNotice code data s).pending = s.pending := rfl
@[simp] theorem raiseNotice_signals (code : Nat) (data : List Word) : (raiseNotice code data s).signals = s.signals := rfl
@[simp] theorem raiseNotice_now (code : Nat) (data : List Word) : (raiseNotice code data s).now = s.now := rfl
@[simp] theorem raiseNotice_free (code : Nat) (data : List Word) : (raiseNotice code data s).free = s.free := rfl
@[simp] theorem raiseNotice_powerFail (code : Nat) (data : List Word) : (raiseNotice code data s).powerFail = s.powerFail := rfl
@[simp] theorem raiseNotice_cfg (code : Nat) (data : List Word) : (raiseNotice code data s).cfg = s.cfg := rfl
@[simp] theorem raiseNotice_flc (code : Nat) (data : List Word) : (raiseNotice code data s).flc = s.flc := rfl
@[simp] theorem raiseNotice_pmu (code : Nat) (data : List Word) : (raiseNotice code data s).pmu = s.pmu := rfl
@[simp] theorem raiseNotice_pim (code : Nat) (data : List Word) : (raiseNotice code data s).pim = s.pim := rfl
@[simp] theorem raiseNotice_sau (code : Nat) (data : List Word) : (raiseNotice code data s).sau = s.sau := rfl
@[simp] theorem raiseNotice_stc (code : Nat) (data : List Word) : (raiseNotice code data s).stc = s.stc := rfl
@[simp] theorem raiseNotice_cau (code : Nat) (data : List Word) : (raiseNotice code data s).cau = s.cau := rfl
@[simp] theorem raiseNotice_lau (code : Nat) (data : List Word) : (raiseNotice code data s).lau = s.lau := rfl
@[simp] theorem raiseNotice_psc (code : Nat) (data : List Word) : (raiseNotice code data s).psc = s.psc := rfl
@[simp] theorem raiseNotice_gsq (code : Nat) (data : List Word) : (raiseNotice code data s).gsq = s.gsq := rfl
@[simp] theorem raiseNotice_ltu (code : Nat) (data : List Word) : (raiseNotice code data s).ltu = s.ltu := rfl
@[simp] theorem raiseNotice_mgu (code : Nat) (data : List Word) : (raiseNotice code data s).mgu = s.mgu := rfl

@[simp] theorem logFault_pending (u : FaultUpdate) : (logFault u s).pending = s.pending := by
  unfold logFault; split <;> rfl
@[simp] theorem logFault_signals (u : FaultUpdate) : (logFault u s).signals = s.signals := by
  unfold logFault; split <;> rfl
@[simp] theorem logFault_now (u : FaultUpdate) : (logFault u s).now = s.now := by
  unfold logFault; split <;> rfl
@[simp] theorem logFault_free (u : FaultUpdate) : (logFault u s).free = s.free := by
  unfold logFault; split <;> rfl
@[simp] theorem logFault_powerFail (u : FaultUpdate) : (logFault u s).powerFail = s.powerFail := by
  unfold logFault; split <;> rfl
@[simp] theorem logFault_cfg (u : FaultUpdate) : (logFault u s).cfg = s.cfg := by
  unfold logFault; split <;> rfl
@[simp] theorem logFault_flc (u : FaultUpdate) : (logFault u s).flc = s.flc := by
  unfold logFault; split <;> rfl
@[simp] theorem logFault_pim (u : FaultUpdate) : (logFault u s).pim = s.pim := by
  unfold logFault; split <;> rfl
@[simp] theorem logFault_sau (u : FaultUpdate) : (logFault u s).sau = s.sau := by
  unfold logFault; split <;> rfl
@[simp] theorem logFault_stc (u : FaultUpdate) : (logFault u s).stc = s.stc := by
  unfold logFault; split <;> rfl
@[simp] theorem logFault_cau (u : FaultUpdate) : (logFault u s).cau = s.cau := by
  unfold logFault; split <;> rfl
@[simp] theorem logFault_lau (u : FaultUpdate) : (logFault u s).lau = s.lau := by
  unfold logFault; split <;> rfl
@[simp] theorem logFault_psc (u : FaultUpdate) : (logFault u s).psc = s.psc := by
  unfold logFault; split <;> rfl
@[simp] theorem logFault_gsq (u : FaultUpdate) : (logFault u s).gsq = s.gsq := by
  unfold logFault; split <;> rfl
@[simp] theorem logFault_ltu (u : FaultUpdate) : (logFault u s).ltu = s.ltu := by
  unfold logFault; split <;> rfl
@[simp] theorem logFault_mgu (u : FaultUpdate) : (logFault u s).mgu = s.mgu := by
  unfold logFault; split <;> rfl

@[simp] theorem offerUp_pending (e : UpEntry) : (offerUp e s).pending = s.pending := by
  unfold offerUp
  split
  · rfl
  · split
    · rfl
    · rw [logFault_pending]; split <;> rfl
@[simp] theorem offerUp_signals (e : UpEntry) : (offerUp e s).signals = s.signals := by
  unfold offerUp
  split
  · rfl
  · split
    · rfl
    · rw [logFault_signals]; split <;> rfl
@[simp] theorem offerUp_now (e : UpEntry) : (offerUp e s).now = s.now := by
  unfold offerUp
  split
  · rfl
  · split
    · rfl
    · rw [logFault_now]; split <;> rfl
@[simp] theorem offerUp_free (e : UpEntry) : (offerUp e s).free = s.free := by
  unfold offerUp
  split
  · rfl
  · split
    · rfl
    · rw [logFault_free]; split <;> rfl
@[simp] theorem offerUp_powerFail (e : UpEntry) : (offerUp e s).powerFail = s.powerFail := by
  unfold offerUp
  split
  · rfl
  · split
    · rfl
    · rw [logFault_powerFail]; split <;> rfl
@[simp] theorem offerUp_cfg (e : UpEntry) : (offerUp e s).cfg = s.cfg := by
  unfold offerUp
  split
  · rfl
  · split
    · rfl
    · rw [logFault_cfg]; split <;> rfl
@[simp] theorem offerUp_flc (e : UpEntry) : (offerUp e s).flc = s.flc := by
  unfold offerUp
  split
  · rfl
  · split
    · rfl
    · rw [logFault_flc]; split <;> rfl
@[simp] theorem offerUp_pim (e : UpEntry) : (offerUp e s).pim = s.pim := by
  unfold offerUp
  split
  · rfl
  · split
    · rfl
    · rw [logFault_pim]; split <;> rfl
@[simp] theorem offerUp_sau (e : UpEntry) : (offerUp e s).sau = s.sau := by
  unfold offerUp
  split
  · rfl
  · split
    · rfl
    · rw [logFault_sau]; split <;> rfl
@[simp] theorem offerUp_stc (e : UpEntry) : (offerUp e s).stc = s.stc := by
  unfold offerUp
  split
  · rfl
  · split
    · rfl
    · rw [logFault_stc]; split <;> rfl
@[simp] theorem offerUp_cau (e : UpEntry) : (offerUp e s).cau = s.cau := by
  unfold offerUp
  split
  · rfl
  · split
    · rfl
    · rw [logFault_cau]; split <;> rfl
@[simp] theorem offerUp_lau (e : UpEntry) : (offerUp e s).lau = s.lau := by
  unfold offerUp
  split
  · rfl
  · split
    · rfl
    · rw [logFault_lau]; split <;> rfl
@[simp] theorem offerUp_psc (e : UpEntry) : (offerUp e s).psc = s.psc := by
  unfold offerUp
  split
  · rfl
  · split
    · rfl
    · rw [logFault_psc]; split <;> rfl
@[simp] theorem offerUp_gsq (e : UpEntry) : (offerUp e s).gsq = s.gsq := by
  unfold offerUp
  split
  · rfl
  · split
    · rfl
    · rw [logFault_gsq]; split <;> rfl
@[simp] theorem offerUp_ltu (e : UpEntry) : (offerUp e s).ltu = s.ltu := by
  unfold offerUp
  split
  · rfl
  · split
    · rfl
    · rw [logFault_ltu]; split <;> rfl

/-- An entry that is not the ANSWER of a RESTART leaves the Management Unit as it is. -/
theorem offerUp_mgu (e : UpEntry) (h : e.restartAnswer = false) : (offerUp e s).mgu = s.mgu := by
  unfold offerUp
  split
  · rfl
  · split
    · rfl
    · simp [h]

@[simp] theorem answer_pending (tag : Tag) (code status : Nat) (data : List Word) :
    (answer tag code status data s).pending = s.pending := offerUp_pending s _
@[simp] theorem refuse_pending (w : Frame) (reason : Nat) : (refuse w reason s).pending = s.pending := offerUp_pending s _
@[simp] theorem answer_signals (tag : Tag) (code status : Nat) (data : List Word) :
    (answer tag code status data s).signals = s.signals := offerUp_signals s _
@[simp] theorem refuse_signals (w : Frame) (reason : Nat) : (refuse w reason s).signals = s.signals := offerUp_signals s _
@[simp] theorem answer_now (tag : Tag) (code status : Nat) (data : List Word) :
    (answer tag code status data s).now = s.now := offerUp_now s _
@[simp] theorem refuse_now (w : Frame) (reason : Nat) : (refuse w reason s).now = s.now := offerUp_now s _
@[simp] theorem answer_free (tag : Tag) (code status : Nat) (data : List Word) :
    (answer tag code status data s).free = s.free := offerUp_free s _
@[simp] theorem refuse_free (w : Frame) (reason : Nat) : (refuse w reason s).free = s.free := offerUp_free s _
@[simp] theorem answer_powerFail (tag : Tag) (code status : Nat) (data : List Word) :
    (answer tag code status data s).powerFail = s.powerFail := offerUp_powerFail s _
@[simp] theorem refuse_powerFail (w : Frame) (reason : Nat) : (refuse w reason s).powerFail = s.powerFail := offerUp_powerFail s _
@[simp] theorem answer_cfg (tag : Tag) (code status : Nat) (data : List Word) :
    (answer tag code status data s).cfg = s.cfg := offerUp_cfg s _
@[simp] theorem refuse_cfg (w : Frame) (reason : Nat) : (refuse w reason s).cfg = s.cfg := offerUp_cfg s _
@[simp] theorem answer_flc (tag : Tag) (code status : Nat) (data : List Word) :
    (answer tag code status data s).flc = s.flc := offerUp_flc s _
@[simp] theorem refuse_flc (w : Frame) (reason : Nat) : (refuse w reason s).flc = s.flc := offerUp_flc s _
@[simp] theorem answer_pim (tag : Tag) (code status : Nat) (data : List Word) :
    (answer tag code status data s).pim = s.pim := offerUp_pim s _
@[simp] theorem refuse_pim (w : Frame) (reason : Nat) : (refuse w reason s).pim = s.pim := offerUp_pim s _
@[simp] theorem answer_sau (tag : Tag) (code status : Nat) (data : List Word) :
    (answer tag code status data s).sau = s.sau := offerUp_sau s _
@[simp] theorem refuse_sau (w : Frame) (reason : Nat) : (refuse w reason s).sau = s.sau := offerUp_sau s _
@[simp] theorem answer_stc (tag : Tag) (code status : Nat) (data : List Word) :
    (answer tag code status data s).stc = s.stc := offerUp_stc s _
@[simp] theorem refuse_stc (w : Frame) (reason : Nat) : (refuse w reason s).stc = s.stc := offerUp_stc s _
@[simp] theorem answer_cau (tag : Tag) (code status : Nat) (data : List Word) :
    (answer tag code status data s).cau = s.cau := offerUp_cau s _
@[simp] theorem refuse_cau (w : Frame) (reason : Nat) : (refuse w reason s).cau = s.cau := offerUp_cau s _
@[simp] theorem answer_lau (tag : Tag) (code status : Nat) (data : List Word) :
    (answer tag code status data s).lau = s.lau := offerUp_lau s _
@[simp] theorem refuse_lau (w : Frame) (reason : Nat) : (refuse w reason s).lau = s.lau := offerUp_lau s _
@[simp] theorem answer_psc (tag : Tag) (code status : Nat) (data : List Word) :
    (answer tag code status data s).psc = s.psc := offerUp_psc s _
@[simp] theorem refuse_psc (w : Frame) (reason : Nat) : (refuse w reason s).psc = s.psc := offerUp_psc s _
@[simp] theorem answer_gsq (tag : Tag) (code status : Nat) (data : List Word) :
    (answer tag code status data s).gsq = s.gsq := offerUp_gsq s _
@[simp] theorem refuse_gsq (w : Frame) (reason : Nat) : (refuse w reason s).gsq = s.gsq := offerUp_gsq s _
@[simp] theorem answer_ltu (tag : Tag) (code status : Nat) (data : List Word) :
    (answer tag code status data s).ltu = s.ltu := offerUp_ltu s _
@[simp] theorem refuse_ltu (w : Frame) (reason : Nat) : (refuse w reason s).ltu = s.ltu := offerUp_ltu s _
@[simp] theorem answer_mgu (tag : Tag) (code status : Nat) (data : List Word) :
    (answer tag code status data s).mgu = s.mgu := offerUp_mgu s _ rfl
@[simp] theorem refuse_mgu (w : Frame) (reason : Nat) : (refuse w reason s).mgu = s.mgu := offerUp_mgu s _ rfl

end Sys2Proof.Machine
end

