-- ==== Sys2Proof/Laws/Rest.lean ====
section
/-! SUPPORT. The delivery of events: a state at rest is left as it is, and every delivery ends at rest. -/

namespace Sys2Proof.Machine

theorem lauSettle_of_judged {s : State} (h : s.lau.judgeDue = false) : lauSettle s = s := by
  simp [lauSettle, h]

theorem lauSettle_judged (s : State) : (lauSettle s).lau.judgeDue = false := by
  unfold lauSettle
  split
  · rfl
  · exact Bool.eq_false_iff.mpr ‹_›

/-- A state at rest has nothing to deliver. -/
theorem quiesce_of_rest {s : State} (h : s.AtRest) : quiesce s = s := by
  unfold quiesce quiesceLoop
  simp only [lauSettle_of_judged h.2]
  rw [h.1]

theorem quiesceLoop_atRest (n : Nat) (s : State) : (quiesceLoop n s).AtRest := by
  induction n generalizing s with
  | zero => exact ⟨rfl, lauSettle_judged s⟩
  | succ n ih =>
    unfold quiesceLoop
    simp only
    split
    · exact ⟨‹_›, lauSettle_judged s⟩
    · exact ih _

/-- Every delivery of events ends at rest. -/
theorem quiesce_atRest (s : State) : (quiesce s).AtRest := quiesceLoop_atRest 256 s

/-- An operation that touches neither the events under delivery nor the LAU keeps the state at rest. -/
theorem atRest_of_same {s t : State} (h : s.AtRest) (h1 : t.signals = s.signals) (h2 : t.lau = s.lau) : t.AtRest := by
  exact ⟨h1.trans h.1, by rw [h2]; exact h.2⟩

/-- A command whose own effect ends at rest answers just that effect. -/
theorem next_quiesce_of_rest {s : State} (h : s.AtRest) :
    (Host.Outcome.next (quiesce s) : Host.Outcome State Fault Refusal) = .next s := by rw [quiesce_of_rest h]

end Sys2Proof.Machine
end

