-- ==== Sys2Proof/Laws/Steady.lean ====
section
/-! SUPPORT. The delivery of events between the blocks, and everything the blocks do under it, leaves the steady part of the state
as it is. -/

set_option Elab.async false

namespace Sys2Proof.Machine

variable (s : State)

/-! ## Leaves -/

theorem map_put {α β : Type} {n : Nat} (f : α → β) (v : Vector α n) (i : Fin n) (a : α) (h : f a = f (Tab.get v i)) :
    (Tab.put v i a).map f = v.map f := by
  ext j hj
  simp only [Tab.put, Vector.getElem_map, Vector.getElem_set]
  split
  · subst_vars; exact h
  · rfl

theorem modPoint_steady (p : PointId) (f : PointState → PointState)
    (h : ∀ t : PointState, { f t with changed := false, commanded := 0, command := .idle } =
      { t with changed := false, commanded := 0, command := .idle }) : (s.modPoint p f).steady = s.steady := by
  simp only [State.steady, State.modPoint, State.modPim]
  congr 2
  exact map_put _ _ _ _ (h _)

@[simp] theorem emit_steady (x : Signal) : (s.emit x).steady = s.steady := rfl
@[simp] theorem raiseNotice_steady (code : Nat) (data : List Word) : (raiseNotice code data s).steady = s.steady := rfl
@[simp] theorem modPump_steady (p : PumpId) (f : PumpState → PumpState) : (s.modPump p f).steady = s.steady := rfl
@[simp] theorem modBarrier_steady (b : BarrierId) (f : BarrierState → BarrierState) : (s.modBarrier b f).steady = s.steady := rfl
@[simp] theorem modGate_steady (f : GateState → GateState) : (s.modGate f).steady = s.steady := rfl
@[simp] theorem modZone_steady (z : ZoneId) (f : ZoneState → ZoneState) : (s.modZone z f).steady = s.steady := rfl
theorem modLau_steady (f : Lau → Lau) (h1 : (f s.lau).mode = s.lau.mode) (h2 : (f s.lau).clearToStart = s.lau.clearToStart) :
    (s.modLau f).steady = s.steady := by simp [State.steady, h1, h2]

theorem foldl_steady {α : Type} (l : List α) (f : State → α → State) (h : ∀ s a, (f s a).steady = s.steady) (s : State) :
    (l.foldl f s).steady = s.steady := by
  induction l generalizing s with
  | nil => rfl
  | cons a l ih => rw [List.foldl_cons, ih, h]

@[simp] theorem requestCommand_steady (p : PointId) (v : Word) : (requestCommand p v s).steady = s.steady := by
  unfold requestCommand
  split
  · rfl
  · refine Eq.trans (modPoint_steady _ p _ ?_) rfl
    intro t; rfl

@[simp] theorem commandPoint_steady (o : Option PointId) (v : Word) : (commandPoint o v s).steady = s.steady := by
  unfold commandPoint
  split <;> simp

/-! ## Whether the JOBS decide (R111) -/

theorem decides_iff : s.decides = true ↔ s.flc.line ≠ .quenched := by simp [State.decides]
@[simp] theorem modPump_decides (p : PumpId) (f : PumpState → PumpState) : (s.modPump p f).decides = s.decides := rfl
@[simp] theorem modBarrier_decides (b : BarrierId) (f : BarrierState → BarrierState) : (s.modBarrier b f).decides = s.decides := rfl
@[simp] theorem modGate_decides (f : GateState → GateState) : (s.modGate f).decides = s.decides := rfl
@[simp] theorem modZone_decides (z : ZoneId) (f : ZoneState → ZoneState) : (s.modZone z f).decides = s.decides := rfl
@[simp] theorem modLau_decides (f : Lau → Lau) : (s.modLau f).decides = s.decides := rfl

/-! ## The LAU's own tables -/

@[simp] theorem reportPump_steady (p : PumpId) (m : PumpMode) : (reportPump p m s).steady = s.steady := rfl
@[simp] theorem reportMotor_steady (i : Fin 5) (kw : Nat) : (reportMotor i kw s).steady = s.steady := rfl
@[simp] theorem reportZoneLoad_steady (z : ZoneId) (a b : Nat) : (reportZoneLoad z a b s).steady = s.steady := rfl

@[simp] theorem post_steady (d : Device) (c k f i : Nat) : (post d c k f i s).1.steady = s.steady := by
  unfold post
  split
  · rfl
  · simp only
    split <;> rfl

@[simp] theorem withdraw_steady (d : Device) : (withdraw d s).steady = s.steady := by
  unfold withdraw
  split <;> rfl

/-! ## Pumps -/

@[simp] theorem pscReadiness_steady : (pscReadiness s).steady = s.steady := by
  unfold pscReadiness
  split <;> rfl

@[simp] theorem pumpGo_steady (p : PumpId) (m : PumpMode) : (pumpGo p m s).steady = s.steady := by simp [pumpGo]

@[simp] theorem numberStart_steady (p : PumpId) : (numberStart p s).steady = s.steady := rfl

@[simp] theorem pumpSettle_steady (p : PumpId) : (pumpSettle p s).steady = s.steady := by
  unfold pumpSettle
  simp only
  split <;> simp

@[simp] theorem pumpGrant_steady (p : PumpId) : (pumpGrant p s).steady = s.steady := by
  unfold pumpGrant
  split <;> simp

@[simp] theorem pumpStop_steady (p : PumpId) (r : StopReason) : (pumpStop p r s).steady = s.steady := by
  unfold pumpStop
  split <;> simp

@[simp] theorem pumpFault_steady (p : PumpId) (c : Nat) : (pumpFault p c s).steady = s.steady := by
  unfold pumpFault
  simp only
  split <;> simp

@[simp] theorem pumpShed_steady (p : PumpId) : (pumpShed p s).steady = s.steady := by
  unfold pumpShed
  split <;> simp

@[simp] theorem pumpFoundRunning_steady (p : PumpId) : (pumpFoundRunning p s).steady = s.steady := by
  unfold pumpFoundRunning
  simp only
  split <;> simp

@[simp] theorem pumpRederive_steady (p : PumpId) : (pumpRederive p s).steady = s.steady := by
  unfold pumpRederive
  simp only
  repeat' split
  all_goals simp

/-! ## Barriers and the gate -/

@[simp] theorem aspectJudge_steady (a : Bool) (b : BarrierId) : (aspectJudge a b s).steady = s.steady := by
  unfold aspectJudge
  simp only
  repeat' split
  all_goals simp

@[simp] theorem summaryReport_steady : (summaryReport s).steady = s.steady := by
  unfold summaryReport
  split
  all_goals
    refine (apply_ite State.steady _ _ _).trans ?_
    split <;> rfl

@[simp] theorem gsqReadiness_steady : (gsqReadiness s).steady = s.steady := by
  unfold gsqReadiness
  split <;> rfl

@[simp] theorem barrierGo_steady (b : BarrierId) (m : BarrierMode) : (barrierGo b m s).steady = s.steady := by simp [barrierGo]

@[simp] theorem barrierPost_steady (b : BarrierId) (c : Nat) : (barrierPost b c s).1.steady = s.steady := by simp [barrierPost]

@[simp] theorem barrierPostGo_steady (b : BarrierId) (c : Nat) (m : BarrierMode) :
    (barrierPostGo b c m s).steady = s.steady := by
  unfold barrierPostGo
  simp only
  split <;> simp

@[simp] theorem barrierPostStay_steady (b : BarrierId) (c : Nat) : (barrierPostStay b c s).steady = s.steady := by
  unfold barrierPostStay
  split <;> simp

@[simp] theorem toClearing_steady (b : BarrierId) : (toClearing b s).steady = s.steady := by simp [toClearing]
@[simp] theorem toClearingStopped_steady (b : BarrierId) : (toClearingStopped b s).steady = s.steady := by simp [toClearingStopped]
@[simp] theorem closingPost_steady (b : BarrierId) : (closingPost b s).steady = s.steady := by simp [closingPost]
@[simp] theorem startTravel_steady (b : BarrierId) : (startTravel b s).steady = s.steady := by simp [startTravel]
@[simp] theorem barrierMove_steady (b : BarrierId) (m : BarrierMode) (v : Word) : (barrierMove b m v s).steady = s.steady := by
  simp [barrierMove]
@[simp] theorem stopTravel_steady (b : BarrierId) : (stopTravel b s).steady = s.steady := by simp [stopTravel]
@[simp] theorem withdrawToClosed_steady (b : BarrierId) : (withdrawToClosed b s).steady = s.steady := by simp [withdrawToClosed]

@[simp] theorem barrierAct_steady (b : BarrierId) : (barrierAct b s).steady = s.steady := by
  unfold barrierAct
  simp only
  repeat' split
  all_goals simp

@[simp] theorem barrierEval_steady (b : BarrierId) : (barrierEval b s).steady = s.steady := by
  unfold barrierEval
  repeat' split
  all_goals simp

@[simp] theorem barrierFaultEnter_steady (b : BarrierId) (m : BarrierMode) (c : Nat) :
    (barrierFaultEnter b m c s).steady = s.steady := by simp [barrierFaultEnter]

@[simp] theorem barrierFault_steady (b : BarrierId) (m : BarrierMode) (c : Nat) : (barrierFault b m c s).steady = s.steady := by
  unfold barrierFault
  split <;> simp

@[simp] theorem barrierGrant_steady (b : BarrierId) : (barrierGrant b s).steady = s.steady := by
  unfold barrierGrant
  repeat' split
  all_goals simp

@[simp] theorem gateLeftClosed_steady : (gateLeftClosed s).steady = s.steady := by
  unfold gateLeftClosed
  apply foldl_steady
  intro s k
  split
  · simp only [State.steady, State.modSau]
    congr 2
    exact map_put _ _ _ _ rfl
  · rfl

@[simp] theorem gateGo_steady (m : GateMode) : (gateGo m s).steady = s.steady := by
  unfold gateGo
  simp only [gsqReadiness_steady]
  split <;> simp

@[simp] theorem gatePost_steady (c : Nat) : (gatePost c s).1.steady = s.steady := by simp [gatePost]

@[simp] theorem gatePostGo_steady (c : Nat) (m : GateMode) : (gatePostGo c m s).steady = s.steady := by
  unfold gatePostGo
  simp only
  split <;> simp

@[simp] theorem gatePostStay_steady (c : Nat) : (gatePostStay c s).steady = s.steady := by
  unfold gatePostStay
  split <;> simp

@[simp] theorem gateMove_steady (m : GateMode) (v : Word) : (gateMove m v s).steady = s.steady := by simp [gateMove]

@[simp] theorem gateEval_steady : (gateEval s).steady = s.steady := by
  unfold gateEval
  simp only
  repeat' split
  all_goals simp

@[simp] theorem gateFaultEnter_steady (c : Nat) : (gateFaultEnter c s).steady = s.steady := by simp [gateFaultEnter]

@[simp] theorem gateFault_steady (c : Nat) : (gateFault c s).steady = s.steady := by
  unfold gateFault
  split <;> simp

@[simp] theorem gateGrant_steady : (gateGrant s).steady = s.steady := by
  unfold gateGrant
  split <;> simp

/-! ## Zones -/

@[simp] theorem zoneReport_steady (z : ZoneId) : (zoneReport z s).steady = s.steady := by simp [zoneReport]
@[simp] theorem dimRequest_steady (z : ZoneId) : (dimRequest z s).steady = s.steady := by simp [dimRequest]
@[simp] theorem commandLevel_steady (z : ZoneId) (n : Nat) : (commandLevel z n s).steady = s.steady := by simp [commandLevel]

@[simp] theorem restorationPost_steady (z : ZoneId) : (restorationPost z s).steady = s.steady := by
  unfold restorationPost
  simp only
  repeat' split
  all_goals simp

@[simp] theorem restorationUpdate_steady (z : ZoneId) : (restorationUpdate z s).steady = s.steady := by
  unfold restorationUpdate
  simp only
  repeat' split
  all_goals simp

@[simp] theorem zoneRamp_steady (z : ZoneId) : (zoneRamp z s).steady = s.steady := by
  unfold zoneRamp
  simp only
  split <;> simp

@[simp] theorem zoneRederive_steady (z : ZoneId) : (zoneRederive z s).steady = s.steady := by
  unfold zoneRederive
  simp only [zoneReport_steady]
  split <;> simp

@[simp] theorem zoneShed_steady (z : ZoneId) : (zoneShed z s).steady = s.steady := by
  unfold zoneShed
  split <;> simp

@[simp] theorem zoneShedEnd_steady (z : ZoneId) : (zoneShedEnd z s).steady = s.steady := by
  unfold zoneShedEnd
  split <;> simp

@[simp] theorem zoneGrant_steady (z : ZoneId) : (zoneGrant z s).steady = s.steady := by
  unfold zoneGrant
  split <;> simp

/-! ## The judgements of the LAU -/

@[simp] theorem deliverGrant_steady (d : Device) : (deliverGrant d s).steady = s.steady := by
  unfold deliverGrant
  split <;> simp

@[simp] theorem grantHead_steady (r : Request) (q : List Request) : (grantHead r q s).steady = s.steady := by
  rw [grantHead, deliverGrant_steady]; rfl

@[simp] theorem shedBegin_steady : (shedBegin s).steady = s.steady := by
  unfold shedBegin
  simp only
  rw [modLau_steady _ _ rfl rfl, foldl_steady _ _ (fun s z => zoneShed_steady s z)]
  rfl

@[simp] theorem shedIssue_steady (p : PumpId) : (shedIssue p s).steady = s.steady := by
  rw [shedIssue, pumpShed_steady]; rfl

@[simp] theorem shedEnd_steady : (shedEnd s).steady = s.steady := by
  rw [shedEnd, foldl_steady _ _ (fun s z => zoneShedEnd_steady s z)]; rfl

theorem lauShed_steady {s t : State} (h : lauRound.lauShed s = some t) : t.steady = s.steady := by
  unfold lauRound.lauShed at h
  split at h
  · rw [← Option.some.inj h]; simp
  · split at h
    · rw [← Option.some.inj h]; simp
    · split at h
      · rw [← Option.some.inj h]; simp
      · cases h

theorem lauRound_steady {s t : State} (h : lauRound s = some t) : t.steady = s.steady := by
  unfold lauRound at h
  split at h
  · split at h
    · rw [← Option.some.inj h]; simp
    · exact lauShed_steady h
  · exact lauShed_steady h

@[simp] theorem lauLoop_steady (n : Nat) : (lauLoop n s).steady = s.steady := by
  induction n generalizing s with
  | zero => rfl
  | succ n ih =>
    unfold lauLoop
    split
    · rw [ih, lauRound_steady ‹_›]
    · rfl

@[simp] theorem lauSettle_steady : (lauSettle s).steady = s.steady := by
  unfold lauSettle
  split
  · rw [modLau_steady _ _ rfl rfl, lauLoop_steady]
  · rfl

theorem eachDevice_steady {α : Type} (l : List α) (f : α → State → State) (h : ∀ a s, (f a s).steady = s.steady) :
    (eachDevice l f s).steady = s.steady :=
  foldl_steady _ _ (fun s a => by rw [lauSettle_steady, h]) s

@[simp] theorem gsqEvaluate_steady : (gsqEvaluate s).steady = s.steady := by
  simp [gsqEvaluate, eachDevice_steady s fourIds barrierEval (fun b s => barrierEval_steady s b)]

/-! ## The Pump Scheduler -/

@[simp] theorem pumpObeyStop_steady (p : PumpId) : (pumpObeyStop p s).steady = s.steady := by
  unfold pumpObeyStop
  repeat' split
  all_goals simp

@[simp] theorem withdrawExcess_steady (k : SumpId) (d : Nat) : (withdrawExcess k d s).steady = s.steady := by
  unfold withdrawExcess
  apply foldl_steady
  intro s p
  split <;> simp

@[simp] theorem reduceSump_steady (k : SumpId) (d : Nat) : (reduceSump k d s).steady = s.steady := by
  have h : (withdrawExcess k d ((s.pumpsOf k).foldl (fun s p => pumpObeyStop p s) s)).steady = s.steady := by
    rw [withdrawExcess_steady, foldl_steady _ _ (fun s p => pumpObeyStop_steady s p)]
  unfold reduceSump
  simp only
  repeat' split
  all_goals simp [h]

@[simp] theorem postPump_steady (k : SumpId) (d : Nat) (p : PumpId) : (postPump k d p s).steady = s.steady := by
  unfold postPump
  simp only
  repeat' split
  all_goals simp

@[simp] theorem evaluateSump_steady (k : SumpId) : (evaluateSump k s).steady = s.steady := by
  unfold evaluateSump
  split
  · simp only
    rw [foldl_steady _ _ (fun s p => postPump_steady s k _ p), lauSettle_steady, reduceSump_steady,
      foldl_steady _ _ (fun s p => modPump_steady s p _)]
  · rfl

@[simp] theorem pscEvaluate_steady : (pscEvaluate s).steady = s.steady :=
  foldl_steady _ _ (fun s k => evaluateSump_steady s k) s

/-! ## The delivery of events -/

/-- A change of STAGE that does not cross ALERT upward cancels no OVERRIDE (R108). -/
theorem stageChange_steady (new : Stage) (c : Cause)
    (h : ¬(s.stc.stage.code < Stage.alert.code ∧ Stage.alert.code ≤ new.code)) : (stageChange new c s).steady = s.steady := by
  unfold stageChange
  simp only
  rw [if_neg h]
  rfl

@[simp] theorem takeSummary_steady (c o : Bool) : (takeSummary c o s).steady = s.steady := by
  unfold takeSummary
  simp only
  split
  · rename_i h
    simp only [Bool.and_eq_true, Bool.not_eq_true', beq_iff_eq] at h
    simp only [stageTo]
    rw [stageChange_steady]
    · rfl
    · simp [h.2, Stage.code]
  · split
    · simp only [stageTo]
      rw [stageChange_steady]
      · rfl
      · simp [Stage.code]
    · rfl

@[simp] theorem handleSignal_steady (x : Signal) : (handleSignal x s).steady = s.steady := by
  unfold handleSignal
  repeat' split
  all_goals simp

@[simp] theorem quiesceLoop_steady (n : Nat) : (quiesceLoop n s).steady = s.steady := by
  induction n generalizing s with
  | zero => exact (show ({ lauSettle s with signals := [] } : State).steady = (lauSettle s).steady from rfl).trans (lauSettle_steady s)
  | succ n ih =>
    unfold quiesceLoop
    simp only
    split
    · simp
    · rename_i x rest h
      rw [ih, handleSignal_steady]
      exact (show ({ lauSettle s with signals := rest } : State).steady = (lauSettle s).steady from rfl).trans (lauSettle_steady s)

/-- The delivery of events leaves the steady part of the state as it is. -/
@[simp] theorem quiesce_steady : (quiesce s).steady = s.steady := quiesceLoop_steady s 256

end Sys2Proof.Machine
end

