-- ==== Sys2Proof/Tests/Slice0.lean ====
section
/-! SUPPORT. Small tests against the spec: the checks of WellFormed, check words computed by hand from R1, the worked cases of
the chapters, one or two tests of a command, and a witness for the hypotheses of every statement that has some. -/

set_option Elab.async false

namespace Sys2Proof.Tests

open Sys2Proof.Machine

/-! ## WellFormed: one ill-formed command for each check, beside a well-formed one at the boundary -/

theorem test_wellFormed_tooManyOperands :
    (Instr.mapWrite 0 (List.replicate 16 0)).wellFormed = false ∧ (Instr.mapWrite 0 (List.replicate 15 0)).wellFormed = true := by
  decide

theorem test_wellFormed_tooManyRecordOperands :
    (Instr.recordGetStage 0 (List.replicate 15 0)).wellFormed = false ∧
      (Instr.recordGetStage 0 (List.replicate 14 0)).wellFormed = true := by decide

theorem test_wellFormed_pumpRecordZero :
    (Instr.pumpSet 0 [0, 1]).wellFormed = false ∧ (Instr.pumpSet 0 [1, 1]).wellFormed = true := by decide

theorem test_wellFormed_knownOperation :
    (Instr.unknownOp 0 48).wellFormed = false ∧ (Instr.unknownOp 0 7).wellFormed = true := by decide

theorem test_wellFormed_evenStorageFault :
    (Instr.mapStorageFault (.pinned 3) 3).wellFormed = false ∧ (Instr.mapStorageFault (.pinned 3) 1).wellFormed = true := by
  decide

theorem test_wellFormed_setMapHasNoGlobalBit :
    (Instr.mapStorageFault (.setMap 127 1) 0x400000).wellFormed = false ∧
      (Instr.mapStorageFault (.pinned 15) 0x400000).wellFormed = true := by decide

/-! ## Frames: words written out from Table 1-1, check words computed from R1 outside the model -/

/-- The check word of the polynomial of R1 over the octets "12345678", a published value. -/
theorem test_check_word : checkWord [0x3132, 0x3334, 0x3536, 0x3738] = 0xA12B := by decide +kernel

theorem test_decode_manage : Frame.decode [0xCA10, 0xFFE0, 0x0030, 0xEFB9] =
    some { kind := 6, tag := 5, reserved := 0, dst := 63, src := 62, channel := 0, payload := [48] } := by decide +kernel

theorem test_decode_read : Frame.decode [0x1210, 0x33E7, 0x0003, 0x3979] =
    some { kind := 0, tag := 9, reserved := 0, dst := 12, src := 62, channel := 7, payload := [3] } := by decide +kernel

theorem test_decode_refuses_check_and_count :
    Frame.decode [0x1210, 0x33E7, 0x0003, 0x3978] = none ∧ Frame.decode [0x1220, 0x33E7, 0x0003, 0x3979] = none ∧
      Frame.decode [0x1210, 0x33E7] = none := by decide +kernel

theorem test_encode_echo :
    Frame.encode { kind := 3, tag := 4, reserved := 0, dst := 62, src := 5, channel := 3, payload := [1] } =
      [0x6810, 0xF853, 0x0001, 0x5521] := by decide +kernel

/-! ## The worked cases of the chapters -/

/-- Table 2-1. -/
theorem test_set_index :
    [setIndex 0 5 3, setIndex 1 5 3, setIndex 2 5 3, setIndex 3 5 3, setIndex 1 13 3, setIndex 3 21 3, setIndex 1 7 3,
      setIndex 2 12 7, setIndex 0 61 15, setIndex 3 61 15] = [83, 115, 19, 51, 115, 51, 83, 7, 95, 63] := by decide +kernel

/-- The geometry of the worked case "one cycle in full" (chapter 4). -/
def geometry : Vector (Option Breakpoint) 8 :=
  #v[some { x := 0, y := 0 }, some { x := 1000, y := 40000 }, some { x := 2500, y := 130000 }, some { x := 4000, y := 250000 },
    none, none, none, none]

/-- The settings of that case. -/
def sumpOne : SumpCfg := { primary := some 24, backup := some 25, gain := 1000, filterK := 8, ringSize := 4 }

/-- The record before its cycle. -/
def beforeCycle : SumpState :=
  { source := .primary, levelQuality := .good, cycleLevel := 2398, filter := 38368, primed := true, volume := 123880
    base := some 123880, ring := [110, 130, 116], geometryValid := true }

/-- The drain of a level point with clean entries. -/
def cleanDrain (p : PointId) (raws : List Word) : Drain :=
  { point := p, entries := raws.map fun w => { raw := w, invalid := false, range := false }, quality := .good
    mode := .perSample, suspect := false, overrun := false }

theorem test_one_cycle_in_full :
    let t := computeSump sumpOne geometry 500 240 false (some (cleanDrain 24 [9830, 9840, 9826])) none beforeCycle
    (t.cycleLevel, t.filter, filteredOf t.filter, t.volume, t.ring) = (2400, 38384, 2399, 123940, [110, 130, 116, 120]) ∧
      (t.inflow, t.controlInflow, t.inflowGood, t.rate, t.growth) = (359, 359, true, 120, false) := by decide +kernel

/-- The geometry and the settings of the worked case "a lost transducer", 100 L per millimetre. -/
def hundredPerMm : Vector (Option Breakpoint) 8 :=
  #v[some { x := 0, y := 0 }, some { x := 2000, y := 200000 }, none, none, none, none, none, none]

/-- One cycle of that case, from the samples of the primary and the backup point. -/
def sumpTwo (primary backup : List Word) (t : SumpState) : SumpState :=
  computeSump { primary := some 24, backup := some 25, gain := 4096, filterK := 16, ringSize := 2 } hundredPerMm 500 0 false
    (some (cleanDrain 24 primary)) (some (cleanDrain 25 backup)) t

/-- Its record after cycle 1. -/
def cycleOne : SumpState :=
  sumpTwo [1000, 1002] []
    { source := .primary, levelQuality := .good, cycleLevel := 1000, filter := 16000, primed := true, volume := 100000
      base := some 100000, ring := [180], inflow := 180, controlInflow := 180, inflowGood := true, geometryValid := true }

theorem test_lost_transducer_cycle1 :
    (cycleOne.filter, cycleOne.volume, cycleOne.ring, cycleOne.inflow, cycleOne.inflowGood, cycleOne.rate) =
      (16016, 100100, [180, 200], 190, true, 120) := by decide +kernel

theorem test_lost_transducer_cycles2and3 :
    (let t := sumpTwo [] [1010] cycleOne
     decide ((t.source, t.filter, t.volume, t.ring, t.inflow, t.inflowGood, t.rate) =
      (.backup, 16160, 101000, [], 190, false, 120))) = true ∧
    (let t := sumpTwo [] [1012] (sumpTwo [] [1010] cycleOne)
     decide ((t.filter, t.volume, t.ring, t.inflow, t.inflowGood, t.rate) = (16192, 101200, [400], 400, true, 240))) = true := by
  decide +kernel

/-- The worked case "inflow at the end of its range". -/
theorem test_inflow_limits :
    let run := fun (m : ScaleMode) (out : Nat) =>
      let t := SumpState.takeInflow { sumpOne with scale := m } 500 out false 0 0 { beforeCycle with ring := [] }
      (t.inflow, t.controlInflow, t.inflowLimited, t.growth)
    run .plain 70000 = (32767, 32767, true, true) ∧ run .down 70000 = (32767, 65534, true, true) ∧
      run .down 60000 = (30000, 60000, false, true) := by decide +kernel

/-! ## Commands -/

/-- What holds of the state that a command goes on to. -/
def after (c : Instr) (s : State) (P : State → Bool) : Bool :=
  match exec c s with
  | .next t => P t
  | .fault _ => false
  | .refused _ => false

/-- The words of the last ANSWER offered: operation code, status and data. -/
def answered (s : State) : List Word :=
  match s.upp.upstream.getLast? with
  | some e => e.frame.payload
  | none => []

/-- A point with its settings and running fields. -/
def setPoint (p : PointId) (k : PointKind) (x : PointState) (s : State) : State :=
  { s with cfg := { s.cfg with points := Tab.put s.cfg.points p { s.pcfg p with kind := k } }
           pim := { s.pim with points := Tab.put s.pim.points p x } }

/-- A DISCRETE point GOOD at a value. -/
def discrete (p : PointId) (w : Word) (s : State) : State := setPoint p .discrete { quality := .good, raw := w } s

theorem test_hold_set : after (.holdSet 3) State.reset (fun t => t.stc.holdRequest && answered t == [48, 0]) = true := by
  decide +kernel

theorem test_hold_clear : after (.holdClear 3) { State.reset with stc := { State.reset.stc with holdRequest := true } }
    (fun t => !t.stc.holdRequest && answered t == [49, 0]) = true := by decide +kernel

theorem test_unknown_op : after (.unknownOp 3 7) State.reset (fun t => answered t == [7, 6]) = true := by decide +kernel

/-- The MANAGE frame of HOLD_SET, written out: the operation is taken and the link comes UP with LINK_RESTORED and STORE_INVALID. -/
theorem test_upstream_manage_frame : after (.upstreamFrameArrival [0xCA10, 0xFFE0, 0x0030, 0xEFB9]) State.reset
    (fun t => t.stc.holdRequest && t.upp.link == .up && t.upp.silence == .running 5000 &&
      t.upp.upstream.map (fun e => e.frame.payload.head?) == [some 0x8001, some 0x8011, some 48]) = true := by decide +kernel

/-- The READ written out above joins the Downstream Queue. -/
theorem test_upstream_read_queued : after (.upstreamFrameArrival [0x1210, 0x33E7, 0x0003, 0x3979]) State.reset
    (fun t => t.upp.downstream.map (fun f => f.payload) == [[3]]) = true := by decide +kernel

theorem test_upstream_bad_check : after (.upstreamFrameArrival [0x1210, 0x33E7, 0x0003, 0x3978]) State.reset
    (fun t => t.pmu.fault.fv && t.pmu.fault.stored.cls == .line && t.pmu.fault.stored.detail == 3 && t.upp.link == .lost) = true := by
  decide +kernel

/-- Table 1-5: PLAN 1 on station 5 channel 3 goes to set 115 of Table 2-1, way 0. -/
theorem test_map_write_set : after (.mapWrite 0 [3, 0, 0, 1, 1, 5, 3, 200]) State.reset
    (fun t => answered t == [1, 0, 1, 115, 0] && (t.mapEntry (.setMap 115 0)).fields.point == 200) = true := by decide +kernel

theorem test_map_write_wrong_set : after (.mapWrite 0 [2, 83, 0, 1, 1, 5, 3, 200]) State.reset
    (fun t => answered t == [1, 4]) = true := by decide +kernel

theorem test_map_read_empty : after (.mapRead 0 [0, 15, 0]) State.reset (fun t => answered t == [2, 0, 32, 0, 0, 0, 0]) = true := by
  decide +kernel

/-- A state whose pinned slot 2 maps station 5 channel 3 of every PLAN to SAMPLE point 60. -/
def mapped (d : Direction) (p : PointId) (s : State) : State :=
  let f : MapFields :=
    { valid := true, isGlobal := true, direction := d, station := 5, channel := 3, point := BitVec.ofNat 8 p.val }
  s.putEntry (.pinned 2) { fields := f, check := parity f.bits }

theorem test_demap_key_global : after (.demapKey 0 [3, 5, 3]) (mapped .sample 60 State.reset)
    (fun t => answered t == [3, 0, 1] && !(t.mapEntry (.pinned 2)).fields.valid) = true := by decide +kernel

theorem test_demap_plan_spares_global : after (.demapPlan 0 [0]) (mapped .sample 60 State.reset)
    (fun t => answered t == [4, 0, 0] && (t.mapEntry (.pinned 2)).fields.valid) = true := by decide +kernel

theorem test_demap_all_takes_global : after (.demapAll 0) (mapped .sample 60 State.reset)
    (fun t => answered t == [5, 0, 1] && !(t.mapEntry (.pinned 2)).fields.valid) = true := by decide +kernel

theorem test_storage_fault : after (.mapStorageFault (.pinned 2) 1) (mapped .sample 60 State.reset)
    (fun t => (t.mapEntry (.pinned 2)).fields.point == 61 && !(t.mapEntry (.pinned 2)).checkGood) = true := by decide +kernel

theorem test_miss_get_empty : after (.missGet 0 [1]) State.reset (fun t => answered t == [6, 0, 0, 0, 0, 0, 0, 0]) = true := by
  decide +kernel

theorem test_fault_get_range : after (.faultGet 0 [2]) State.reset (fun t => answered t == [33, 2]) = true := by decide +kernel

theorem test_point_set_level : after (.pointSet 0 [24, 1, 10, 0xFFFF, 1, 1]) State.reset
    (fun t => answered t == [16, 0] && (t.pcfg 24).queue == some 0 && (t.pcfg 24).errorMode == .accumulated) = true := by
  decide +kernel

theorem test_point_set_limits : after (.pointSet 0 [24, 1, 10, 1, 0xFFFF, 1]) State.reset (fun t => answered t == [16, 2]) = true := by
  decide +kernel

theorem test_point_get_never : after (.pointGet 0 [11]) (discrete 11 1 State.reset)
    (fun t => (answered t).take 7 == [17, 0, 3, 0, 0, 1, 1]) = true := by decide +kernel

theorem test_scan_set : after (.scanSet 0 [32, 61, 8, 8, 255, 1]) State.reset
    (fun t => answered t == [18, 0] && (t.scanCfg 31).enable && Tab.get t.pim.scanDue 31 == .running 25500) = true := by
  decide +kernel

theorem test_scan_due : after (.scanDueExpiry 31)
    { State.reset with pim := { State.reset.pim with scanDue := Tab.put State.reset.pim.scanDue 31 (.running 25500) } }
    (fun t => t.now == 25500 && t.flc.scanPending == [31]) = true := by decide +kernel

theorem test_sump_set_not_level : after (.sumpSet 0 [1, 24, 256, 4096, 0, 8, 4, 0, 0]) State.reset
    (fun t => (answered t).take 2 == [19, 2]) = true := by decide +kernel

theorem test_geometry_set : after (.geometrySet 0 [1, 7, 1, 1000, 1, 0]) State.reset
    (fun t => answered t == [20, 0] && Tab.get (Tab.get t.cfg.geometry 0) 7 == some { x := 1000, y := 65536 } &&
      !(t.sump 0).geometryValid) = true := by decide +kernel

theorem test_stage_set_dwells : after (.stageSet 0 [0, 3600, 10]) State.reset
    (fun t => t.cfg.descentDwell == 3600 && t.cfg.reopenDwell == 10) = true := by decide +kernel

theorem test_stage_set_order : after (.stageSet 0 [1, 500, 400, 0, 0, 0, 0]) State.reset (fun t => answered t == [26, 2]) = true := by
  decide +kernel

theorem test_plan_set : after (.planSet 0 [3, 2, 1, 0, 1, 2, 3]) State.reset (fun t => t.planInForce == 3) = true := by
  decide +kernel

theorem test_line_set_multiple : after (.lineSet 0 [50, 60, 2000, 1]) State.reset (fun t => t.cfg.line.cyclePeriod == 2000) = true ∧
    after (.lineSet 0 [50, 60, 2100, 1]) State.reset (fun t => answered t == [29, 2]) = true := by decide +kernel

theorem test_curve_set : after (.curveSet 0 [3, 0, 1, 65535, 100]) State.reset
    (fun t => Tab.get (Tab.get t.cfg.curves 3) 0 == some { x := 65535, y := 100 }) = true ∧
    after (.curveSet 0 [3, 0, 1, 65535, 101]) State.reset (fun t => answered t == [25, 2]) = true := by decide +kernel

theorem test_supply_set_key_never : after (.supplySet 0 [256, 256, 256, 0, 0, 100, 70, 1])
    (setPoint 70 .discrete {} State.reset) (fun t => answered t == [28, 0] && t.cau.keyLocal && t.cau.keyChanged) = true := by
  decide +kernel

theorem test_record_get_stage : after (.recordGetStage 0 [0, 0]) State.reset
    (fun t => answered t == [32, 0, 0, 0, 0, 0, 0, 0, 0, 0, 0, 0, 26]) = true := by decide +kernel

theorem test_record_get_supply : after (.recordGetSupply 0 [0, 0]) State.reset
    (fun t => answered t == [32, 0, 0, 0, 0, 0, 0, 0, 0, 0, 0, 0, 0, 0, 0, 2]) = true := by decide +kernel

theorem test_record_get_authority : after (.recordGetAuthority 0 [0, 1]) State.reset
    (fun t => answered t == [32, 0, 256, 0, 0, 0, 10, 0, 0]) = true := by decide +kernel

theorem test_record_get_sump_bits : after (.recordGetSump 0 [4, 0]) State.reset
    (fun t => answered t == [32, 0, 2, 2, 0, 0, 0, 0, 0, 0, 0, 1, 0, 0, 0, 0]) = true := by decide +kernel

theorem test_record_get_pump_range : after (.recordGetPump 0 [9, 0]) State.reset (fun t => answered t == [32, 2]) = true := by
  decide +kernel

theorem test_record_get_barrier_range : after (.recordGetBarrier 0 [4, 2]) State.reset (fun t => answered t == [32, 2]) = true := by
  decide +kernel

theorem test_record_get_gate_length : after (.recordGetGate 0 [0, 0]) State.reset (fun t => (answered t).length == 11) = true := by
  decide +kernel

theorem test_record_get_zone : after (.recordGetZone 0 [6, 0]) State.reset
    (fun t => answered t == [32, 0, 0, 0, 100, 100, 0, 0, 0, 0, 0, 0, 0, 0, 0, 0]) = true := by decide +kernel

theorem test_record_get_level_queue : after (.recordGetLevelQueue 0 [7, 0]) State.reset
    (fun t => (answered t).take 3 == [32, 0, 256]) = true := by decide +kernel

theorem test_snapshot_next_empty : after (.snapshotNext 0) State.reset (fun t => answered t == [41, 0, 15, 0]) = true := by
  decide +kernel

theorem test_snapshot_take : after (.snapshotTake 0) State.reset
    (fun t => (t.mgu.snapshot.map fun x => (x.1.length, x.2)) == some (44, 0)) = true := by decide +kernel

theorem test_status_clear_defers_in_cycle : after (.statusClear 0)
    { State.reset with sau := { State.reset.sau with cycle := some { interval := 500, drains := [], outflow := #v[0, 0, 0, 0] } } }
    (fun t => t.sau.deferred == [.statusClear 0] && answered t == []) = true := by decide +kernel

theorem test_advance_not_held : after (.advance 0) State.reset (fun t => answered t == [50, 3]) = true := by decide +kernel

/-- The state of a control hold. -/
def held : State :=
  { State.reset with stc := { State.reset.stc with hold := .held, holdRequest := true, derivePending := false }
                     psc := { State.reset.psc with hold := .held } }

theorem test_advance_steps : after (.advance 9) held (fun t => t.stc.hold == .stepping && (t.stc.step.map (·.tag)) == some 9) = true := by
  decide +kernel

/-- The end of that step. -/
def stepping : State :=
  let done : StepRecord := { tag := 9, pscDone := true, gsqDone := true, ltuDone := true, broken := false, linkLost := false }
  { held with stc := { held.stc with hold := .stepping, step := some done }, psc := { held.psc with hold := .stepping } }

theorem test_step_end_holds_again : after .stepEnd stepping (fun t => t.stc.hold == .held && t.stc.step.isNone) = true := by
  decide +kernel

theorem test_release : after (.release 0)
    { State.reset with stc := { State.reset.stc with stage := .closed, reopenReady := true, allOpen := false } }
    (fun t => t.stc.stage == .reopening && t.stc.cause == { sump := 0, test := 10 } && !t.stc.reopenReady) = true := by
  decide +kernel

theorem test_quench_free_line : after (.quench 4) State.reset (fun t => t.flc.line == .quenched && answered t == [52, 0]) = true := by
  decide +kernel

theorem test_unquench_not_quenched : after (.unquench 4) State.reset (fun t => answered t == [53, 3]) = true := by decide +kernel

theorem test_pump_reset_not_faulted : after (.pumpReset 0 [8]) State.reset (fun t => answered t == [55, 3]) = true := by
  decide +kernel

theorem test_barrier_reset_range : after (.barrierReset 0 [5]) State.reset (fun t => answered t == [56, 2]) = true := by
  decide +kernel

theorem test_store_commit_power_fail : after (.storeCommit 0) { State.reset with powerFail := true }
    (fun t => answered t == [57, 3] && t.mgu.commit.isNone) = true := by decide +kernel

theorem test_restart_waits_for_its_answer : after (.restart 0) State.reset
    (fun t => t.mgu.restart == .answering && answered t == [58, 0]) = true := by decide +kernel

theorem test_restart_perform : after .restartPerform
    { State.reset with mgu := { State.reset.mgu with restart := .ready }, stc := { State.reset.stc with stage := .watch } }
    (fun t => t.stc.stage == .clear && t.stc.derivePending && t.mgu.restart == .none) = true := by decide +kernel

theorem test_upstream_transmit : after .upstreamTransmit { State.reset with upp := { State.reset.upp with upstream := [{}, {}] } }
    (fun t => t.upp.transmitter == some {} && t.upp.upstream == [{}]) = true := by decide +kernel

theorem test_upstream_transmit_end : after .upstreamTransmitEnd
    { State.reset with upp := { State.reset.upp with transmitter := some { frame := {}, restartAnswer := true } }
                       mgu := { State.reset.mgu with restart := .answering } }
    (fun t => t.upp.transmitter == none && t.mgu.restart == .ready) = true := by decide +kernel

theorem test_grant_command : after .fieldArbiterGrant
    (let s := mapped .command 10 State.reset
     { s with flc := { s.flc with commandQueue := [{ point := 10, value := 1, attempt := 1 }] } })
    (fun t => (t.flc.transaction.map fun x => (x.frame.kind, x.frame.dst, x.frame.channel, x.frame.payload)) ==
      some (2, 5, 3, [1]) && t.flc.ownTag == 1) = true := by decide +kernel

/-- A transaction of a scan READ of station 5 channel 3, span 1, tag 4. -/
def scanRead (phase : Phase) (timer : Timer) (s : State) : State :=
  let f : Frame := { kind := 0, tag := 4, reserved := 0, dst := 5, src := 63, channel := 3, payload := [1] }
  { s with flc := { s.flc with transaction := some { origin := .scan 0, frame := f, phase := phase, window := 10, timer := timer } } }

theorem test_field_send_end : after .fieldSendEnd (scanRead .sending .stopped State.reset)
    (fun t => t.flc.transaction.map (fun x => (x.phase, x.timer)) == some (.awaiting, .running 10)) = true := by decide +kernel

/-- The VALUE 1 of that READ reaches the DISCRETE point 60. -/
theorem test_field_value : after (.fieldFrameArrival (Frame.encode
      { kind := 1, tag := 4, reserved := 0, dst := 63, src := 5, channel := 3, payload := [7, 0] }))
    (scanRead .awaiting (.running 10) (mapped .sample 60 (discrete 60 0 State.reset)))
    (fun t => (t.point 60).raw == 1 && (t.point 60).changed && t.flc.transaction.isNone) = true := by decide +kernel

theorem test_reply_window_expiry : after .replyWindowExpiry (scanRead .awaiting (.running 10) State.reset)
    (fun t => t.now == 10 && t.flc.transaction.isNone) = true := by decide +kernel

theorem test_guard_expiry_other_phase : after .guardExpiry (scanRead .awaiting (.running 10) State.reset)
    (fun t => t.now == 0 && t.flc.transaction.isSome) = true := by decide +kernel

theorem test_freshness : after (.pointFreshnessExpiry 60)
    (setPoint 60 .feedback { quality := .good, raw := 5, freshTimer := .running 300 } State.reset)
    (fun t => (t.point 60).quality == .stale && (t.point 60).raw == 5 && t.now == 300) = true := by decide +kernel

theorem test_cycle_start : after .drainageCycleStart State.reset
    (fun t => t.now == 500 && t.sau.cycle.isSome && t.sau.cycleTimer == .running 1000) = true := by decide +kernel

theorem test_cycle_completion_idle : after .drainageCycleCompletion State.reset (fun t => t.stc.data == none) = true := by
  decide +kernel

theorem test_descent : after .descentTimerExpiry
    { State.reset with stc := { State.reset.stc with stage := .watch, descent := .running 7, derivePending := false } }
    (fun t => t.stc.stage == .clear && t.stc.cause == { sump := 0, test := 11 } && t.now == 7) = true := by decide +kernel

theorem test_reopen : after .reopenTimerExpiry { State.reset with stc := { State.reset.stc with reopen := .running 7 } }
    (fun t => t.stc.reopenReady && t.stc.reopen == .stopped) = true := by decide +kernel

theorem test_derive_expiry : after .deriveTimerExpiry State.reset
    (fun t => t.now == 10000 && t.stc.deriveExpired && t.stc.derivePending) = true := by decide +kernel

theorem test_link_silence : after .linkSilenceExpiry
    { State.reset with upp := { State.reset.upp with link := .up, silence := .running 5000 }
                       stc := { State.reset.stc with holdRequest := true } }
    (fun t => t.upp.link == .lost && t.upp.silence == .stopped && !t.stc.holdRequest) = true := by decide +kernel

theorem test_override_expiry : after (.overrideExpiry 10)
    { State.reset with cau := { State.reset.cau with overrides := [{ point := 10, value := 1, expiry := 60000, tag := 0 }] } }
    (fun t => t.cau.overrides == [] && t.now == 60000) = true := by decide +kernel

theorem test_inrush_expiry : after .inrushWindowExpiry
    { State.reset with lau := { State.reset.lau with window := some { device := .gate, extra := 3, timer := .running 5000 } } }
    (fun t => t.lau.window.isNone && t.now == 5000) = true := by decide +kernel

/-- Pump 1 of sump 1, with run point 10 and run feedback 11. -/
def pumpIn (m : PumpMode) (x : PumpState) (s : State) : State :=
  let c : PumpCfg := { enable := true, ratedFlow := 120, ratedKw := 50, runPoint := some 10, runFeedback := some 11 }
  let s := setPoint 10 .command {} (discrete 11 0 s)
  { s with
    cfg := { s.cfg with pumps := Tab.put s.cfg.pumps 0 c }
    psc := { s.psc with pumps := Tab.put s.psc.pumps 0 { x with mode := m }, duty := Tab.put s.psc.duty 0 [0] }
    lau := { s.lau with
      pumpLoad := Tab.put s.lau.pumpLoad 0 (if m.counts then 50 else 0)
      startOrder := if m.inStartOrder then [0] else [] } }

theorem test_start_confirm : after (.pumpStartConfirmExpiry 0) (pumpIn .starting { startTimer := .running 10000 } State.reset)
    (fun t => (t.pump 0).mode == .faulted && (t.pump 0).fault == 2) = true := by decide +kernel

theorem test_stop_confirm : after (.pumpStopConfirmExpiry 0) (pumpIn .stopping { stopTimer := .running 10000 } State.reset)
    (fun t => (t.pump 0).mode == .faulted && (t.pump 0).fault == 3) = true := by decide +kernel

theorem test_minimum_off : after (.pumpMinimumOffExpiry 0)
    (pumpIn .resting { offTimer := .running 60000, lastStop := some 0 } State.reset)
    (fun t => (t.pump 0).mode == .idle && t.now == 60000) = true := by decide +kernel

theorem test_hour_window : after (.pumpHourWindowExpiry 0)
    (pumpIn .resting { hourWindow := .running 3600000, startsInWindow := 6, lastStop := some 0 } State.reset)
    (fun t => (t.pump 0).mode == .idle && (t.pump 0).startsInWindow == 0) = true := by decide +kernel

theorem test_pump_set : after (.pumpSet 0 [1, 1, 1, 120, 50, 100, 5, 10, 11, 256, 10, 10, 60, 6])
    (setPoint 10 .command {} (discrete 11 0 State.reset))
    (fun t => answered t == [21, 0] && (t.pumpCfg 0).enable && t.dutyList 0 == [0]) = true := by decide +kernel

theorem test_pump_set_run_limit : after (.pumpSetSumpSettings 0 [1, 0, 0, 0, 0, 0, 0, 0, 0, 2]) State.reset
    (fun t => answered t == [21, 0] && (t.pumpingCfg 0).runLimit == 2) = true := by decide +kernel

/-- Barrier 1 with drive 20, limits 21 and 22, at rest open. -/
def barrierIn (m : BarrierMode) (x : BarrierState) (s : State) : State :=
  let c : BarrierCfg := { enable := true, drive := some 20, openLimit := some 21, closedLimit := some 22, motorKw := 9 }
  let s := setPoint 20 .command {} (discrete 21 1 (discrete 22 0 s))
  { s with
    cfg := { s.cfg with barriers := Tab.put s.cfg.barriers 0 c }
    gsq := { s.gsq with barriers := Tab.put s.gsq.barriers 0 { x with mode := m }, reported := some (m == .closed, m == .opened) }
    lau := { s.lau with motorLoad := Tab.put s.lau.motorLoad 0 (if m.moves then 9 else 0) } }

theorem test_barrier_warn : after (.barrierWarnExpiry 0) (barrierIn .warning { warnTimer := .running 30000 } State.reset)
    (fun t => (t.barrier 0).mode == .clearing && (t.barrier 0).clearTimer == .running 50000) = true := by decide +kernel

theorem test_barrier_clearance : after (.barrierClearanceExpiry 0) (barrierIn .clearing { clearTimer := .running 20000 } State.reset)
    (fun t => (t.barrier 0).mode == .queuedClose && t.lau.queue.map (·.cls) == [0]) = true := by decide +kernel

theorem test_barrier_travel : after (.barrierTravelExpiry 0) (barrierIn .closing { travelTimer := .running 40000 } State.reset)
    (fun t => (t.barrier 0).mode == .faultTravel && (t.barrier 0).fault == 1) = true := by decide +kernel

theorem test_barrier_reset_open : after (.barrierReset 0 [1]) (barrierIn .faultTravel { fault := 1, reversals := 2 } State.reset)
    (fun t => answered t == [56, 0] && (t.barrier 0).mode == .opened && (t.barrier 0).reversals == 0) = true := by decide +kernel

theorem test_barrier_set : after (.barrierSet 0 [1, 1, 20, 21, 22, 23, 256, 256, 9, 30, 20, 40])
    (setPoint 20 .command {} (discrete 21 1 (discrete 22 0 (discrete 23 0 State.reset))))
    (fun t => answered t == [22, 0] && (t.barrier 0).mode == .opened) = true := by decide +kernel

/-- The gate with drive 30 and limits 31 and 32, at its closed limit. -/
def gateIn (m : GateMode) (x : GateState) (s : State) : State :=
  let c : GateCfg := { enable := true, drive := some 30, openLimit := some 31, closedLimit := some 32, motorKw := 9 }
  let s := setPoint 30 .command {} (discrete 31 0 (discrete 32 1 s))
  { s with
    cfg := { s.cfg with gate := c }
    gsq := { s.gsq with gate := { x with mode := m } }
    lau := { s.lau with motorLoad := Tab.put s.lau.motorLoad 4 (if m.moves then 9 else 0) } }

theorem test_gate_dwell : after .gateOpenDwellExpiry (gateIn .closed { dwellTimer := .running 300000 } State.reset)
    (fun t => t.gsq.gate.mode == .queuedOpen && t.lau.queue.map (·.cls) == [2]) = true := by decide +kernel

theorem test_gate_travel : after .gateTravelExpiry (gateIn .opening { travelTimer := .running 90000 } State.reset)
    (fun t => t.gsq.gate.mode == .fault && t.gsq.gate.fault == 1) = true := by decide +kernel

theorem test_gate_set : after (.gateSet 0 [1, 30, 31, 32, 33, 1, 100, 300, 9, 90])
    (setPoint 30 .command {} (setPoint 33 .analog {} (discrete 31 0 (discrete 32 1 State.reset))))
    (fun t => answered t == [23, 0] && t.gsq.gate.mode == .closed) = true := by decide +kernel

/-- A zone is derived at its safety level, the supply NONE allowing no more: SHED_BEGUN follows the ANSWER. -/
theorem test_zone_set : after (.zoneSet 0 [1, 1, 40, 256, 256, 0, 100, 0, 40, 5, 25]) (setPoint 40 .command {} State.reset)
    (fun t => t.upp.upstream.map (fun e => e.frame.payload.head?) == [some 24, some 0x800B] &&
      (t.zone 0).mode == .shed && (t.zone 0).level == 40) = true := by decide +kernel

/-- Zone 1 without luminance point takes the curve value 100 and ramps from 40 to 45 (R169, R170). -/
theorem test_lighting : after .lightingEvaluation
    (let c : ZoneCfg := { enable := true, dim := some 40, safety := 40 }
     let s := setPoint 40 .command {} State.reset
     { s with cfg := { s.cfg with zones := Tab.put s.cfg.zones 0 c }
              ltu := { s.ltu with zones := Tab.put s.ltu.zones 0 { mode := .normal, level := 40 } } })
    (fun t => (t.zone 0).target == 100 && (t.zone 0).level == 45 && t.ltu.timer == .running 2000) = true := by decide +kernel

/-! ## Witnesses: for each statement with hypotheses, states and operands that meet them, clause by clause -/

theorem rest {s : State} (h : s.signals = [] ∧ s.lau.judgeDue = false) : s.AtRest := h

theorem taking {s : State} (h : s.signals = [] ∧ s.lau.judgeDue = false) (r : s.mgu.restart = .none) : s.Taking := ⟨h, r⟩

theorem altering {s : State} (h : s.signals = [] ∧ s.lau.judgeDue = false) (r : s.mgu.restart = .none) (c : s.mgu.commit = none) :
    s.Altering := ⟨⟨h, r⟩, c⟩

theorem not_running {t : Timer} (h : t = .stopped) : ∀ d : Nat, t ≠ .running d := by subst h; intro d; exact Timer.noConfusion

theorem of_none {α : Type} {o : Option α} {P : α → Prop} (h : o = none) : ∀ x, o = some x → P x := by subst h; nofun

theorem of_some {α : Type} {o : Option α} {P : α → Prop} {a : α} (h : o = some a) (p : P a) : ∀ x, o = some x → P x := by
  subst h; rintro _ ⟨⟩; exact p

theorem witness_StepRunsFrontCommand :
    { State.reset with pending := [Instr.holdSet 1, .powerOn] }.pending = .holdSet 1 :: [.powerOn] ∧ State.reset.pending = [] :=
  ⟨rfl, rfl⟩

/-! ### Frames and the upstream port -/

theorem witness_ManagementFrameIsCommand :
    (Instr.mapRead 15 (List.replicate 15 0xFFFF)).wellFormed = true ∧
    commandFrame (.mapRead 15 (List.replicate 15 0xFFFF)) =
      some { kind := 6, tag := 15, dst := 63, src := 62, payload := 2 :: List.replicate 15 0xFFFF } ∧
    (Instr.recordGetStage 0 (List.replicate 14 0)).wellFormed = true ∧ commandFrame (.recordGetStage 0 (List.replicate 14 0)) =
      some { kind := 6, dst := 63, src := 62, payload := 32 :: 0 :: List.replicate 14 0 } := by decide +kernel

/-- The READ of the greatest span on the last station. -/
def lastRead : Frame := { kind := 0, tag := 9, dst := 61, src := 62, channel := 8, payload := [8] }

theorem witness_UpstreamFrameSorted :
    State.reset.AtRest ∧ Frame.decode [] = none ∧ Frame.decode lastRead.encode = some lastRead ∧ lastRead.isManagement = false ∧
      lastRead.isFieldBound = true ∧ { lastRead with channel := 9 }.isFieldBound = false ∧
      { lastRead with kind := 2, dst := 0, payload := List.replicate 8 0 }.isFieldBound = true ∧
      { lastRead with kind := 6, dst := 63, payload := List.replicate 16 0 }.isManagement = true ∧
      { lastRead with kind := 6, dst := 63, payload := [] }.isManagement = false ∧
      (65535 < 65536 ∧ 255 < 256) := ⟨rest (by decide +kernel), by decide +kernel⟩

/-- The same READ with 7 and with 8 frames waiting, and with the line QUENCHED. -/
theorem witness_UpstreamFrameSorted_queue :
    { State.reset with upp := { State.reset.upp with downstream := List.replicate 7 lastRead } }.AtRest ∧
    { State.reset with upp := { State.reset.upp with downstream := List.replicate 8 lastRead } }.AtRest ∧
    { State.reset with flc := { State.reset.flc with line := .quenched } }.AtRest :=
  ⟨rest (by decide +kernel), rest (by decide +kernel), rest (by decide +kernel)⟩

/-- The link UP with its silence timer running, in a hold state. -/
def linked (h : HoldState) (s : State) : State :=
  { s with upp := { s.upp with link := .up, silence := .running 5000 }, stc := { s.stc with hold := h } }

theorem witness_LinkSupervision :
    (linked .running State.reset).upp.link = .up ∧ (State.reset.upp.link = .lost ∧ State.reset.mgu.storeInvalid = true) ∧
    (∀ h : HoldState, (linked h State.reset).AtRest ∧ (linked h State.reset).upp.silence = .running 5000 ∧
      (linked h State.reset).stc.hold = h) ∧
    State.reset.AtRest ∧ ∀ d : Nat, State.reset.upp.silence ≠ .running d :=
  ⟨rfl, ⟨rfl, rfl⟩, fun _ => ⟨rest ⟨rfl, rfl⟩, rfl, rfl⟩, rest (by decide +kernel), not_running rfl⟩

/-- A NOTICE and an ANSWER. -/
def notice : UpEntry := { frame := { kind := 7, dst := 62, src := 63, payload := [0x8001] } }
def reply : UpEntry := { frame := { kind := 7, dst := 62, src := 63, payload := [58, 0] }, restartAnswer := true }

/-- An Upstream Queue. -/
def upstream (l : List UpEntry) : State := { State.reset with upp := { State.reset.upp with upstream := l } }

theorem witness_UpstreamQueueOffer :
    (upstream (List.replicate 15 notice)).upp.upstream.length < 16 ∧
    (16 ≤ (upstream (List.replicate 15 reply ++ [notice])).upp.upstream.length ∧
      (upstream (List.replicate 15 reply ++ [notice])).upp.upstream = List.replicate 15 reply ++ notice :: [] ∧
      notice.frame.isNotice = true ∧ ∀ x ∈ List.replicate 15 reply, x.frame.isNotice = false) ∧
    (16 ≤ (upstream (List.replicate 16 reply)).upp.upstream.length ∧
      ∀ x ∈ (upstream (List.replicate 16 reply)).upp.upstream, x.frame.isNotice = false) := by decide +kernel

theorem witness_PathFaultRecordUpdate :
    State.reset.pmu.fault.fv = false ∧
    (let s := { State.reset with pmu := { State.reset.pmu with fault := { fv := true, stored := { cls := .authority } } } }
     decide (s.pmu.fault.fv = true ∧ s.pmu.fault.stored.cls.rank ≤ FaultClass.authority.rank ∧
       FaultClass.line.rank < s.pmu.fault.stored.cls.rank)) = true := by decide +kernel

theorem witness_UpstreamTransmission :
    (upstream [reply]).AtRest ∧ (upstream [reply]).upp.transmitter = none ∧ (upstream [reply]).upp.upstream = reply :: [] ∧
    State.reset.upp.upstream = [] ∧
    { State.reset with upp := { State.reset.upp with transmitter := some reply } }.AtRest ∧
    { State.reset with upp := { State.reset.upp with transmitter := some reply } }.upp.transmitter = some reply :=
  ⟨rest (by decide +kernel), rfl, rfl, rfl, rest (by decide +kernel), rfl⟩

/-- A state with its queues full, two commands waiting and a request queued, and a transmission commanded. -/
def busy : State :=
  let s := pumpIn .queued {} State.reset
  { s with
    pending := [.upstreamTransmit]
    upp := { s.upp with downstream := List.replicate 8 lastRead, upstream := List.replicate 16 notice }
    flc := { s.flc with commandQueue := [{ point := 10, value := 1, attempt := 1 }, { point := 20, value := 2, attempt := 1 }] }
    pim := { s.pim with queues := Tab.put s.pim.queues 0 { entries := List.replicate 4 { raw := 1, invalid := false, range := true } } }
    cau := { s.cau with overrides := [{ point := 10, value := 1, expiry := 600000, tag := 2 }] }
    lau := { s.lau with queue := [{ device := .pump 0, cls := 1, runKw := 50, extra := 0, inrush := 5, arrival := 0 }] } }

theorem busy_goes_on : ∃ t, step busy = .next t := ⟨_, rfl⟩

theorem witness_QueuesStayBounded : busy.QueuesBounded ∧ busy.LevelQueuesBounded ∧ ∃ t, step busy = .next t := by
  refine ⟨?_, ?_, busy_goes_on⟩
  · unfold State.QueuesBounded; decide +kernel
  · unfold State.LevelQueuesBounded; decide +kernel

/-! ### The field line -/

/-- Work for the arbiter. -/
def work (commands : List CommandEntry) (downstream : List Frame) (scan : List ScanId) (turn : PairTurn) : State :=
  let c : ScanCfg := { station := 61, channel := 8, span := 8, interval := 1, enable := true }
  let s := mapped .command 10 State.reset
  { s with
    cfg := { s.cfg with scan := Tab.put s.cfg.scan 31 c }
    flc := { s.flc with commandQueue := commands, scanPending := scan, pairTurn := turn }
    upp := { s.upp with downstream := downstream } }

theorem witness_ArbiterGrants_nothing :
    State.reset.AtRest ∧ State.reset.flc.commandQueue = [] ∧ State.reset.upp.downstream = [] ∧ State.reset.flc.scanPending = [] :=
  ⟨rest (by decide +kernel), rfl, rfl, rfl⟩

theorem witness_ArbiterGrants_command :
    let e : CommandEntry := { point := 10, value := 1, attempt := 1 }
    let s := work [e] [lastRead] [31] .scan
    s.AtRest ∧ s.flc.line = .running ∧ s.flc.transaction = none ∧ s.flc.commandQueue = e :: [] ∧
      ∃ u, commandSearch e.point { s with flc := { s.flc with commandQueue := [] } } = (some (5, 3), u) :=
  ⟨rest (by decide +kernel), rfl, rfl, rfl, _, by
    refine Prod.ext ?_ rfl
    show (commandSearch _ _).1 = _
    decide +kernel⟩

theorem witness_ArbiterGrants_pair :
    let s := work [] [lastRead] [31] .downstream
    let u := work [] [lastRead] [31] .scan
    (s.AtRest ∧ s.flc.line = .running ∧ s.flc.transaction = none ∧ s.flc.commandQueue = [] ∧ s.upp.downstream = lastRead :: [] ∧
      lastRead.kind = 0 ∧ s.flc.pairTurn = .downstream) ∧
    (u.AtRest ∧ u.flc.line = .running ∧ u.flc.transaction = none ∧ u.flc.commandQueue = [] ∧ u.flc.scanPending = 31 :: [] ∧
      (u.scanCfg 31).enable = true ∧ (u.scanCfg 31).span ≤ 8 ∧ u.flc.pairTurn = .scan) :=
  ⟨⟨rest (by decide +kernel), by decide +kernel⟩, rest (by decide +kernel), by decide +kernel⟩

/-- Every check is good when the two maps' checks are. -/
theorem checks_good {s : State} (h : (s.pmu.pinned.all fun e => e.checkGood) = true) (h' : (s.pmu.sets.all fun e => e.checkGood) = true) :
    ∀ l : MapLoc, (s.mapEntry l).checkGood = true := by
  simp only [Vector.all_eq_true] at h h'
  rintro (i | ⟨i, w⟩)
  · exact h i.val i.isLt
  · exact h' _ _

theorem witness_CommandSearchFindsFirst :
    (∀ l : MapLoc, ((mapped .command 10 State.reset).mapEntry l).checkGood = true) ∧
    (∃ before after, allPlaces = before ++ .pinned 2 :: after ∧ before = [.pinned 0, .pinned 1]) ∧
    (∃ before, allPlaces = before ++ .setMap 127 1 :: []) :=
  ⟨checks_good (by decide +kernel) (by decide +kernel), ⟨_, allPlaces.drop 3, by decide +kernel, rfl⟩,
    allPlaces.dropLast, by decide +kernel⟩

/-- A supervisory WRITE of a value to the run point of pump 1. -/
def pumpWrite (v : Word) : Frame := { kind := 2, tag := 6, dst := 5, src := 62, channel := 3, payload := [v] }

/-- The state it meets, with n other overrides standing. -/
def judged (hold : HoldState) (stage : Stage) (keyLocal : Bool) (n : Nat) : State :=
  let s := mapped .command 10 (pumpIn .idle {} State.reset)
  let others := (List.range n).map fun i =>
    ({ point := Fin.ofNat 256 (100 + i), value := 0, expiry := 60000, tag := 0 } : Override)
  { s with stc := { s.stc with hold := hold, stage := stage }
           cau := { s.cau with keyLocal := keyLocal, overrides := others } }

/-- The hypotheses of the clause for one word. -/
def meetsOwned (w : Frame) (s : State) : Bool :=
  let r := lookup { plan := s.planInForce, station := w.dst, channel := w.channel } .command 2 s
  r.1.result == .hit 10 && !r.1.parityFault && !(ownerOf s.cfg 10 == .nobody) && s.signals == [] && !s.lau.judgeDue

/-- One state for each of its outcomes: forwarded, PANEL_LOCAL, LOCAL_AUTHORITY, BAD_FRAME, OVERRIDE_FULL, adopted as the 16th. -/
theorem witness_SupervisoryWriteAuthority_one :
    meetsOwned (pumpWrite 1) (judged .held .clear false 0) = true ∧ meetsOwned (pumpWrite 1) (judged .running .clear true 0) = true ∧
    meetsOwned (pumpWrite 1) (judged .running .alert false 0) = true ∧
    (meetsOwned (pumpWrite 2) (judged .running .watch false 0) = true ∧ (Owner.pump 0).accepts 2 = false) ∧
    (meetsOwned (pumpWrite 1) (judged .running .watch false 16) = true ∧ (judged .running .watch false 16).override (some 10) = none) ∧
    (meetsOwned (pumpWrite 1) (judged .running .watch false 15) = true ∧ (Owner.pump 0).accepts 1 = true) := by
  decide +kernel

theorem witness_SupervisoryWriteAuthority_span :
    let w := { pumpWrite 1 with payload := [1, 0] }
    let s := judged .running .clear false 0
    let r := lookups s.planInForce w.dst .command 2 w.channel.toNat w.payload.length s
    1 < w.payload.length ∧ (r.1.all fun l => l.parityFault == false && !(l.result == .multiHit)) = true ∧
      (r.1.any fun l => l.result == .hit 10) = true ∧ ownerOf s.cfg 10 ≠ .nobody := by decide +kernel

/-- A supervisory READ in flight. -/
def readInFlight (phase : Phase) (dst : Station) : Transaction :=
  { origin := .supervisory { lastRead with dst := dst }, frame := { lastRead with dst := dst }, phase := phase, window := 10
    timer := .running 10 }

def flying (x : Transaction) (s : State) : State := { s with flc := { s.flc with transaction := some x } }

theorem witness_FieldSendAndArrival :
    (∀ d ∈ [(0 : Station), 61], (flying (readInFlight .sending d) State.reset).AtRest ∧
      (flying (readInFlight .sending d) State.reset).flc.transaction = some (readInFlight .sending d)) ∧
    (State.reset.AtRest ∧ ∀ x : Transaction, State.reset.flc.transaction = some x → x.phase ≠ .sending) ∧
    (let x := readInFlight .awaiting 61
     let s := flying x State.reset
     let ok : Frame := { kind := 4, tag := 9, dst := 62, src := 61, channel := 8, payload := [2] }
     s.AtRest ∧ s.flc.transaction = some x ∧ x.phase = .awaiting ∧ s.flc.line = .running ∧ Frame.decode [1, 2] = none ∧
       Frame.decode ok.encode = some ok ∧ (ok.src = x.frame.dst ∧ ok.tag = x.frame.tag ∧ ok.dst = x.frame.src) ∧
       x.accepts ok = true ∧ x.accepts { ok with payload := [] } = false ∧ { ok with tag := 10 }.tag ≠ x.frame.tag) :=
  ⟨fun _ _ => ⟨rest ⟨rfl, rfl⟩, rfl⟩, ⟨rest (by decide +kernel), of_none rfl⟩,
    rest (by decide +kernel), rfl, rfl, rfl, by decide +kernel, by decide +kernel, by decide +kernel, by decide +kernel,
    by decide +kernel, by decide +kernel⟩

/-- The value of one sample and the echo of one word from station 5 channel 3. -/
def oneValue : Frame := { kind := 1, tag := 4, dst := 63, src := 5, channel := 3, payload := [7, 1] }
def oneEcho : Frame := { kind := 3, tag := 4, dst := 63, src := 5, channel := 3, payload := [1] }

/-- The command of the run point of pump 1 in flight. -/
def commanding : Transaction :=
  { origin := .command 10 1 1, frame := { kind := 2, tag := 4, dst := 5, src := 63, channel := 3, payload := [1] }
    phase := .awaiting, window := 10, timer := .running 10 }

theorem witness_RepliesObserved :
    (oneValue.payload = [7, 1] ∧
      (lookup { plan := 0, station := 5, channel := 3 } .sample 1 (mapped .sample 60 State.reset)).1.result = .hit 60 ∧
      (lookup { plan := 0, station := 5, channel := 4 } .sample 1 (mapped .sample 60 State.reset)).1.result = .miss) ∧
    (let s := scanRead .awaiting (.running 10) State.reset
     let x : Transaction :=
       { origin := .scan 0, frame := { kind := 0, tag := 4, dst := 5, src := 63, channel := 3, payload := [1] }
         phase := .awaiting, window := 10, timer := .running 10 }
     s.AtRest ∧ s.flc.transaction = some x ∧ s.flc.line = .running ∧ Frame.decode oneValue.encode = some oneValue ∧
       x.accepts oneValue = true ∧ (oneValue.src = x.frame.dst ∧ oneValue.tag = x.frame.tag ∧ oneValue.dst = x.frame.src)) ∧
    (let s := flying commanding (pumpIn .starting {} State.reset)
     s.AtRest ∧ s.flc.transaction = some commanding ∧ s.flc.line = .running ∧ Frame.decode oneEcho.encode = some oneEcho ∧
       commanding.accepts oneEcho = true ∧ (s.pcfg 10).kind = .command ∧
       (oneEcho.src = commanding.frame.dst ∧ oneEcho.tag = commanding.frame.tag ∧ oneEcho.dst = commanding.frame.src)) :=
  ⟨by decide +kernel,
    ⟨rest (by decide +kernel), rfl, rfl, by decide +kernel, by decide +kernel, by decide +kernel⟩,
    ⟨rest (by decide +kernel), rfl, rfl, by decide +kernel, by decide +kernel, by decide +kernel, by decide +kernel⟩⟩

theorem witness_TransactionExpiries :
    (let s := flying commanding (pumpIn .starting {} State.reset)
     s.AtRest ∧ s.flc.transaction = some commanding ∧ commanding.timer = .running 10 ∧ s.flc.line = .running ∧
       commanding.origin = .command 10 1 1 ∧ (∀ e ∈ s.flc.commandQueue, e.point ≠ 10) ∧ ownerOf s.cfg 10 ≠ .nobody) ∧
    (let s := flying (readInFlight .guard 0) State.reset
     s.AtRest ∧ s.flc.transaction = some (readInFlight .guard 0) ∧ (readInFlight .guard 0).timer = .running 10) ∧
    ∀ x : Transaction, State.reset.flc.transaction = some x → x.phase ≠ .awaiting :=
  ⟨⟨rest (by decide +kernel), rfl, rfl, rfl, rfl, by decide +kernel, by decide +kernel⟩,
    ⟨rest (by decide +kernel), rfl, rfl⟩, of_none rfl⟩

/-- A line state, free. -/
def line (l : LineState) : State := { State.reset with flc := { State.reset.flc with line := l } }

theorem witness_QuenchAndUnquench :
    (∀ l : LineState, (line l).Taking ∧ (line l).flc.line = l ∧ (line l).flc.transaction = none) ∧
    (let s := flying commanding State.reset
     s.Taking ∧ s.flc.line = .running ∧ s.flc.transaction.isSome = true) :=
  ⟨fun _ => ⟨taking ⟨rfl, rfl⟩ rfl, rfl, rfl⟩, taking (by decide +kernel) rfl, rfl, rfl⟩

theorem witness_FieldWorkStaysLawful :
    busy.CommandsDistinct ∧ (∃ t, step busy = .next t) ∧
    (let s := { line .quenched with pending := [Instr.upstreamTransmit] }
     s.QuenchedIdle ∧ s.flc.line = .quenched ∧ ∃ t, step s = .next t) := by
  refine ⟨?_, busy_goes_on, fun _ => ⟨rfl, rfl, rfl, rfl, rfl⟩, rfl, _, rfl⟩
  unfold State.CommandsDistinct; decide +kernel

/-! ### The maps -/

theorem witness_StorageFaultFailsCheck :
    State.reset.AtRest ∧ (Instr.mapStorageFault (.setMap 127 1) 0x800000).wellFormed = true :=
  ⟨rest (by decide +kernel), by decide +kernel⟩

/-- The same key standing twice, with two points. -/
def twice : State :=
  let f : MapFields := { valid := true, station := 5, channel := 3, point := 61 }
  (mapped .sample 60 State.reset).putEntry (.setMap 83 1) { fields := f, check := parity f.bits }

/-- The places that match station 5 channel 3 of PLAN 0. -/
def found (s : State) : List MapLoc :=
  (lookupPlaces { plan := 0, station := 5, channel := 3 }).filter fun l =>
    (s.mapEntry l).fields.isMatch { plan := 0, station := 5, channel := 3 }

theorem witness_LookupResolves :
    found State.reset = [] ∧ found (mapped .sample 60 State.reset) = .pinned 2 :: [] ∧
    (∀ l ∈ found (mapped .sample 60 State.reset), ((mapped .sample 60 State.reset).mapEntry l).checkGood = true) ∧
    ((mapped .sample 60 State.reset).mapEntry (.pinned 2)).fields.direction = .sample ∧
    ((mapped .command 60 State.reset).mapEntry (.pinned 2)).fields.direction ≠ .sample ∧
    found twice = [.pinned 2, .setMap 83 1] ∧ (∀ l ∈ found twice, (twice.mapEntry l).checkGood = true) ∧
    (twice.mapEntry (.setMap 83 1)).fields.point ≠ (twice.mapEntry (.pinned 2)).fields.point := by decide +kernel

theorem reset_altering : State.reset.Altering := altering (by decide +kernel) rfl rfl

theorem reset_taking : State.reset.Taking := reset_altering.1

/-- The flags 0 and 15, the last slot, set and way, the first and the last key. -/
theorem witness_MapWriteExplicit :
    State.reset.Altering ∧ ((12 : Word).toNat < 16 ∧ (12 : Word).getLsbD 0 = false) ∧
    ((13 : Word).toNat < 16 ∧ (13 : Word).getLsbD 0 = true ∧ (13 : Word).getLsbD 1 = false ∧ (3 : Word).toNat ≤ 3 ∧
      1 ≤ (61 : Word).toNat ∧ (61 : Word).toNat ≤ 61 ∧ (15 : Word).toNat ≤ 15 ∧ (255 : Word).toNat ≤ 255) ∧
    (15 : Word).toNat = (15 : Fin 16).val ∧ (63 : Word).toNat = (63 : Fin 128).val ∧ (1 : Word).toNat = (1 : Fin 2).val ∧
    setIndex 3 61 15 = 63 ∧ setIndex 3 61 14 ≠ 63 :=
  ⟨reset_altering, by decide +kernel⟩

/-- The Pinned Map with every slot valid and used, locked or not. -/
def fullPins (lock : Bool) : State :=
  let e : MapEntry := { fields := { valid := true, lock := lock, station := 1 }, used := true }
  { State.reset with pmu := { State.reset.pmu with pinned := Vector.replicate 16 e } }

theorem witness_MapWriteAutomatic :
    (State.reset.Altering ∧ (fullPins true).Altering ∧ (fullPins false).Altering) ∧
    ((15 : Word).toNat < 16 ∧ (15 : Word).getLsbD 0 = true ∧ (15 : Word).getLsbD 1 = true ∧ (13 : Word).getLsbD 1 = false ∧
      (3 : Word).toNat ≤ 3 ∧ 1 ≤ (61 : Word).toNat ∧ (61 : Word).toNat ≤ 61 ∧ (15 : Word).toNat ≤ 15 ∧ (255 : Word).toNat ≤ 255) ∧
    (let f : MapFields := { valid := true, station := 61, channel := 15, point := 255 }
     (∀ i : Fin 16, ¬ (((fullPins true).mapEntry (.pinned i)).fields.sameKey f = true)) ∧
       (∀ i : Fin 16, ((fullPins true).mapEntry (.pinned i)).fields.valid = true) ∧
       (∀ i : Fin 16, ((fullPins true).mapEntry (.pinned i)).fields.lock = true) ∧
       (∀ i : Fin 16, ((fullPins false).mapEntry (.pinned i)).fields.lock = false) ∧
       (∀ i : Fin 16, ((fullPins false).mapEntry (.pinned i)).used = true) ∧
       (State.reset.mapEntry (.pinned 0)).fields.valid = false) :=
  ⟨⟨reset_altering, altering (by decide +kernel) rfl rfl, altering (by decide +kernel) rfl rfl⟩, by decide +kernel, by decide +kernel⟩

theorem witness_MapRead :
    State.reset.Taking ∧ (15 : Word).toNat = (15 : Fin 16).val ∧ (127 : Word).toNat = (127 : Fin 128).val ∧
      15 < (16 : Word).toNat ∧ 127 < (128 : Word).toNat ∧ 1 < (2 : Word).toNat ∧ [(0 : Word), 15].length < 3 :=
  ⟨reset_taking, by decide⟩

theorem witness_MissAndFaultReads : State.reset.Taking ∧ (1 : Word).toNat ≤ 1 ∧ 1 < (2 : Word).toNat := ⟨reset_taking, by decide⟩

theorem witness_Demaps : State.reset.Altering ∧ (3 : Word).toNat ≤ 3 ∧ 3 < (4 : Word).toNat ∧ 61 < (62 : Word).toNat ∧
    15 < (16 : Word).toNat ∧ [(0 : Word), 5].length < 3 := ⟨reset_altering, by decide⟩

/-! ### Points, scan and sumps -/

/-- The points 0 to 7 LEVEL, each with its queue. -/
def eightLevels : State :=
  let v := Vector.ofFn fun i : Fin 256 =>
    if h : i.val < 8 then ({ kind := .level, queue := some ⟨i.val, h⟩ } : PointCfg) else {}
  { State.reset with cfg := { State.reset.cfg with points := v } }

theorem witness_PointSet :
    State.reset.Altering ∧ ((255 : Word).toNat = (255 : PointId).val ∧ (5 : Word).toNat ≤ 5 ∧ (255 : Word).toNat ≤ 255) ∧
    (pointKindOf 1 = .level ∧ (1 : Word).toInt ≤ (1 : Word).toInt ∧ (0 : Word).toInt < (1 : Word).toInt ∧ 1 < (2 : Word).toNat) ∧
    (eightLevels.Altering ∧ (eightLevels.pcfg 8).kind ≠ .level ∧ ∀ q : QueueId, ∃ r : PointId, (eightLevels.pcfg r).queue = some q) ∧
    (∃ q : QueueId, ∀ r : PointId, (State.reset.pcfg r).queue ≠ some q) ∧
    (let s := pumpIn .idle {} State.reset
     s.Altering ∧ (s.pcfg 10).kind = .command ∧ ownerOf s.cfg 10 ≠ .nobody) :=
  ⟨reset_altering, by decide, by decide +kernel,
    ⟨altering (by decide +kernel) rfl rfl, by decide +kernel, fun q => ⟨q.castLE (by decide), by revert q; decide +kernel⟩⟩,
    ⟨0, by decide +kernel⟩, altering (by decide +kernel) rfl rfl, by decide +kernel, by decide +kernel⟩

/-- The due timer of entry 32 running, its entry pending or not. -/
def due (l : List ScanId) : State :=
  { State.reset with pim := { State.reset.pim with scanDue := Tab.put State.reset.pim.scanDue 31 (.running 100) }
                     flc := { State.reset.flc with scanPending := l } }

theorem witness_ScanTableAndSchedule :
    (State.reset.Altering ∧ (32 : Word).toNat = (31 : ScanId).val + 1 ∧ 1 ≤ (61 : Word).toNat ∧ (61 : Word).toNat ≤ 61 ∧
      1 ≤ (8 : Word).toNat ∧ (8 : Word).toNat + (8 : Word).toNat ≤ 16 ∧ (255 : Word).toNat ≤ 255 ∧ (1 : Word).toNat ≤ 1) ∧
    (∀ l ∈ [[], [31]], (due l).AtRest ∧ Tab.get (due l).pim.scanDue 31 = .running 100 ∧ (due l).flc.line ≠ .quenched ∧
      (due l).flc.scanPending = l) ∧
    ∀ d : Nat, Tab.get State.reset.pim.scanDue 31 ≠ .running d :=
  ⟨⟨reset_altering, by decide⟩, fun _ _ => ⟨rest ⟨rfl, rfl⟩, Tab.get_put_self _ _ _, fun h => LineState.noConfusion h, rfl⟩,
    not_running (by decide +kernel)⟩

theorem witness_SamplesAndFreshness :
    (State.reset.pcfg 0).kind = .unused ∧ ((discrete 11 1 State.reset).pcfg 11).kind = .discrete ∧
    (let s := setPoint 60 .feedback { quality := .good, freshTimer := .running 300 } State.reset
     s.AtRest ∧ (s.point 60).freshTimer = .running 300 ∧ (s.point 60).quality = .good) ∧
    (let s := setPoint 60 .feedback { quality := .invalid, freshTimer := .running 300 } State.reset
     s.AtRest ∧ (s.point 60).freshTimer = .running 300 ∧ (s.point 60).quality ≠ .good) ∧
    ∀ d : Nat, (State.reset.point 60).freshTimer ≠ .running d :=
  ⟨by decide +kernel, by decide +kernel, ⟨rest (by decide +kernel), by decide +kernel⟩, ⟨rest (by decide +kernel), by decide +kernel⟩,
    not_running (by decide +kernel)⟩

/-- A cycle in flight. -/
def inCycle (s : State) : State :=
  { s with sau := { s.sau with cycle := some { interval := 500, drains := [], outflow := #v[0, 0, 0, 0] } } }

/-- Operands of SUMP_SET for sump 4 with primary level point 24, and of GEOMETRY_SET for its last breakpoint. -/
def sumpWords4 : List Word := [4, 24, 256, 4096, 0, 16, 16, 2, 1]
def geometryWords4 : List Word := [4, 7, 1, 20000, 65535, 65535]

theorem witness_SumpAndGeometrySet :
    ((inCycle State.reset).Altering ∧ (inCycle State.reset).sau.cycle.isSome = true) ∧ State.reset.sau.cycle = none ∧
    (∃ x, parseSump sumpWords4 = some x ∧ x.1 = 3 ∧ x.2.primary = some 24 ∧ x.2.backup = none) ∧
    (((setPoint 24 .level {} State.reset).pcfg 24).kind = .level ∧ (State.reset.pcfg 24).kind ≠ .level) ∧
    (setPoint 24 .level {} State.reset).Altering ∧
    ∃ x, parseGeometry geometryWords4 = some x ∧ x.1 = 3 ∧ x.2.1 = 7 :=
  ⟨⟨altering (by decide +kernel) rfl rfl, rfl⟩, rfl, ⟨_, rfl, by decide +kernel⟩, by decide +kernel,
    altering (by decide +kernel) rfl rfl, _, rfl, by decide +kernel⟩

theorem witness_CycleBegins :
    (State.reset.AtRest ∧ State.reset.sau.cycleTimer = .running 500 ∧ State.reset.sau.cycle = none) ∧
    ((inCycle State.reset).AtRest ∧ (inCycle State.reset).sau.cycle.isSome = true) ∧
    { State.reset with sau := { State.reset.sau with cycleTimer := .stopped } }.sau.cycleTimer = .stopped ∧
    ∀ p r : PointId, (eightLevels.pcfg p).queue.isSome = true → (eightLevels.pcfg p).queue = (eightLevels.pcfg r).queue → p = r := by
  refine ⟨⟨rest (by decide +kernel), rfl, rfl⟩, ⟨rest (by decide +kernel), rfl⟩, rfl, ?_⟩
  intro p r hp h
  simp only [State.pcfg, eightLevels, Tab.get, Vector.getElem_ofFn] at hp h
  split at hp
  · rw [dif_pos ‹_›] at h
    split at h
    · simpa [Fin.ext_iff] using h
    · simp at h
  · simp at hp

theorem witness_CycleCompletes :
    (inCycle State.reset).AtRest ∧
    (inCycle State.reset).sau.cycle = some { interval := 500, drains := [], outflow := #v[0, 0, 0, 0] } ∧
    (inCycle State.reset).sau.deferred = [] ∧ State.reset.sau.cycle = none := ⟨rest (by decide +kernel), rfl, rfl, rfl⟩

theorem witness_SumpComputation :
    (cleanDrain 24 [9830, 9840, 9826]).fit = true ∧ (cleanDrain 24 []).fit = false ∧ (cleanDrain 25 [1010]).fit = true ∧
    (validGeometry geometry).isSome = true ∧ validGeometry (Vector.replicate 8 none) = none := by decide +kernel

theorem witness_GeometryAndVolume :
    ∃ l, validGeometry geometry = some l ∧
      l = { x := 0, y := 0 } :: l.tail ∧ l = l.dropLast ++ [{ x := 4000, y := 250000 }] ∧
      l = [{ x := 0, y := 0 }] ++ { x := 1000, y := 40000 } :: { x := 2500, y := 130000 } :: [{ x := 4000, y := 250000 }] :=
  ⟨[{ x := 0, y := 0 }, { x := 1000, y := 40000 }, { x := 2500, y := 130000 }, { x := 4000, y := 250000 }], by decide +kernel⟩

theorem witness_SumpQuantitiesStayInRange : busy.SumpsInRange ∧ ∃ t, step busy = .next t := by
  refine ⟨⟨?_, ?_, of_none rfl, of_none rfl⟩, busy_goes_on⟩
  · unfold SumpState.InRange; decide +kernel
  · unfold Tables.SumpsInRange; decide +kernel

theorem witness_TablesStored :
    State.reset.Altering ∧ 10 ≤ (10 : Word).toNat ∧ (3600 : Word).toNat ≤ 3600 ∧ (4 : Word).toNat = (3 : SumpId).val + 1 ∧
      (20000 : Word).toNat ≤ 20000 ∧ (32767 : Word).toNat ≤ 32767 ∧ (3 : Word).toNat = (3 : Fin 4).val ∧
      (7 : Word).toNat = (7 : Fin 8).val := ⟨reset_altering, by decide⟩

/-! ### The STAGE, the hold, authority and supply -/

theorem witness_AdvanceAndStepEnd :
    (held.Taking ∧ held.stc.hold = .held ∧ State.reset.Taking ∧ State.reset.stc.hold ≠ .held) ∧
    (stepping.AtRest ∧ ∃ r, stepping.stc.step = some r ∧ r.pscDone = true ∧ r.gsqDone = true ∧ r.ltuDone = true) ∧
    State.reset.stc.step = none :=
  ⟨⟨taking (by decide +kernel) rfl, rfl, reset_taking, by decide⟩, ⟨rest (by decide +kernel), _, rfl, rfl, rfl, rfl⟩, rfl⟩

/-- A STAGE of the record. -/
def staged (f : Stc → Stc) : State := { State.reset with stc := f State.reset.stc }

theorem witness_HoldRequestsAndRelease :
    State.reset.Taking ∧ State.reset.stc.stage ≠ .closed ∧
    (let s := staged fun c => { c with stage := .closed, reopenReady := true }
     s.Taking ∧ s.stc.stage = .closed ∧ s.stc.reopenReady = true) :=
  ⟨reset_taking, by decide, taking (by decide +kernel) rfl, rfl, rfl⟩

theorem witness_StageTimers :
    (∀ g ∈ [Stage.alert, .watch], (staged fun c => { c with stage := g, descent := .running 7 }).AtRest ∧
      (staged fun c => { c with stage := g, descent := .running 7 }).stc.descent = .running 7) ∧
    (State.reset.AtRest ∧ State.reset.stc.derive = .running 10000) ∧
    (staged fun c => { c with reopen := .running 7 }).stc.reopen = .running 7 ∧
    (∀ d : Nat, State.reset.stc.descent ≠ .running d) ∧ ∀ d : Nat, State.reset.stc.reopen ≠ .running d :=
  ⟨fun _ _ => ⟨rest ⟨rfl, rfl⟩, rfl⟩, ⟨rest (by decide +kernel), rfl⟩, rfl, not_running rfl, not_running rfl⟩

/-- Completion data of sump 1 that meet test 1 at its threshold and none below it. -/
theorem witness_DemandedStage :
    let th : Vector Thresholds 4 := Vector.replicate 4 { closure := 20000 }
    let x : SumpData :=
      { sump := 0, source := .primary, levelQuality := .good, cycleLevel := 20000, filtered := 20000, volume := 0, inflow := 0
        controlInflow := 0, inflowLimited := false, inflowGood := true, rate := 0, blindCount := 0 }
    (demandedOf th [x]).1 = .closing ∧ (demandedOf th [{ x with filtered := 19999 }]).1 = .clear ∧
      (demandedOf th [{ x with filtered := 19999, blindCount := 3 }]) = (.alert, { sump := 1, test := 4 }) := by decide +kernel

theorem witness_ReopeningOnlyFromClosed :
    let s := { (staged fun c => { c with stage := .closed, reopenReady := true, allOpen := false }) with pending := [Instr.release 0] }
    ∃ t, step s = .next t ∧ t.stc.stage = .reopening ∧ s.stc.stage ≠ .reopening :=
  ⟨_, rfl, by decide +kernel, by decide +kernel⟩

theorem witness_HoldStaysConsistent :
    busy.HoldConsistent ∧ (∃ t, step busy = .next t) ∧ stepping.HoldConsistent ∧ stepping.stc.hold = .stepping := by
  refine ⟨?_, busy_goes_on, ?_, rfl⟩ <;> unfold State.HoldConsistent <;> decide +kernel

theorem witness_OperationsTurnedAway :
    (let s := { State.reset with mgu := { State.reset.mgu with restart := .answering } }
     s.AtRest ∧ s.mgu.restart ≠ .none) ∧
    (let s := { State.reset with mgu := { State.reset.mgu with commit := some { tag := 0, image := { tables := {}, pinned := Vector.replicate 16 {}, sets := Vector.replicate 256 {} } } } }
     s.AtRest ∧ s.mgu.restart = .none ∧ s.mgu.commit.isSome = true ∧ s.sau.cycle = none) ∧
    ((Instr.restart 0).wellFormed = true ∧ commandFrame (.restart 0) = some { kind := 6, dst := 63, src := 62, payload := [58] }) ∧
    knownOp 59 = false ∧ State.reset.mgu.commit = none ∧ parsePoint [] State.reset.pcfg = none ∧ parseScan [] = none ∧
    parseSump [] = none ∧ parseGeometry [] = none ∧ parsePump [] = none ∧ ([] : List Word).head? ≠ some 0 ∧ parsePumping [] = none ∧
    parseBarrier [] = none ∧ parseGate [] = none ∧ parseZone [] = none ∧ parseCurve [] = none ∧ parsePlans [] = none ∧
    parseSupply [] = none ∧ parseLine [] = none ∧ parseMapWrite [] = none :=
  ⟨⟨rest (by decide +kernel), by decide +kernel⟩, ⟨rest (by decide +kernel), by decide +kernel⟩, by decide +kernel,
    by decide +kernel, rfl, rfl, rfl, rfl, rfl, rfl, by decide, rfl, rfl, rfl, rfl, rfl, rfl, rfl, rfl, rfl⟩

theorem witness_OverridesStayLawful : busy.OverridesLawful ∧ busy.cau.overrides.length = 1 ∧ ∃ t, step busy = .next t := by
  refine ⟨?_, rfl, busy_goes_on⟩
  unfold State.OverridesLawful; decide +kernel

theorem witness_SupplySetAndExpiries :
    (let s := setPoint 255 .discrete {} State.reset
     s.Altering ∧ (s.pcfg 255).kind = .discrete ∧ (255 : Word).toNat ≤ 256 ∧ 100 ≤ (600 : Word).toNat ∧ (600 : Word).toNat ≤ 600 ∧
       1 ≤ (60 : Word).toNat ∧ (60 : Word).toNat ≤ 60 ∧ ¬ (60 : Word).toNat ≤ 59) ∧
    (busy.AtRest ∧ busy.override (some 10) = some { point := 10, value := 1, expiry := 600000, tag := 2 } ∧
      State.reset.override (some 10) = none) ∧
    (let w : InrushWindow := { device := .gate, extra := 3, timer := .running 5000 }
     let s := { State.reset with lau := { State.reset.lau with window := some w } }
     s.AtRest ∧ s.lau.window = some w ∧ s.lau.queue = [] ∧ s.lau.shedDemand = false ∧ s.lau.committed - w.extra ≤ s.allowance) ∧
    ∀ (w : InrushWindow) (d : Nat), State.reset.lau.window = some w → w.timer ≠ .running d :=
  ⟨⟨altering (by decide +kernel) rfl rfl, by decide +kernel⟩, ⟨rest (by decide +kernel), by decide +kernel⟩,
    ⟨rest (by decide +kernel), rfl, rfl, rfl, by decide +kernel⟩, by nofun⟩

theorem witness_StartQueueStaysOrdered : busy.StartQueueLawful ∧ busy.lau.queue.length = 1 ∧ ∃ t, step busy = .next t := by
  refine ⟨?_, rfl, busy_goes_on⟩
  unfold State.StartQueueLawful; decide +kernel

theorem reports_of {s : State} {x : Bool × Bool} (h : s.gsq.reported = some x) (h' : x = s.barrierSummary) : s.ReportsCurrent := by
  unfold State.ReportsCurrent; rw [h]; exact h'

theorem witness_ReportsFollowRecords : busy.LoadsAgree ∧ busy.ReportsCurrent ∧ ∃ t, step busy = .next t := by
  refine ⟨?_, reports_of rfl (by decide +kernel), busy_goes_on⟩
  · unfold State.LoadsAgree
    refine ⟨by decide +kernel, by decide +kernel, by decide +kernel, by decide +kernel, by decide +kernel, of_none rfl⟩

/-! ### The devices -/

theorem witness_RunLimitsHold :
    busy.RunLimitsKept ∧ busy.countPumps 0 PumpMode.claims = 1 ∧ (busy.pumpingCfg 0).runLimit = 1 ∧ ∃ t, step busy = .next t := by
  refine ⟨?_, by decide +kernel, by decide +kernel, busy_goes_on⟩
  unfold State.RunLimitsKept; decide +kernel

/-- Operands of PUMP_SET for pump 1. -/
def pumpWords1 (enable : Word) : List Word := [1, enable, 1, 120, 50, 100, 5, 10, 11, 256, 10, 10, 60, 6]

theorem witness_PumpSettings :
    (∀ e ∈ [(0 : Word), 1], ∃ x, parsePump (pumpWords1 e) = some x ∧ x.1 = 0 ∧ x.2.enable = (e == 1)) ∧
    (∀ m ∈ [PumpMode.idle, .faulted, .resting, .queued], (pumpIn m {} State.reset).Altering ∧
      ((pumpIn m {} State.reset).pump 0).mode = m) ∧
    (((pumpIn .idle {} State.reset).pcfg 10).kind = .command ∧ ownerOf (pumpIn .idle {} State.reset).cfg 10 = .pump 0 ∧
      ((pumpIn .idle {} State.reset).pcfg 11).kind = .discrete ∧ (State.reset.pcfg 10).kind ≠ .command) ∧
    (∃ x, parsePumping [4, 0, 0, 0, 0, 0, 0, 0, 0, 1] = some x ∧ x.1 = 3 ∧ x.2.runLimit = 1) := by
  refine ⟨?_, ?_, by decide +kernel, _, rfl, by decide +kernel, by decide +kernel⟩
  · simp only [List.mem_cons, List.not_mem_nil, or_false, forall_eq_or_imp, forall_eq]
    exact ⟨⟨_, rfl, by decide +kernel⟩, _, rfl, by decide +kernel⟩
  · simp only [List.mem_cons, List.not_mem_nil, or_false, forall_eq_or_imp, forall_eq]
    exact ⟨⟨altering (by decide +kernel) rfl rfl, by decide +kernel⟩, ⟨altering (by decide +kernel) rfl rfl, by decide +kernel⟩,
      ⟨altering (by decide +kernel) rfl rfl, by decide +kernel⟩, altering (by decide +kernel) rfl rfl, by decide +kernel⟩

theorem loadsAgree_of {s : State} (h : decide ((∀ p : PumpId, Tab.get s.lau.pumpLoad p = if (s.pump p).mode.counts then (s.pumpCfg p).ratedKw else 0) ∧
      (∀ b : BarrierId, Tab.get s.lau.motorLoad (b.castLE (by decide)) = if (s.barrier b).mode.moves then (s.barrierCfg b).motorKw else 0) ∧
      (Tab.get s.lau.motorLoad 4 = if s.gsq.gate.mode.moves then s.cfg.gate.motorKw else 0) ∧
      s.lau.startOrder.Nodup ∧ ∀ p : PumpId, p ∈ s.lau.startOrder ↔ (s.pump p).mode.inStartOrder = true) = true)
    (h' : s.lau.shedOrder = none) : s.LoadsAgree := by
  obtain ⟨a, b, c, d, e⟩ := of_decide_eq_true h
  exact ⟨a, b, c, d, e, of_none h'⟩

theorem witness_PumpExpiries :
    (let s := pumpIn .starting { startTimer := .running 10000 } State.reset
     s.AtRest ∧ (s.pump 0).startTimer = .running 10000 ∧ (s.pump 0).mode = .starting) ∧
    (let s := pumpIn .stopping { stopTimer := .running 10000 } State.reset
     s.AtRest ∧ (s.pump 0).stopTimer = .running 10000 ∧ (s.pump 0).mode = .stopping) ∧
    (let s := pumpIn .resting { offTimer := .running 60000, hourWindow := .running 3600000, startsInWindow := 6, lastStop := some 0 } State.reset
     s.AtRest ∧ s.LoadsAgree ∧ (s.pump 0).offTimer = .running 60000 ∧ (s.pump 0).hourWindow = .running 3600000 ∧
       (s.pump 0).mode = .resting ∧ (s.pump 0).lastStop = some 0) ∧
    (let s := pumpIn .idle { offTimer := .running 60000, hourWindow := .running 3600000, startTimer := .running 1, stopTimer := .running 1 } State.reset
     s.AtRest ∧ (s.pump 0).offTimer = .running 60000 ∧ (s.pump 0).hourWindow = .running 3600000 ∧
       (s.pump 0).startTimer = .running 1 ∧ (s.pump 0).stopTimer = .running 1 ∧ (s.pump 0).mode = .idle) ∧
    ∀ d : Nat, (State.reset.pump 0).startTimer ≠ .running d :=
  ⟨⟨rest (by decide +kernel), by decide +kernel⟩, ⟨rest (by decide +kernel), by decide +kernel⟩,
    ⟨rest (by decide +kernel), loadsAgree_of (by decide +kernel) rfl, by decide +kernel⟩,
    ⟨rest (by decide +kernel), by decide +kernel⟩, not_running (by decide +kernel)⟩

theorem witness_DeviceResets :
    (let s := pumpIn .faulted { fault := 2 } State.reset
     s.Taking ∧ s.LoadsAgree ∧ (s.pump 0).mode = .faulted ∧ s.goodAt (s.pumpCfg 0).runFeedback 0 = true ∧
       (s.pumpCfg 0).faultFeedback = none) ∧
    (let s := barrierIn .faultTravel { fault := 1 } State.reset
     s.Taking ∧ (s.barrier 0).mode = .faultTravel ∧ s.isGood (s.barrierCfg 0).openLimit = true ∧
       s.isGood (s.barrierCfg 0).closedLimit = true ∧
       ¬ (s.limitSet (s.barrierCfg 0).openLimit = true ∧ s.limitSet (s.barrierCfg 0).closedLimit = true)) ∧
    (∀ m ∈ [BarrierMode.closing, .reversing, .opening, .opened], (barrierIn m {} State.reset).Taking ∧
      ((barrierIn m {} State.reset).barrier 0).mode = m) ∧
    (let s := gateIn .fault { fault := 1 } State.reset
     s.Taking ∧ s.gsq.gate.mode = .fault ∧ s.isGood s.cfg.gate.openLimit = true ∧ s.isGood s.cfg.gate.closedLimit = true ∧
       ¬ (s.limitSet s.cfg.gate.openLimit = true ∧ s.limitSet s.cfg.gate.closedLimit = true)) ∧
    ((gateIn .opening {} State.reset).Taking ∧ (gateIn .opening {} State.reset).gsq.gate.mode = .opening) ∧
    ((8 : Word).toNat = (7 : PumpId).val + 1 ∧ 8 < (9 : Word).toNat ∧ (4 : Word).toNat = (3 : BarrierId).val + 1 ∧ 4 < (5 : Word).toNat) := by
  refine ⟨⟨taking (by decide +kernel) rfl, loadsAgree_of (by decide +kernel) rfl, by decide +kernel⟩,
    ⟨taking (by decide +kernel) rfl, by decide +kernel⟩, ?_, ⟨taking (by decide +kernel) rfl, by decide +kernel⟩,
    ⟨taking (by decide +kernel) rfl, rfl⟩, by decide⟩
  simp only [List.mem_cons, List.not_mem_nil, or_false, forall_eq_or_imp, forall_eq]
  exact ⟨⟨taking (by decide +kernel) rfl, by decide +kernel⟩, ⟨taking (by decide +kernel) rfl, by decide +kernel⟩,
    ⟨taking (by decide +kernel) rfl, by decide +kernel⟩, taking (by decide +kernel) rfl, by decide +kernel⟩

/-- Points of the kinds that the settings of barrier 1, the gate and zone 1 ask for. -/
def kinds : State :=
  setPoint 20 .command {} (setPoint 30 .command {} (setPoint 40 .command {} (setPoint 33 .analog {} (setPoint 41 .feedback {}
    (discrete 21 1 (discrete 22 0 (discrete 23 0 (discrete 31 0 (discrete 32 1 State.reset)))))))))

theorem witness_DeviceSettings :
    kinds.Altering ∧
    (∃ x, parseBarrier [1, 1, 20, 21, 22, 23, 256, 256, 65535, 120, 5, 120] = some x ∧ x.1 = 0 ∧ x.2.enable = true ∧
      x.2.drive = some 20 ∧ x.2.openLimit = some 21) ∧
    (∃ x, parseGate [1, 30, 31, 32, 33, 4, 5000, 3600, 65535, 300] = some x ∧ x.enable = true ∧ x.drive = some 30) ∧
    (∃ x, parseZone [6, 1, 40, 41, 33, 3, 65535, 32767, 100, 100, 100] = some x ∧ x.1 = 5 ∧ x.2.enable = true ∧ x.2.dim = some 40) ∧
    ((kinds.pcfg 20).kind = .command ∧ ownerOf kinds.cfg 20 = .nobody ∧ (kinds.pcfg 21).kind = .discrete ∧
      (kinds.pcfg 33).kind = .analog ∧ (kinds.pcfg 41).kind = .feedback ∧ (State.reset.pcfg 20).kind ≠ .command) ∧
    ((kinds.barrier 0).mode.moves = false ∧ kinds.gsq.gate.mode.moves = false) ∧
    ((barrierIn .closing {} State.reset).Altering ∧ ((barrierIn .closing {} State.reset).barrier 0).mode.moves = true) ∧
    ((gateIn .closing {} State.reset).Altering ∧ (gateIn .closing {} State.reset).gsq.gate.mode.moves = true) :=
  ⟨altering (by decide +kernel) rfl rfl, ⟨_, rfl, by decide +kernel⟩, ⟨_, rfl, by decide +kernel⟩, ⟨_, rfl, by decide +kernel⟩,
    by decide +kernel, by decide +kernel, ⟨altering (by decide +kernel) rfl rfl, by decide +kernel⟩,
    altering (by decide +kernel) rfl rfl, by decide +kernel⟩

theorem witness_MovementExpiries_barrier :
    (let s := barrierIn .warning { warnTimer := .running 30000 } State.reset
     s.AtRest ∧ s.LoadsAgree ∧ s.ReportsCurrent ∧ (s.barrier 0).warnTimer = .running 30000 ∧ (s.barrier 0).mode = .warning) ∧
    (let s := barrierIn .clearing { clearTimer := .running 20000 } State.reset
     s.AtRest ∧ s.ReportsCurrent ∧ (s.barrier 0).clearTimer = .running 20000 ∧ (s.barrier 0).mode = .clearing ∧
       s.barrierClear 0 = true ∧ s.flc.line ≠ .quenched ∧ s.lau.queue.length < 16) ∧
    (let s := barrierIn .clearing { clearTimer := .running 20000 } (line .quenched)
     s.AtRest ∧ (s.barrier 0).mode = .clearing ∧ s.flc.line = .quenched) ∧
    (let s := barrierIn .closing { travelTimer := .running 40000 } State.reset
     s.AtRest ∧ (s.barrier 0).travelTimer = .running 40000 ∧ (s.barrier 0).mode.moves = true) ∧
    (let s := barrierIn .opened { warnTimer := .running 1, clearTimer := .running 1, travelTimer := .running 1 } State.reset
     s.AtRest ∧ (s.barrier 0).warnTimer = .running 1 ∧ (s.barrier 0).mode = .opened) ∧
    ∀ d : Nat, (State.reset.barrier 3).warnTimer ≠ .running d := by
  refine ⟨⟨rest (by decide +kernel), loadsAgree_of (by decide +kernel) rfl, reports_of rfl (by decide +kernel), by decide +kernel⟩,
    ⟨rest (by decide +kernel), reports_of rfl (by decide +kernel), by decide +kernel⟩, ⟨rest (by decide +kernel), by decide +kernel⟩,
    ⟨rest (by decide +kernel), by decide +kernel⟩, ⟨rest (by decide +kernel), by decide +kernel⟩, not_running (by decide +kernel)⟩

theorem witness_MovementExpiries_gate :
    (let s := gateIn .closed { dwellTimer := .running 300000 } State.reset
     s.AtRest ∧ s.ReportsCurrent ∧ s.gsq.gate.dwellTimer = .running 300000 ∧ s.gsq.gate.mode = .closed ∧ s.flc.line ≠ .quenched ∧
       s.lau.queue.length < 16) ∧
    (let s := gateIn .opening { travelTimer := .running 90000 } State.reset
     s.AtRest ∧ s.gsq.gate.travelTimer = .running 90000 ∧ s.gsq.gate.mode.moves = true) ∧
    ∀ d : Nat, State.reset.gsq.gate.dwellTimer ≠ .running d := by
  refine ⟨⟨rest (by decide +kernel), reports_of rfl (by decide +kernel), by decide +kernel⟩, ⟨rest (by decide +kernel), by decide +kernel⟩, not_running rfl⟩

/-- A curve of two breakpoints, its luminances at both ends of the range. -/
def curve : Vector (Option Breakpoint) 8 := #v[some { x := 0, y := 0 }, some { x := 65535, y := 100 }, none, none, none, none, none, none]

theorem witness_LightingEvaluation :
    (∃ l, validCurve curve = some l ∧ l = { x := 0, y := 0 } :: [{ x := 65535, y := 100 }] ∧
      l = [{ x := 0, y := 0 }] ++ [{ x := 65535, y := 100 }] ∧ l = [] ++ { x := 0, y := 0 } :: { x := 65535, y := 100 } :: [] ∧
      curveAt 65534 l = 99) ∧
    (State.reset.AtRest ∧ State.reset.ltu.timer = .running 1000 ∧ State.reset.stc.hold = .running ∧ State.reset.flc.line ≠ .quenched) ∧
    { State.reset with ltu := { State.reset.ltu with timer := .stopped } }.ltu.timer = .stopped :=
  ⟨⟨[{ x := 0, y := 0 }, { x := 65535, y := 100 }], by decide +kernel⟩, ⟨rest (by decide +kernel), rfl, rfl, by decide⟩, rfl⟩

theorem witness_LightingStaysAboveSafety :
    (let c : ZoneCfg := { enable := true, dim := some 40, safety := 100 }
     let s := { busy with cfg := { busy.cfg with zones := Tab.put busy.cfg.zones 0 c }
                          ltu := { busy.ltu with zones := Tab.put busy.ltu.zones 0 { mode := .normal, level := 100 } } }
     s.ZonesAboveSafety ∧ (s.zone 0).mode = .normal ∧ ∃ t, step s = .next t) := by
  refine ⟨⟨by decide +kernel, ?_, of_none rfl, of_none rfl⟩, by decide +kernel, _, rfl⟩
  unfold Tables.ZonesInRange; decide +kernel

/-! ### Reads, the store and the resets -/

theorem witness_ControlReads :
    State.reset.Taking ∧ (1 : Word).toNat ≤ 1 ∧ 1 < (2 : Word).toNat ∧ (7 : Word).toNat = (7 : QueueId).val ∧ 7 < (8 : Word).toNat ∧
      (255 : Word).toNat = (255 : PointId).val ∧ 255 < (256 : Word).toNat ∧ [(0 : Word)].length < 2 := ⟨reset_taking, by decide⟩

theorem witness_DeviceReads :
    State.reset.Taking ∧ State.reset.sau.cycle = none ∧
    ((inCycle State.reset).Taking ∧ (inCycle State.reset).sau.cycle.isSome = true) ∧
    ((4 : Word).toNat = (3 : SumpId).val + 1 ∧ (8 : Word).toNat = (7 : PumpId).val + 1 ∧ (6 : Word).toNat = (5 : ZoneId).val + 1 ∧
      4 < (5 : Word).toNat ∧ 8 < (9 : Word).toNat ∧ 6 < (7 : Word).toNat ∧ [(0 : Word)].length < 2) :=
  ⟨reset_taking, rfl, ⟨taking (by decide +kernel) rfl, rfl⟩, by decide⟩

theorem witness_SnapshotAndStatusClear :
    (let parts : List (List Word) := [[0, 0, 5]]
     let s := { State.reset with mgu := { State.reset.mgu with snapshot := some (parts, 0) } }
     s.Taking ∧ s.mgu.snapshot = some (parts, 0) ∧ parts[0]? = some [0, 0, 5] ∧ parts.length ≤ 1) ∧
    State.reset.Taking ∧ State.reset.mgu.snapshot = none ∧ (inCycle State.reset).sau.cycle.isSome = true :=
  ⟨⟨taking (by decide +kernel) rfl, rfl, rfl, by decide⟩, reset_taking, rfl, rfl⟩

/-- A store. -/
def image : StoreImage := { tables := {}, pinned := Vector.replicate 16 {}, sets := Vector.replicate 256 {} }

theorem witness_StoreAndResets :
    (State.reset.Altering ∧ State.reset.powerFail = false ∧ { State.reset with powerFail := true }.Altering) ∧
    (let s := { State.reset with mgu := { State.reset.mgu with commit := some { tag := 3, image := image } } }
     s.AtRest ∧ s.mgu.commit = some { tag := 3, image := image }) ∧
    (let s := { State.reset with mgu := { State.reset.mgu with restart := .ready } }
     s.AtRest ∧ s.mgu.restart = .ready) ∧
    State.reset.mgu.restart ≠ .ready ∧ State.reset.mgu.store = none ∧
    { State.reset with mgu := { State.reset.mgu with store := some image } }.mgu.store = some image :=
  ⟨⟨reset_altering, rfl, altering (by decide +kernel) rfl rfl⟩, ⟨rest (by decide +kernel), rfl⟩, ⟨rest (by decide +kernel), rfl⟩,
    by decide, rfl, rfl⟩

/-! ## Witnesses for the further clauses, and tests of what the blocks tell each other -/

/-- The override event of an expiry and of a change to LOCAL carry the point, no value and their cause (R107, R109, R110). -/
theorem test_override_event_causes :
    let s := judged .running .clear false 0
    let t := { s with cau := { s.cau with overrides := [{ point := 10, value := 1, expiry := 600000, tag := 2 }] } }
    (removeOverride 10 (.pump 0) .expired t).signals =
      [.overrideChanged { point := 10, owner := .pump 0, value := none, cause := .expired }] ∧
    (cancelOverrides .panelKey 2 t).signals =
      [.overrideChanged { point := 10, owner := .pump 0, value := none, cause := .panelKey }] ∧
    (cancelOverrides .stage 1 t).cau.overrides = [] := by decide +kernel

/-- A sump that is not CONFIGURED is read with the values of R83, though its blind count is kept (R82). -/
theorem test_record_get_sump_not_configured : after (.recordGetSump 0 [1, 0])
    { State.reset with sau := { State.reset.sau with sumps := Tab.put State.reset.sau.sumps 0 { beforeCycle with blindCount := 9 } } }
    (fun t => answered t == [32, 0, 2, 2, 0, 0, 0, 0, 0, 0, 0, 1, 0, 0, 0, 16]) = true := by decide +kernel

/-- The drain that begins a cycle sets the sticky flags of its sump, before the completion (R67). -/
theorem test_cycle_start_sets_flags : after .drainageCycleStart
    (let q : LevelQueue := { entries := [{ raw := 1, invalid := true, range := false }], overrun := true }
     { eightLevels with
       cfg := { eightLevels.cfg with sumps := Tab.put eightLevels.cfg.sumps 0 { primary := some 0 } }
       pim := { eightLevels.pim with queues := Tab.put eightLevels.pim.queues 0 q } })
    (fun t => (t.sump 0).overrun && (t.sump 0).invalidSeen && !(t.sump 1).overrun) = true := by decide +kernel

theorem witness_ArbiterGrants_dropped :
    (let e : CommandEntry := { point := 10, value := 1, attempt := 2 }
     let s := { pumpIn .idle {} State.reset with flc := { State.reset.flc with commandQueue := [e] } }
     (s.signals = [] ∧ s.lau.judgeDue = false ∧ s.flc.line = .running ∧ s.flc.transaction = none ∧ s.flc.commandQueue = [e] ∧
       s.upp.downstream = [] ∧ s.flc.scanPending = [] ∧ (s.pcfg 10).kind = .command) ∧
       (commandSearch 10 { s with flc := { s.flc with commandQueue := [] } }).1 = none) ∧
    (let s := { State.reset with flc := { State.reset.flc with scanPending := [31] } }
     s.flc.commandQueue = [] ∧ s.upp.downstream = [] ∧ s.flc.scanPending = [31] ∧ (s.scanCfg 31).enable = false) := by decide +kernel

/-- Pinned slot 0 with a failing COMMAND entry before the good one of slot 2. -/
def failingFirst (good : Bool) : State :=
  let f : MapFields := { valid := true, isGlobal := true, direction := .command, station := 5, channel := 3, point := 10 }
  (if good then mapped .command 10 State.reset else State.reset).putEntry (.pinned 0) { fields := f, check := !parity f.bits }

theorem witness_CommandSearchFindsFirst_failing :
    let fails := fun (s : State) (places : List MapLoc) => places.filter fun l =>
      (s.mapEntry l).fields.valid && (s.mapEntry l).fields.direction == .command && !(s.mapEntry l).checkGood
    fails (failingFirst true) [.pinned 0, .pinned 1] = [.pinned 0] ∧ fails (failingFirst false) allPlaces = [.pinned 0] ∧
      ((failingFirst true).mapEntry (.pinned 2)).checkGood = true ∧ (commandSearch 10 (failingFirst false)).1 = none ∧
      (commandSearch 10 (failingFirst true)).1 = some (5, 3) := by
  decide +kernel

/-- A lookup that meets one failing match beside a good one, and one that meets it alone. -/
theorem witness_LookupResolves_failing :
    let k : Key := { plan := 0, station := 5, channel := 3 }
    let fails := fun s : State => (found s).filter fun l => !(s.mapEntry l).checkGood
    fails (failingFirst true) = .pinned 0 :: [] ∧ (found (failingFirst true)).filter (fun l => ((failingFirst true).mapEntry l).checkGood) =
      .pinned 2 :: [] ∧ fails (failingFirst false) = .pinned 0 :: [] ∧ found (failingFirst false) = [.pinned 0] ∧
      (lookup k .command 2 (failingFirst true)).1.result = .hit 10 ∧ (lookup k .command 2 (failingFirst false)).1.result = .miss := by
  decide +kernel

/-- A WRITE that reaches a failing entry, an unmapped channel by either policy, and a point without owner. -/
theorem witness_SupervisoryWriteAuthority_other :
    let w := pumpWrite 1
    let looks := fun s : State => (lookups s.planInForce w.dst .command 2 w.channel.toNat 1 s).1
    let refusing := { State.reset with cfg := { State.reset.cfg with line := { State.reset.cfg.line with refuseUnmapped := true } } }
    ((looks (failingFirst true)).any fun l => l.parityFault) = true ∧ (looks refusing).map (·.result) = [.miss] ∧
      ((looks refusing).all fun l => !l.parityFault) = true ∧ refusing.cfg.line.refuseUnmapped = true ∧
      State.reset.cfg.line.refuseUnmapped = false ∧
      ((looks (mapped .command 10 State.reset)).map (·.result) = [.hit 10] ∧ ownerOf (mapped .command 10 State.reset).cfg 10 = .nobody) := by
  decide +kernel

theorem witness_SupervisoryWriteAuthority_taken :
    (∀ w ∈ [pumpWrite 1, { pumpWrite 1 with dst := 0 }],
      let s := { work [] [w] [] .downstream with stc := { State.reset.stc with hold := if w.dst = 0 then .held else .running } }
      let u := { s with upp := { s.upp with downstream := [] }, flc := { s.flc with pairTurn := .scan } }
      s.signals = [] ∧ s.lau.judgeDue = false ∧ s.flc.line = .running ∧ s.flc.transaction = none ∧ s.flc.commandQueue = [] ∧
        s.flc.scanPending = [] ∧ s.upp.downstream = [w] ∧ w.kind = 2 ∧ (judgeWrite w u).flc.commandQueue = []) := by decide +kernel

/-- The REFUSE of the station of the command in flight, and the supervisory WRITE with its ECHO. -/
def commandRefused : Frame := { kind := 4, tag := 4, dst := 63, src := 5, channel := 3, payload := [2] }

def writing : Transaction :=
  { origin := .supervisory (pumpWrite 1), frame := pumpWrite 1, phase := .awaiting, window := 10, timer := .running 10 }

theorem witness_RepliesObserved_command :
    (let s := flying commanding (pumpIn .starting {} State.reset)
     let u := { s with flc := { s.flc with commandQueue := [{ point := 10, value := 0, attempt := 1 }] } }
     (commanding.accepts commandRefused = true ∧ Frame.decode commandRefused.encode = some commandRefused ∧
       commandRefused.kind = 4 ∧ commandRefused.src = commanding.frame.dst ∧ commandRefused.tag = commanding.frame.tag ∧
       commandRefused.dst = commanding.frame.src) ∧ Frame.decode [1, 2] = none ∧
       (∀ e ∈ s.flc.commandQueue, e.point ≠ 10) ∧ (∃ e ∈ u.flc.commandQueue, e.point = 10) ∧ ownerOf s.cfg 10 ≠ .nobody ∧
       (s.pcfg 10).kind = .command) ∧
    (let f : Frame := { kind := 3, tag := 6, dst := 62, src := 5, channel := 3, payload := [1] }
     writing.accepts f = true ∧ f.src = writing.frame.dst ∧ f.tag = writing.frame.tag ∧ f.dst = writing.frame.src) ∧
    (let x := readInFlight .awaiting 61
     let f : Frame := { kind := 1, tag := 9, dst := 62, src := 61, channel := 8, payload := [0, 1, 2, 3, 4, 5, 6, 7, 255] }
     x.accepts f = true ∧ f.src = x.frame.dst ∧ f.tag = x.frame.tag ∧ f.dst = x.frame.src) := by decide +kernel

theorem witness_TransactionExpiries_failed :
    (let x : Transaction := { commanding with origin := .command 10 1 2 }
     let s := flying x (pumpIn .starting {} State.reset)
     x.origin = .command 10 1 2 ∧ (∀ e ∈ s.flc.commandQueue, e.point ≠ 10) ∧ (2 ≠ 1 ∨ ownerOf s.cfg 10 = .nobody) ∧
       (s.pcfg 10).kind = .command) ∧
    (let s := flying commanding (setPoint 10 .command {} State.reset)
     ownerOf s.cfg 10 = .nobody ∧ (s.pcfg 10).kind = .command ∧ ∀ e ∈ s.flc.commandQueue, e.point ≠ 10) ∧
    (let s := { busy with flc := { busy.flc with transaction := some commanding } }
     ∃ e ∈ s.flc.commandQueue, e.point = 10) := by decide +kernel

/-- A level point whose queue holds 4 entries, and one whose queue is empty. -/
theorem witness_SamplesAndFreshness_queue :
    (let q : LevelQueue := { entries := List.replicate 4 { raw := 1, invalid := false, range := false } }
     let s := { eightLevels with pim := { eightLevels.pim with queues := Tab.put eightLevels.pim.queues 7 q } }
     (s.pcfg 7).kind = .level ∧ (s.pcfg 7).queue = some 7 ∧ (s.levelQueue 7).entries.length = 4 ∧ (s.levelQueue 0).entries = []) := by
  decide +kernel

/-- The greatest and the least operands of SUMP_SET and of GEOMETRY_SET, and a sump that stays CONFIGURED. -/
theorem witness_SumpAndGeometrySet_words :
    (parseSump [4, 255, 256, 65535, 65535, 16, 16, 2, 1]).isSome = true ∧ (parseSump [1, 0, 255, 0, 0, 1, 1, 0, 0]).isSome = true ∧
    parseSump [1, 257, 256, 0, 0, 1, 1, 0, 0] = none ∧ parseSump [5, 0, 256, 0, 0, 1, 1, 0, 0] = none ∧
    parseGeometry [4, 7, 0] = some (3, 7, none) ∧ parseGeometry [1, 0, 1, 20001, 0, 0] = none ∧ parseGeometry [1, 0, 1, 5] = none ∧
    parseGeometry [1, 8, 0] = none ∧
    (let s := { setPoint 24 .level {} State.reset with cfg :=
       { (setPoint 24 .level {} State.reset).cfg with sumps := Tab.put State.reset.cfg.sumps 3 sumpOne } }
     s.sau.cycle = none ∧ (s.sumpCfg 3).primary.isSome = true ∧ (s.pcfg 24).kind = .level) := by decide +kernel

/-! ### The STAGE at a completion -/

/-- A cycle in flight with sump 1 CONFIGURED and held at 20000 mm, by its thresholds and the stage record. -/
def atLevel (th : Thresholds) (f : Stc → Stc) : State :=
  let s := inCycle State.reset
  { s with
    cfg := { s.cfg with sumps := Tab.put s.cfg.sumps 0 sumpOne, thresholds := Tab.put s.cfg.thresholds 0 th }
    sau := { s.sau with sumps := Tab.put s.sau.sumps 0 { beforeCycle with filter := 320000, base := none } }
    stc := f { s.stc with derivePending := false, derive := .stopped } }

/-- The completion data of that cycle. -/
def levelData (s : State) : List SumpData :=
  (fourIds.filter fun k => (s.sumpCfg k).primary.isSome).map fun k =>
    let t := computeSump (s.sumpCfg k) (Tab.get s.cfg.geometry k) 500 0 false none none (s.sump k)
    { sump := k, source := t.source, levelQuality := t.levelQuality, cycleLevel := t.cycleLevel
      filtered := ((t.filter + 8) / 16).toNat, volume := t.volume, inflow := t.inflow, controlInflow := t.controlInflow
      inflowLimited := t.inflowLimited, inflowGood := t.inflowGood, rate := t.rate, blindCount := t.blindCount }

/-- The stage that the completion demands. -/
def demandAt (s : State) : Stage := (demandedOf s.cfg.thresholds (levelData s)).1

/-- A closure test holds, a WATCH test holds, no test holds: with any stage record. -/
theorem witness_CycleCompletes_demand :
    ∀ f ∈ [fun x : Stc => x, fun x => { x with stage := .alert }, fun x => { x with stage := .closing },
        fun x => { x with stage := .closed, reopenReady := true }, fun x => { x with stage := .reopening },
        fun x => { x with confirm := 1 }, fun x => { x with holdRequest := true }, fun x => { x with derivePending := true },
        fun x => { x with derivePending := true, allOpen := false, deriveExpired := true }],
      (atLevel { closure := 20000 } f).signals = [] ∧ (atLevel { closure := 20000 } f).lau.judgeDue = false ∧
      (atLevel { closure := 20000 } f).sau.cycle.isSome = true ∧ (atLevel { closure := 20000 } f).sau.deferred = [] ∧
      (atLevel { closure := 20000 } f).mgu.restart = .none ∧ (atLevel {} f).stc.hold = .running ∧
      demandAt (atLevel { closure := 20000 } f) = .closing ∧ demandAt (atLevel { watch := 20000 } f) = .watch ∧
      demandAt (atLevel {} f) = .clear := by decide +kernel

/-- The same in HELD and in STEPPING, with a step not yet broken and one already broken. -/
theorem witness_CycleCompletes_hold :
    let step := fun b : Bool =>
      ({ tag := 3, pscDone := true, gsqDone := true, ltuDone := true, broken := b, linkLost := false } : StepRecord)
    ∀ f ∈ [fun x : Stc => { x with hold := .held }, fun x => { x with hold := .stepping, step := some (step false) },
        fun x => { x with hold := .stepping, step := some (step true) },
        fun x => { x with hold := .stepping, step := some (step false), stage := .closed },
        fun x => { x with hold := .stepping, step := some (step false), allClosed := false }],
      (atLevel {} f).stc.hold ≠ .running ∧ demandAt (atLevel { closure := 20000 } f) = .closing ∧ demandAt (atLevel {} f) = .clear := by
  decide +kernel

/-- Operations that wait for the completion. -/
theorem witness_CycleCompletes_deferred :
    let s := { inCycle State.reset with sau := { (inCycle State.reset).sau with deferred := [.sumpSet 1 sumpWords4, .recordSump 2 [1, 1],
      .geometrySet 3 geometryWords4, .statusClear 4] } }
    s.sau.cycle.isSome = true ∧ s.mgu.restart = .none ∧ s.sau.deferred.length = 4 ∧
      ∃ u, exec .drainageCycleCompletion { s with sau := { s.sau with deferred := [] } } = .next u := ⟨rfl, rfl, rfl, _, rfl⟩

theorem witness_SumpComputation_source :
    (.primary = beforeCycle.source ∧ beforeCycle.base = some 123880 ∧ beforeCycle.primed = true ∧
      (cleanDrain 24 [9830]).fit = true) ∧
    (.backup ≠ beforeCycle.source ∧ ¬ (cleanDrain 24 []).fit = true ∧ (cleanDrain 25 [1010]).fit = true) := by decide +kernel

theorem witness_TablesStored_range :
    4 < (5 : Word).toNat ∧ [(10 : Word)].length < 2 ∧ (9 : Word).toNat < 10 ∧ 3600 < (3601 : Word).toNat ∧ (4 : Word) ≠ 0 ∧
      [(1 : Word), 2, 3, 4, 5].length < 6 ∧ 20000 < (20001 : Word).toNat ∧ 32767 < (32768 : Word).toNat := by decide

/-- A RELEASE with the barriers not all open, and with all of them reported open. -/
theorem witness_HoldRequestsAndRelease_reports :
    (let s := { barrierIn .closed {} State.reset with stc := { State.reset.stc with stage := .closed, reopenReady := true, allOpen := false } }
     s.Taking ∧ s.OverridesLawful ∧ s.ReportsCurrent ∧ s.gsq.reported = some (true, false) ∧ s.stc.allOpen = false) ∧
    (let s := { barrierIn .opened {} State.reset with stc := { State.reset.stc with stage := .closed, reopenReady := true, allOpen := true } }
     s.Taking ∧ s.OverridesLawful ∧ s.ReportsCurrent ∧ s.gsq.reported = some (false, true) ∧ s.stc.allOpen = true) := by
  refine ⟨⟨taking (by decide +kernel) rfl, ?_, reports_of rfl (by decide +kernel), rfl, rfl⟩,
    taking (by decide +kernel) rfl, ?_, reports_of rfl (by decide +kernel), rfl, rfl⟩ <;>
  (unfold State.OverridesLawful; decide +kernel)

/-- A report that ends CLOSING, one that ends REOPENING, and one that ends neither. -/
theorem witness_HoldRequestsAndRelease_summary :
    ((staged fun c => { c with stage := .closing, allClosed := false }).stc.stage = .closing ∧
      (staged fun c => { c with stage := .closing, allClosed := false }).stc.allClosed = false) ∧
    ((staged fun c => { c with stage := .reopening, allOpen := false }).stc.stage = .reopening ∧
      (staged fun c => { c with stage := .reopening, allOpen := false }).stc.allOpen = false) ∧
    State.reset.stc.stage ≠ .closing ∧ State.reset.stc.stage ≠ .reopening := by decide +kernel

/-! ### The judgements of the LAU and the grants -/

/-- A request of 50 with extra 20. -/
def request (d : Device) (cls : Nat) : Request := { device := d, cls := cls, runKw := 50, extra := 20, inrush := 5, arrival := 0 }

/-- Pump 1 in a state, the ALLOWANCE at a limit, a Start Queue, and the other fields of the LAU. -/
def supplied (m : PumpMode) (limit : Nat) (q : List Request) (f : Lau → Lau) : State :=
  let s := pumpIn m {} State.reset
  { s with cfg := { s.cfg with supply := { s.cfg.supply with mainsLimit := limit } }
           lau := f { s.lau with mode := .mains, queue := q } }

/-- The head fits exactly; it is blocked by one unit; it waits for clear-to-start without being blocked. -/
theorem witness_SupplySetAndExpiries_head :
    let q := [request (.pump 0) 1]
    ((supplied .queued 70 q id).allowance = 70 ∧ (supplied .queued 70 q id).lau.committed + 50 + 20 ≤ 70) ∧
    ((supplied .queued 69 q id).allowance = 69 ∧ ¬ (supplied .queued 69 q id).lau.committed + 50 + 20 ≤ 69 ∧
      (supplied .queued 69 q id).lau.shedDemand = false ∧ (supplied .queued 69 q id).lau.clearToStart = true) ∧
    (let s := supplied .queued 70 q fun l => { l with clearToStart := false }
     s.lau.clearToStart = false ∧ s.lau.shedDemand = false ∧ s.lau.committed ≤ s.allowance) := by decide +kernel

/-- A shed order is due; shed demand is over; shed demand stands and neither is due. -/
theorem witness_SupplySetAndExpiries_shed :
    (let s := supplied .running 49 [] fun l => { l with shedDemand := true, shedTaken := true }
     s.allowance < s.lau.committed ∧ s.lau.shedOrder = none ∧ s.lau.startOrder = [] ++ [0] ∧ s.stc.hold ≠ .held) ∧
    (let s := supplied .running 50 [] fun l => { l with shedDemand := true, shedTaken := true }
     s.lau.queue = [] ∧ s.lau.committed + s.lau.restoration.toList.sum ≤ s.allowance ∧ s.lau.shedOrder = none) ∧
    (let s := supplied .running 50 [request (.pump 1) 1] fun l => { l with shedDemand := true, shedTaken := true }
     ¬ s.allowance < s.lau.committed ∧ ∃ r ∈ s.lau.queue, r.cls ≤ 1) := by decide +kernel

/-- Devices that take a grant, and devices that do not. -/
theorem witness_SupplySetAndExpiries_grants :
    ((pumpIn .queued {} State.reset).pump 0).mode = .queued ∧ ((pumpIn .idle {} State.reset).pump 0).mode ≠ .queued ∧
    (∀ m ∈ [BarrierMode.queuedClose, .queuedOpen], ((barrierIn m {} State.reset).barrier 0).mode = m ∧
      (barrierIn m {} State.reset).barrierClear 0 = true ∧ ((barrierIn m {} State.reset).barrierCfg 0).drive = some 20 ∧
      ((barrierIn m {} State.reset).barrierCfg 0).head ≠ some 20 ∧ (barrierIn m {} State.reset).flc.line ≠ .quenched) ∧
    (let s := barrierIn .queuedClose {} State.reset
     let u := { s with cfg := { s.cfg with barriers := Tab.put s.cfg.barriers 0 { s.barrierCfg 0 with presence1 := some 21 } } }
     u.barrierClear 0 = false ∧ (u.barrier 0).mode = .queuedClose) ∧
    (∀ m ∈ [GateMode.queuedClose, .queuedOpen], (gateIn m {} State.reset).gsq.gate.mode = m) ∧
    State.reset.gsq.gate.mode = .disabled ∧
    (let s := { State.reset with ltu := { State.reset.ltu with zones := Tab.put State.reset.ltu.zones 5 { mode := .restoreQueued } } }
     (s.zone 5).mode = .restoreQueued ∧ (s.zone 0).mode ≠ .restoreQueued) := by decide +kernel

/-- The window of another start closes and the pump that waits for it is granted. -/
theorem witness_SupplySetAndExpiries_window :
    let w : InrushWindow := { device := .gate, extra := 30, timer := .running 5000 }
    let s := supplied .queued 70 [request (.pump 0) 1] fun l => { l with window := some w }
    (s.signals = [] ∧ s.lau.judgeDue = false) ∧ s.lau.window = some w ∧ w.timer = .running 5000 ∧
      s.lau.queue = [request (.pump 0) 1] ∧ (s.pump 0).mode = .queued ∧ (request (.pump 0) 1).runKw = (s.pumpCfg 0).ratedKw ∧
      Tab.get s.lau.pumpLoad 0 = 0 ∧ s.lau.shedDemand = false ∧ s.lau.clearToStart = true ∧ s.stc.hold ≠ .held ∧
      s.lau.committed - w.extra + 50 + 20 ≤ s.allowance := by decide +kernel

/-! ### The devices' operations and events -/

theorem witness_PumpSettings_words :
    (parsePump [8, 1, 4, 65535, 65535, 600, 30, 255, 254, 253, 60, 60, 600, 30]).isSome = true ∧
    (parsePump [1, 0, 1, 1, 0, 100, 1, 256, 256, 256, 2, 2, 0, 1]).isSome = true ∧
    parsePump [9, 0, 1, 1, 0, 100, 1, 256, 256, 256, 2, 2, 0, 1] = none ∧ parsePump [1, 0, 5, 1, 0, 100, 1, 256, 256, 256, 2, 2, 0, 1] = none ∧
    (parsePumping [4, 800, 1200, 1600, 20000, 400, 900, 1300, 19999, 8]).isSome = true ∧
    parsePumping [1, 800, 800, 0, 0, 400, 500, 0, 0, 1] = none ∧ parsePumping [5, 0, 0, 0, 0, 0, 0, 0, 0, 1] = none := by decide +kernel

/-- Pump 1 with data of its sump, a staging step, a run limit and a STAGE. -/
def duty (m : PumpMode) (x : PumpState) (stage : Stage) (limit : Nat) : State :=
  let s := pumpIn m x State.reset
  let d : SumpData :=
    { sump := 0, source := .primary, levelQuality := .good, cycleLevel := 0, filtered := 0, volume := 0, inflow := 121
      controlInflow := 121, inflowLimited := false, inflowGood := true, rate := 0, blindCount := 0 }
  { s with
    cfg := { s.cfg with pumping := Tab.put s.cfg.pumping 0 { s.pumpingCfg 0 with runLimit := limit } }
    psc := { s.psc with data := some [d], step := Tab.put s.psc.step 0 (some 1) }
    stc := { s.stc with stage := stage } }

theorem witness_PumpExpiries_demand :
    (let s := duty .idle {} .watch 2
     (dataFor s.psc.data 0).isSome = true ∧ (s.dutyList 0).find? (fun q => s.available q) = some 0 ∧ s.stc.stage = .watch ∧
       s.demand 0 = 1 ∧ s.eligible 0 = true ∧ s.RunLimitsKept ∧ (s.dutyList 0).Nodup) ∧
    (duty .idle {} .clear 2).stc.stage.code < Stage.watch.code ∧
    ((duty .resting { stopReason := .normal } .clear 2).eligible 0 = false ∧ (duty .resting { stopReason := .normal } .closing 2).eligible 0 = true) := by
  unfold State.RunLimitsKept; decide +kernel

/-- A post that is accepted, one that is turned away, and none; a pump to withdraw, a pump to stop, a STOP entry. -/
theorem witness_PumpExpiries_posts :
    (let s := duty .idle {} .watch 2
     s.countPumps 0 PumpMode.active < 1 ∧ s.countPumps 0 PumpMode.claims < (Tab.get s.cfg.pumping 0).runLimit ∧ s.eligible 0 = true ∧
       s.lau.queue = [] ∧ s.flc.line ≠ .quenched) ∧
    (let s := { duty .idle {} .watch 2 with flc := { State.reset.flc with line := .quenched } }
     s.eligible 0 = true ∧ s.flc.line = .quenched) ∧
    (duty .running {} .watch 2).eligible 0 = false ∧
    ((duty .queued {} .watch 2).selection 0 = [0] ∧ (duty .queued {} .watch 2).pumpEntry 0 1 = false ∧
      0 < (duty .queued {} .watch 2).countPumps 0 PumpMode.active) ∧
    ((duty .running {} .watch 2).pumpsOf 0 = [0] ∧ ((duty .running {} .watch 2).pump 0).mode = .running) ∧
    ∀ m ∈ [PumpMode.starting, .running, .queued],
      let s := { duty m {} .watch 2 with cau := { State.reset.cau with overrides := [{ point := 10, value := 0, expiry := 9, tag := 0 }] } }
      s.pumpEntry 0 0 = true ∧ (s.pump 0).mode = m := by decide +kernel

/-- Confirmations, outcomes and point events of a pump, with its run feedback at 0 or 1. -/
theorem witness_PumpExpiries_events :
    (∀ m ∈ [PumpMode.unknown, .starting, .idle, .queued, .resting, .faulted],
      let s := discrete 11 1 (pumpIn m {} State.reset)
      s.goodAt (s.pumpCfg 0).runFeedback 1 = true ∧ (s.pump 0).mode = m ∧ (s.pumpCfg 0).enable = true ∧
        (s.pumpCfg 0).runFeedback = some 11 ∧ s.stc.hold ≠ .held) ∧
    (∀ m ∈ [PumpMode.stopping, .running],
      let s := pumpIn m {} State.reset
      s.goodAt (s.pumpCfg 0).runFeedback 0 = true ∧ (s.pump 0).mode = m) ∧
    (let s := discrete 12 1 (pumpIn .running {} State.reset)
     let u := { s with cfg := { s.cfg with pumps := Tab.put s.cfg.pumps 0 { s.pumpCfg 0 with faultFeedback := some 12 } } }
     (u.pumpCfg 0).runFeedback ≠ some 12 ∧ (u.pumpCfg 0).faultFeedback = some 12 ∧ u.goodAt (u.pumpCfg 0).faultFeedback 1 = true ∧
       (u.pumpCfg 0).enable = true) ∧
    (State.reset.pumpCfg 0).enable = false ∧ (State.reset.pump 0).mode = .disabled ∧
    { State.reset with stc := { State.reset.stc with hold := .held } }.stc.hold = .held := by decide +kernel

/-- The settings of a barrier, the gate and a zone at their limits, and beyond. -/
theorem witness_DeviceSettings_words :
    (parseBarrier [4, 1, 20, 21, 22, 23, 24, 25, 65535, 120, 5, 120]).isSome = true ∧
    parseBarrier [5, 0, 256, 256, 256, 256, 256, 256, 0, 5, 5, 5] = none ∧ parseBarrier [1, 0, 256, 256, 256, 256, 256, 256, 0, 4, 5, 5] = none ∧
    (parseGate [0, 256, 256, 256, 256, 1, 0, 10, 0, 5]).isSome = true ∧ parseGate [0, 256, 256, 256, 256, 5, 0, 10, 0, 5] = none ∧
    (parseZone [1, 0, 256, 256, 256, 0, 0, 0, 0, 1, 1]).isSome = true ∧ parseZone [7, 0, 256, 256, 256, 0, 0, 0, 0, 1, 1] = none ∧
    parseZone [1, 0, 256, 256, 256, 4, 0, 0, 0, 1, 1] = none := by decide +kernel

/-- Barrier 1 with presence point 23 and signal head 24, in a STAGE, its limits at values. -/
def guarded (m : BarrierMode) (x : BarrierState) (stage : Stage) (opened closed presence : Word) : State :=
  let s := discrete 21 opened (discrete 22 closed (discrete 23 presence (barrierIn m x State.reset)))
  { s with
    cfg := { s.cfg with barriers := Tab.put s.cfg.barriers 0 { s.barrierCfg 0 with presence1 := some 23, head := some 24 } }
    stc := { s.stc with stage := stage } }

/-- Each state in which an evaluation acts, with its demand and its limits; and what an evaluation leaves alone. -/
theorem witness_MovementExpiries_evaluation :
    (let s := guarded .opened {} .closing 1 0 0
     s.closureDemand 0 = true ∧ (s.barrier 0).mode = .opened ∧ (s.barrierCfg 0).enable = true) ∧
    (∀ m ∈ [BarrierMode.warning, .clearing, .queuedClose], (guarded m {} .watch 1 0 0).closureDemand 0 = false) ∧
    ((guarded .clearing { postDeferred := true } .closed 1 0 0).closureDemand 0 = true ∧
      (guarded .clearing { postDeferred := true } .closed 1 0 0).lau.queue.length < 16) ∧
    ((guarded .closed {} .reopening 0 1 0).openingDemand 0 = true ∧ (guarded .closed {} .watch 0 1 0).openingDemand 0 = false) ∧
    ((guarded .queuedOpen {} .closing 0 1 0).limitSet (some 22) = true ∧ (guarded .queuedOpen {} .closing 0 0 0).barrierClear 0 = true ∧
      (guarded .queuedOpen {} .closing 0 0 1).barrierClear 0 = false ∧ (guarded .queuedOpen {} .watch 0 1 0).openingDemand 0 = false) ∧
    ((guarded .opening {} .closing 0 0 0).closureDemand 0 = true ∧ (guarded .opening {} .closing 0 0 0).barrierClear 0 = true) ∧
    (guarded .opened {} .alert 1 0 0).aspectWanted 0 = some .flashAmber ∧ (guarded .opened {} .watch 1 0 0).aspectWanted 0 = some .dark ∧
    (barrierIn .opened {} State.reset).aspectWanted 0 = none := by decide +kernel

/-- Point events of a barrier: both limits, a lost limit, a presence change, the ends of the movements and of a reversal. -/
theorem witness_MovementExpiries_events :
    (bothLimits 0 (guarded .closing {} .closing 1 1 0) = true ∧ limitLost 0 (guarded .opened {} .clear 0 0 0) = true ∧
      limitLost 0 (guarded .closed {} .clear 0 0 0) = true) ∧
    (∀ m ∈ [BarrierMode.clearing, .queuedClose, .closing],
      let s := guarded m {} .closing 1 0 1
      bothLimits 0 s = false ∧ limitLost 0 s = false ∧ (s.point 23).raw = 1 ∧ s.stc.hold ≠ .held ∧
        (s.barrierCfg 0).presence1 = some 23 ∧ (s.barrierCfg 0).openLimit ≠ some 23 ∧ (s.barrierCfg 0).closedLimit ≠ some 23) ∧
    ((guarded .clearing {} .closing 1 0 0).barrierClear 0 = true ∧ ((guarded .clearing {} .closing 1 0 0).barrier 0).clearTimer = .stopped) ∧
    (let s := guarded .closing {} .closing 0 1 0
     s.limitSet (s.barrierCfg 0).closedLimit = true ∧ bothLimits 0 s = false ∧ limitLost 0 s = false) ∧
    (∀ g ∈ [Stage.closing, .watch], let s := guarded .opening {} g 1 0 0
      s.limitSet (s.barrierCfg 0).openLimit = true ∧ bothLimits 0 s = false ∧ limitLost 0 s = false ∧ s.stc.hold = .running) ∧
    (∀ n ∈ [0, 1, 2], let s := guarded .reversing { reversals := n } .closing 1 0 0
      (s.barrier 0).reversals = n ∧ s.closureDemand 0 = true ∧ s.limitSet (s.barrierCfg 0).openLimit = true) := by decide +kernel

/-- The gate with its outfall point 33 at a level, completion data of its sump, and its limits at values. -/
def outfall (m : GateMode) (x : GateState) (level opened closed : Word) (entry : Option Word) : State :=
  let s := discrete 31 opened (discrete 32 closed (setPoint 33 .analog { quality := .good, raw := level } (gateIn m x State.reset)))
  let d : SumpData :=
    { sump := 0, source := .primary, levelQuality := .good, cycleLevel := 0, filtered := 1000, volume := 0, inflow := 0
      controlInflow := 0, inflowLimited := false, inflowGood := true, rate := 0, blindCount := 0 }
  { s with
    cfg := { s.cfg with gate := { s.cfg.gate with outfall := some 33 } }
    gsq := { s.gsq with data := some [d] }
    cau := { s.cau with overrides := (entry.map fun v => ({ point := 30, value := v, expiry := 9, tag := 0 } : Override)).toList } }

/-- The tests at their margins, by an entry and without data; each state in which an evaluation of the gate acts. -/
theorem witness_MovementExpiries_tests :
    ((outfall .opened {} 1100 1 0 none).closeTest = true ∧ (outfall .opened {} 1099 1 0 none).closeTest = false ∧
      (outfall .closed {} 900 0 1 none).openTest = true ∧ (outfall .closed {} 901 0 1 none).openTest = false) ∧
    ((outfall .opened {} 0 1 0 (some 2)).closeTest = true ∧ (outfall .queuedClose {} 0 0 1 (some 1)).openTest = true) ∧
    (gateIn .opened {} State.reset).closeTest = true ∧
    (∀ m ∈ [GateMode.opened, .queuedOpen, .opening], (outfall m {} 1100 0 0 none).closeTest = true ∧
      (outfall m {} 1100 0 0 none).cfg.gate.enable = true ∧ (outfall m {} 1100 0 0 none).lau.queue = []) ∧
    ((outfall .queuedOpen {} 1100 0 1 none).limitSet (some 32) = true ∧ (outfall .closed {} 900 0 1 none).gsq.gate.dwellTimer = .stopped) ∧
    ((outfall .closing {} 900 0 1 none).limitSet (some 32) = true ∧ (outfall .opening {} 900 1 0 none).limitSet (some 31) = true ∧
      (outfall .opened {} 900 0 0 none).limitUnset (some 31) = true ∧ (outfall .closed {} 900 0 0 none).limitUnset (some 32) = true ∧
      (outfall .closed {} 900 1 1 none).limitSet (some 31) = true ∧ (outfall .closed {} 900 1 1 none).limitSet (some 32) = true) := by
  decide +kernel

/-- Zone 1 with its current point 41 and its dim point confirmed: IN, OUT once, and OUT the third time. -/
theorem witness_LightingEvaluation_lamps :
    let zone := fun (raw : Word) (n : Nat) =>
      let c : ZoneCfg := { enable := true, dim := some 40, current := some 41, ratedCurrent := 100, tolerance := 25 }
      let s := setPoint 40 .command { command := .confirmed } (setPoint 41 .feedback { quality := .good, raw := raw } State.reset)
      { s with cfg := { s.cfg with zones := Tab.put s.cfg.zones 0 c }
               ltu := { s.ltu with zones := Tab.put s.ltu.zones 0 { mode := .normal, level := 100, faultCounter := n } } }
    (zone 75 0).lampJudged 0 = true ∧ (zone 75 0).lampOut 0 = false ∧ (zone 74 0).lampOut 0 = true ∧ ((zone 74 2).zone 0).faultCounter = 2 ∧
      State.reset.lampJudged 0 = false ∧ (zone 74 0).lau.shedDemand = false := by decide +kernel

theorem witness_DeviceReads_configured :
    (State.reset.sumpCfg 3).primary.isSome = false ∧ ((atLevel {} id).sumpCfg 0).primary.isSome = true := by decide +kernel

/-! ### Leaving HELD, CLEARING after FULL, a snapshot in a cycle -/

/-- HELD, with pumps 1 and 2 of 50 units each IDLE and running by their feedback, on an ALLOWANCE of 40. -/
def foundRunning : State :=
  let s := discrete 11 1 (discrete 12 1 (pumpIn .idle {} State.reset))
  let c : PumpCfg := { enable := true, ratedKw := 50, runPoint := some 13, runFeedback := some 12 }
  { s with
    cfg := { s.cfg with pumps := Tab.put s.cfg.pumps 1 c, pumping := Tab.put s.cfg.pumping 0 { runLimit := 2 }
                        supply := { s.cfg.supply with mainsLimit := 40 } }
    upp := { s.upp with link := .up, silence := .running 5000 }
    stc := { s.stc with hold := .held }
    psc := { s.psc with pumps := Tab.put s.psc.pumps 1 { mode := .idle }, hold := .held }
    lau := { s.lau with mode := .mains } }

/-- The load is judged as each pump is found, so the shed order names pump 1, which overloads alone (R99, R118, R124, R125, R145). -/
theorem test_leaving_held_judges_each_pump :
    let t := pscHoldLeave { foundRunning with stc := { foundRunning.stc with hold := .running } }
    (t.lau.shedDemand, t.lau.shedOrder, (t.pump 0).mode, (t.pump 1).mode) = (true, some 0, .stopping, .running) := by decide +kernel

/-- The head is judged at the change out of HELD: a request that fits is granted before the barrier is re-derived (R122, R152). -/
theorem test_leaving_held_grants_the_head :
    (let s := barrierIn .queuedClose {} State.reset
     let r : Request := { device := .barrier 0, cls := 0, runKw := 9, extra := 0, inrush := 2, arrival := 0 }
     let t := rederiveAll { s with lau := { s.lau with queue := [r], clearToStart := true, mode := .mains }
                                   cfg := { s.cfg with supply := { s.cfg.supply with mainsLimit := 40 } } }
     ((t.barrier 0).mode, t.lau.queue)) = (.closing, []) := by decide +kernel

/-- After FULL a barrier in CLEARING posts again only while it is CLEAR (R151). -/
theorem test_clearing_posts_while_clear :
    ((barrierAct 0 (guarded .clearing { postDeferred := true } .closed 1 0 1)).barrier 0).mode = .clearing ∧
    ((barrierAct 0 (guarded .clearing { postDeferred := true } .closed 1 0 0)).barrier 0).mode = .queuedClose := by decide +kernel

/-- A cycle in flight whose drains have set OVERRUN shows it in the record and not in a snapshot (R67, R181). -/
theorem test_snapshot_in_a_cycle :
    (let s := atLevel {} id
     let u := s.modSump 0 fun x => { x with overrun := true }
     ((u.sumpFlags 0).getLsbD 2, ((snapshotNow u)[4]?.bind fun part => part[3]?).map fun w => w.getLsbD 2)) = (true, some false) := by
  decide +kernel

/-! ### Witnesses of the statements on quench, resets, re-derivations and operand ranges -/

/-- The line QUENCH_PENDING with a transaction, a waiting QUENCH and a field-bound frame queued. -/
def pendingQuench (x : Transaction) : State :=
  let s := flying x State.reset
  { s with flc := { s.flc with line := .quenchPending, quenchWaiting := [3] }, upp := { s.upp with downstream := [lastRead] } }

theorem witness_QuenchAndUnquench_end :
    (∀ p ∈ [Phase.awaiting, .guard], let s := pendingQuench (readInFlight p 61)
      s.Taking ∧ s.flc.line = .quenchPending ∧ s.flc.transaction = some (readInFlight p 61) ∧
        (readInFlight p 61).timer = .running 10 ∧ (readInFlight p 61).phase = p ∧
        (s.upp.upstream.filter fun e => !e.frame.isNotice).length + 1 + s.upp.downstream.length + s.flc.quenchWaiting.length ≤ 16) ∧
    (let ok : Frame := { kind := 4, tag := 9, dst := 62, src := 61, channel := 8, payload := [2] }
     Frame.decode ok.encode = some ok ∧ (readInFlight .awaiting 61).isReply ok = true ∧ (readInFlight .awaiting 61).accepts ok = true ∧
       Frame.decode [1, 2] = none) := by
  refine ⟨?_, by decide +kernel⟩
  simp only [List.mem_cons, List.not_mem_nil, or_false, forall_eq_or_imp, forall_eq]
  exact ⟨⟨taking (by decide +kernel) rfl, rfl, rfl, rfl, rfl, by decide +kernel⟩,
    taking (by decide +kernel) rfl, rfl, rfl, rfl, rfl, by decide +kernel⟩

/-- A barrier OPEN with its head fault flag set, with and without an aspect, on a free and on a QUENCHED line. -/
theorem witness_DeviceResets_head :
    (let s := guarded .opened { headFault := true } .watch 1 0 0
     s.Taking ∧ (s.barrier 0).headFault = true ∧ s.aspectWanted 0 = some .dark ∧ s.flc.line ≠ .quenched ∧
       { s with flc := { s.flc with line := .quenched } }.aspectWanted 0 = some .dark) ∧
    (let s := barrierIn .opened { headFault := true } State.reset
     s.Taking ∧ (s.barrier 0).headFault = true ∧ s.aspectWanted 0 = none) :=
  ⟨⟨taking (by decide +kernel) rfl, by decide +kernel⟩, taking (by decide +kernel) rfl, by decide +kernel⟩

/-- Each case of the re-derivation of a pump: found running within and beyond the run limit, found stopped, with a fault cause. -/
theorem witness_DeviceResets_pump :
    (let s := discrete 11 1 (pumpIn .unknown {} State.reset)
     (s.pump 0).mode = .unknown ∧ s.goodAt (s.pumpCfg 0).runFeedback 1 = true ∧ (s.pump 0).fault = 0 ∧
       s.goodAt (s.pumpCfg 0).faultFeedback 1 = false ∧ s.countPumps 0 PumpMode.claims < (s.pumpingCfg 0).runLimit) ∧
    (let s := discrete 11 1 (pumpIn .resting {} State.reset)
     let full := { s with cfg := { s.cfg with pumping := Tab.put s.cfg.pumping 0 { runLimit := 0 } } }
     (full.pump 0).mode = .resting ∧ (full.pumpingCfg 0).runLimit ≤ full.countPumps 0 PumpMode.claims) ∧
    ((pumpIn .unknown {} State.reset).goodAt (some 11) 0 = true ∧ ((pumpIn .unknown { fault := 2 } State.reset).pump 0).fault ≠ 0) ∧
    (((pumpIn .running {} State.reset).pump 0).mode = .running ∧ (discrete 11 1 (pumpIn .faulted {} State.reset)).goodAt (some 11) 1 = true) := by
  decide +kernel

/-- Each row of Table 9-6 for a barrier and for the gate, a fault cause, and a limit that is not GOOD. -/
theorem witness_DeviceResets_limits :
    (∀ w ∈ [((1 : Word), (1 : Word)), (1, 0), (0, 1), (0, 0)],
      let s := guarded .unknown {} .watch w.1 w.2 0
      s.limitsGood 0 = true ∧ (s.barrier 0).fault = 0 ∧ s.limitSet (some 21) = (w.1 == 1) ∧ s.limitSet (some 22) = (w.2 == 1) ∧
        s.closureDemand 0 = false ∧ s.stc.hold = .running ∧ (s.barrier 0).mode = .unknown) ∧
    (∀ w ∈ [((1 : Word), (1 : Word)), (1, 0), (0, 1), (0, 0)],
      let g := outfall .unknown {} 900 w.1 w.2 none
      g.gateLimitsGood = true ∧ g.gsq.gate.fault = 0 ∧ g.limitSet (some 31) = (w.1 == 1) ∧ g.limitSet (some 32) = (w.2 == 1) ∧
        g.closeTest = false ∧ g.gsq.gate.mode = .unknown) ∧
    ((guarded .unknown {} .closing 0 0 0).closureDemand 0 = true ∧ (outfall .unknown {} 1100 0 0 none).closeTest = true) ∧
    (((guarded .unknown { fault := 2 } .watch 0 0 0).barrier 0).fault = 2 ∧ (outfall .unknown { fault := 1 } 900 0 0 none).gsq.gate.fault = 1) ∧
    ((guarded .warning {} .closing 1 0 0).limitsGood 0 = true ∧ (setPoint 21 .discrete {} (guarded .warning {} .closing 1 0 0)).limitsGood 0 = false ∧
      ((guarded .closing {} .closing 0 0 0).barrier 0).mode = .closing) ∧
    ((outfall .closed {} 900 0 1 none).gateLimitsGood = true ∧ (setPoint 31 .discrete {} (outfall .closed {} 900 0 1 none)).gateLimitsGood = false) := by
  refine ⟨?_, ?_, by decide +kernel, by decide +kernel, by decide +kernel, by decide +kernel⟩ <;>
  simp only [List.mem_cons, List.not_mem_nil, or_false, forall_eq_or_imp, forall_eq] <;>
  refine ⟨?_, ?_, ?_, ?_⟩ <;> decide +kernel

/-- Operand words at the ends of their ranges that are accepted, and the next that are not. -/
theorem witness_OperationsTurnedAway_ranges :
    ((parsePoint [255, 1, 255, 5, 5, 1] State.reset.pcfg).isSome = true ∧ parsePoint [255, 1, 255, 6, 5, 1] State.reset.pcfg = none ∧
      parsePoint [255, 1, 255, 5, 5, 2] State.reset.pcfg = none) ∧
    ((parseScan [32, 61, 15, 1, 255, 1]).isSome = true ∧ parseScan [32, 61, 15, 2, 255, 1] = none ∧ parseScan [33, 61, 0, 1, 255, 1] = none) ∧
    ((parseCurve [3, 7, 0]).isSome = true ∧ parseCurve [3, 7, 1] = none ∧ (parseCurve [3, 7, 1, 65535, 100]).isSome = true) ∧
    ((parsePlans [3, 3, 3, 3, 3, 3, 3]).isSome = true ∧ parsePlans [3, 3, 3, 3, 3, 3, 4] = none) ∧
    ((parseSupply [256, 256, 256, 0, 0, 100, 256, 60]).isSome = true ∧ parseSupply [255, 256, 255, 0, 0, 100, 256, 60] = none) ∧
    ((parseLine [50, 60, 2000, 1]).isSome = true ∧ parseLine [50, 60, 1999, 1] = none) ∧
    ((parseMapWrite [2, 127, 1, 15, 3, 61, 15, 255]).isSome = true ∧ parseMapWrite [2, 127, 2, 15, 3, 61, 15, 255] = none ∧
      parseMapWrite [1, 0, 0, 0, 0, 1, 0, 0] = none ∧ (parseMapWrite [0, 15, 0, 0, 9, 0, 99, 999]).isSome = true) := by decide +kernel

/-- Zone 1 in a state, with a level, a target, its dimmer fault flag and its retry counter. -/
def zoneIn (m : ZoneMode) (level target : Nat) (failed : Bool) (retry : Nat) : State :=
  let s := setPoint 40 .command {} State.reset
  let c : ZoneCfg := { enable := true, dim := some 40, ratedKw := 50, safety := 20, ramp := 10 }
  { s with
    cfg := { s.cfg with zones := Tab.put s.cfg.zones 0 c }
    ltu := { s.ltu with zones := Tab.put s.ltu.zones 0 { mode := m, level := level, target := target, dimmerFault := failed, retry := retry } } }

/-- Each case of the acting part of an evaluation; the increment of 80 % of 50 is 40, and 0 with the target at the safety level. -/
theorem witness_LightingEvaluation_acts :
    ((zoneIn .normal 50 50 true 9).zone 0).level = ((zoneIn .normal 50 50 true 9).zone 0).target ∧
    (zoneRamp 0 (zoneIn .normal 50 100 false 0)).zone 0 ≠ (zoneIn .normal 50 100 false 0).zone 0 ∧
    ((zoneIn .shed 20 100 true 8).increment 0 = 40 ∧ (zoneIn .shed 20 20 false 0).increment 0 = 0 ∧
      (zoneIn .shed 20 100 true 8).lau.shedDemand = false ∧ (zoneIn .shed 20 100 true 8).flc.line ≠ .quenched ∧
      (zoneIn .shed 20 100 true 8).lau.queue.length < 16) ∧
    (let s := zoneIn .restoreQueued 20 100 false 0
     let r : Request := { device := .zone 0, cls := 3, runKw := 30, extra := 0, inrush := 0, arrival := 0 }
     let u := { s with lau := { s.lau with queue := [r] } }
     u.lau.entry (.zone 0) = some r ∧ r.runKw ≠ u.increment 0) ∧
    ((zoneIn .normal 50 50 false 0).loadOf 0 = 25 ∧ (zoneIn .unknown 0 0 false 0).loadOf 0 = 50) := by decide +kernel

/-! ### A QUENCHED line, a withdrawal before a repost, a CLOSED barrier, a RESTART -/

/-- A state with the line QUENCHED. -/
def quenched (s : State) : State := { s with flc := { s.flc with line := .quenched } }

/-- On a QUENCHED line an evaluation posts no pump and starts no warning; with the line RUNNING it does (R111, R133, R150). -/
theorem test_quenched_line_takes_no_decision :
    ((evaluateSump 0 (quenched (duty .idle {} .watch 2))).lau.queue, (evaluateSump 0 (duty .idle {} .watch 2)).lau.queue.length) =
      ([], 1) ∧
    (((barrierEval 0 (quenched (guarded .opened {} .closing 1 0 0))).barrier 0).mode,
      ((barrierEval 0 (guarded .opened {} .closing 1 0 0)).barrier 0).mode) = (.opened, .warning) := by decide +kernel

/-- The gate waits at the head for 90 units of an ALLOWANCE of 70, pump 1 behind it for 70: a GATE_SET withdraws the gate and the
pump is granted before the gate posts again (R121, R122, R159). -/
theorem test_gate_set_judges_the_withdrawal :
    (let s := pumpIn .queued {} (outfall .queuedClose {} 1100 1 0 none)
     let u := { s with
       cfg := { s.cfg with supply := { s.cfg.supply with mainsLimit := 70 } }
       lau := { s.lau with mode := .mains, queue := [{ request .gate 0 with runKw := 70 }, request (.pump 0) 1] } }
     let t := (gateSetOp [1, 30, 31, 32, 33, 1, 100, 300, 70, 90] u).2
     ((t.pump 0).mode, t.gsq.gate.mode, t.lau.queue.map (·.device))) = (.starting, .queuedClose, [.gate]) := by decide +kernel

/-- A CLOSED barrier whose OPENING DEMAND has ended waits for no post (R120, R150). -/
theorem test_closed_barrier_waits_for_no_post :
    ((barrierAct 0 (guarded .closed { postDeferred := true } .closed 0 1 0)).barrier 0).postDeferred = false := by decide +kernel

/-- A pump running for 90 s at a RESTART keeps that time, its start count and its hour window (R147). -/
theorem test_restart_keeps_run_time : after .restartPerform
    (let s := pumpIn .running { runMs := 500, runningSince := some 0, startCount := 3, hourWindow := .running 3600000 } State.reset
     { s with now := 90000, mgu := { s.mgu with restart := .ready } })
    (fun t => (t.pump 0).runMs == 90500 && (t.pump 0).startCount == 3 && (t.pump 0).hourWindow == .running 3600000 &&
      (t.pump 0).mode == .unknown) = true := by decide +kernel

/-! ### Witnesses of the widened statements -/

/-- Outcomes that fault, that stand idle, and that agree; a scan and a command ended by a REFUSE or by words that are no frame. -/
theorem witness_RepliesObserved_outcomes :
    (((barrierIn .closing {} State.reset).barrier 0).mode = .closing ∧ (State.reset.barrier 0).mode = .disabled ∧
      (gateIn .opening {} State.reset).gsq.gate.mode = .opening ∧ (2 : Word) ≠ 1 ∧ ¬ (false = true ∨ (2 : Word) ≠ 2)) ∧
    ((7 : Word) ≠ BitVec.ofNat 16 ((zoneIn .normal 50 50 false 0).zone 0).level ∧
      ((zoneIn .normal 50 50 true 0).zone 0).dimmerFault = true) ∧
    (let s := scanRead .awaiting (.running 10) State.reset
     let x : Transaction :=
       { origin := .scan 0, frame := { kind := 0, tag := 4, dst := 5, src := 63, channel := 3, payload := [1] }
         phase := .awaiting, window := 10, timer := .running 10 }
     s.flc.transaction = some x ∧ x.accepts commandRefused = true ∧ commandRefused.kind ≠ 1 ∧ Frame.decode [1, 2] = none) ∧
    (let s := pumpIn .starting {} State.reset
     (s.pcfg 10).kind = .command ∧ (s.pcfg 11).kind ≠ .command ∧ ∀ e ∈ s.flc.commandQueue, e.point ≠ 10) := by decide +kernel

/-- Completion data held by the STC with sump 1 at a level, by thresholds and the stage record. -/
def holding (level : Nat) (th : Thresholds) (f : Stc → Stc) : State :=
  let x : SumpData :=
    { sump := 0, source := .primary, levelQuality := .good, cycleLevel := level, filtered := level, volume := 0, inflow := 0
      controlInflow := 0, inflowLimited := false, inflowGood := true, rate := 0, blindCount := 0 }
  { State.reset with
    cfg := { State.reset.cfg with thresholds := Tab.put State.reset.cfg.thresholds 0 th }
    stc := f { State.reset.stc with data := some [x], derivePending := false, derive := .stopped } }

/-- Each case of an evaluation and of a completion; a step broken and not, at its end low and high, with the link lost. -/
theorem witness_AdvanceAndStepEnd_cases :
    (∀ f ∈ [fun x : Stc => x, fun x => { x with confirm := 1 }, fun x => { x with stage := .closing }, fun x => { x with stage := .closed },
        fun x => { x with stage := .reopening }, fun x => { x with hold := .held }, fun x => { x with holdRequest := true }],
      (holding 900 { closure := 900 } f).closureSump.isSome = true ∧ (holding 900 { closure := 900 } f).demandedStage.1 = .closing ∧
        (holding 900 { closure := 901 } f).closureSump = none ∧ (holding 900 { watch := 900 } f).demandedStage.1 = .watch ∧
        (holding 900 { watch := 901 } f).demandedStage.1 = .clear) ∧
    (∀ b l : Bool, ∀ g ∈ [Stage.watch, .closed],
      let s := holding 900 {} fun x => { x with
        stage := g, hold := .stepping
        step := some { tag := 3, pscDone := true, gsqDone := true, ltuDone := true, broken := b, linkLost := l } }
      s.AtRest ∧ (Stage.closing.code ≤ s.stc.stage.code ↔ g = .closed)) := by
  refine ⟨by decide +kernel, fun b l g hg => ⟨rest ⟨rfl, rfl⟩, ?_⟩⟩
  show Stage.closing.code ≤ g.code ↔ g = .closed
  simp only [List.mem_cons, List.not_mem_nil, or_false] at hg; rcases hg with rfl | rfl <;> decide

/-- A table with an override; the panel key turned to LOCAL, and as it stands. -/
theorem witness_StageTimers_overrides :
    ({ State.reset with cau := { State.reset.cau with overrides := [{ point := 10, value := 0, expiry := 9, tag := 0 }] } }.cau.overrides ≠ []) ∧
    State.reset.cau.overrides = [] ∧
    (let s := discrete 50 1 State.reset
     let u := { s with cfg := { s.cfg with supply := { s.cfg.supply with panelKey := some 50 } } }
     s.cau.keyLocal = false ∧ u.cau.keyLocal = false ∧ (u.point 50).raw = 1) := by decide +kernel

/-- Settings taken in a fault state, of a zone in HELD and on a QUENCHED line, with room upstream. -/
theorem witness_DeviceSettings_taken :
    (∀ m ∈ [BarrierMode.opened, .faultTravel], let s := discrete 23 0 (barrierIn m {} State.reset)
      ((s.barrier 0).mode = m ∧ m.moves = false) ∧ ownerOf s.cfg 20 = .barrier 0 ∧ (s.pcfg 20).kind = .command ∧
        (∀ p ∈ [(21 : PointId), 22, 23], (s.pcfg p).kind = .discrete) ∧
        (s.upp.upstream.filter fun e => !e.frame.isNotice).length < 16) ∧
    (∀ m ∈ [GateMode.closed, .fault], let s := outfall m {} 900 0 1 none
      (s.gsq.gate.mode = m ∧ m.moves = false) ∧ ownerOf s.cfg 30 = .gate ∧ (s.pcfg 33).kind = .analog) ∧
    ((quenched kinds).flc.line = .quenched ∧ kinds.flc.line ≠ .quenched ∧ kinds.stc.hold ≠ .held ∧
      { kinds with stc := { kinds.stc with hold := .held } }.stc.hold = .held) := by decide +kernel

end Sys2Proof.Tests
end

section
/-! SUPPORT. What the work of the blocks can do to the state, said once: a condition of each device that the work respects, the
elementary effects, and the relation that they generate. -/

set_option Elab.async false

namespace Sys2Proof.Machine

/-! ## The condition of a device -/

/-- What the record of a device says of its condition: DISABLED, UNKNOWN, in a fault state with its cause, or at work. -/
inductive Condition where
  | disabled
  | unknown
  | fault (mode cause : Nat)
  | working

/-- The condition of a device with the fault flag of its record: that of a signal head or of a dimmer. -/
structure Status where
  condition : Condition
  flagged : Bool

def PumpMode.condition (cause : Nat) : PumpMode → Condition
  | .disabled => .disabled
  | .unknown => .unknown
  | .faulted => .fault PumpMode.faulted.code cause
  | _ => .working

def BarrierMode.condition (cause : Nat) : BarrierMode → Condition
  | .disabled => .disabled
  | .unknown => .unknown
  | .faultTravel => .fault BarrierMode.faultTravel.code cause
  | .faultObstructed => .fault BarrierMode.faultObstructed.code cause
  | .faultLimits => .fault BarrierMode.faultLimits.code cause
  | _ => .working

def GateMode.condition (cause : Nat) : GateMode → Condition
  | .disabled => .disabled
  | .unknown => .unknown
  | .fault => .fault GateMode.fault.code cause
  | _ => .working

def ZoneMode.condition : ZoneMode → Condition
  | .disabled => .disabled
  | .unknown => .unknown
  | _ => .working

def PumpState.status (t : PumpState) : Status := { condition := t.mode.condition t.fault, flagged := false }
def BarrierState.status (t : BarrierState) : Status := { condition := t.mode.condition t.fault, flagged := t.headFault }
def GateState.status (t : GateState) : Status := { condition := t.mode.condition t.fault, flagged := false }
def ZoneState.status (t : ZoneState) : Status := { condition := t.mode.condition, flagged := t.dimmerFault }

def State.status (s : State) : Device → Status
  | .pump p => (s.pump p).status
  | .barrier b => (s.barrier b).status
  | .gate => s.gsq.gate.status
  | .zone z => (s.zone z).status

theorem PumpMode.condition_eq_disabled {m : PumpMode} {c : Nat} : m.condition c = .disabled ↔ m = .disabled := by
  cases m <;> simp [PumpMode.condition]
theorem PumpMode.condition_eq_unknown {m : PumpMode} {c : Nat} : m.condition c = .unknown ↔ m = .unknown := by
  cases m <;> simp [PumpMode.condition]
theorem BarrierMode.condition_eq_disabled {m : BarrierMode} {c : Nat} : m.condition c = .disabled ↔ m = .disabled := by
  cases m <;> simp [BarrierMode.condition]
theorem BarrierMode.condition_eq_unknown {m : BarrierMode} {c : Nat} : m.condition c = .unknown ↔ m = .unknown := by
  cases m <;> simp [BarrierMode.condition]
theorem GateMode.condition_eq_disabled {m : GateMode} {c : Nat} : m.condition c = .disabled ↔ m = .disabled := by
  cases m <;> simp [GateMode.condition]
theorem GateMode.condition_eq_unknown {m : GateMode} {c : Nat} : m.condition c = .unknown ↔ m = .unknown := by
  cases m <;> simp [GateMode.condition]
theorem ZoneMode.condition_eq_disabled {m : ZoneMode} : m.condition = .disabled ↔ m = .disabled := by
  cases m <;> simp [ZoneMode.condition]
theorem ZoneMode.condition_eq_unknown {m : ZoneMode} : m.condition = .unknown ↔ m = .unknown := by
  cases m <;> simp [ZoneMode.condition]

/-! ## How far the work goes -/

/-- How far the work of the blocks goes: the delivery of events between the blocks (log entry 19); that with what the owner of a
point does with a command CONFIRMED; that with commands FAILED; that with any observation of the field; that with records set anew;
and that with the operations of the MGU. -/
inductive Scope where
  | delivery | confirmation | failure | observation | setting | operation

/-- The scope takes in the observation of the field. -/
def Scope.observes : Scope → Bool
  | .delivery | .confirmation | .failure => false
  | .observation | .setting | .operation => true

/-- The scope takes in commands CONFIRMED, at which a fault flag is cleared. -/
def Scope.clears : Scope → Bool
  | .delivery | .failure => false
  | .confirmation | .observation | .setting | .operation => true

/-- The scope takes in commands FAILED. -/
def Scope.fails : Scope → Bool
  | .delivery | .confirmation => false
  | .failure | .observation | .setting | .operation => true

/-- The scope takes in records set anew. -/
def Scope.sets : Scope → Bool
  | .delivery | .confirmation | .failure | .observation => false
  | .setting | .operation => true

theorem Scope.ne_delivery_of_observes {k : Scope} (h : k.observes = true) : k ≠ .delivery := by
  rintro rfl
  cases h

theorem Scope.observes_of_sets {k : Scope} (h : k.sets = true) : k.observes = true := by
  cases k with
  | delivery | confirmation | failure | observation => cases h
  | setting | operation => rfl

theorem Scope.clears_of_observes {k : Scope} (h : k.observes = true) : k.clears = true := by
  cases k with
  | delivery | confirmation | failure => cases h
  | observation | setting | operation => rfl

theorem Scope.fails_of_observes {k : Scope} (h : k.observes = true) : k.fails = true := by
  cases k with
  | delivery | confirmation | failure => cases h
  | observation | setting | operation => rfl

theorem Scope.ne_delivery_of_fails {k : Scope} (h : k.fails = true) : k ≠ .delivery := by
  rintro rfl
  cases h

/-- What work that sets no record anew keeps of a status: DISABLED as it is, a fault state with its cause, UNKNOWN at a mere
delivery, and a fault flag unless a command may be CONFIRMED. -/
structure Status.Keeps (k : Scope) (a b : Status) : Prop where
  disabled : b.condition = .disabled ↔ a.condition = .disabled
  fault : ∀ m c, a.condition = .fault m c → b.condition = .fault m c
  unknown : k = .delivery → a.condition = .unknown → b.condition = .unknown
  flagged : k.clears = false → a.flagged = true → b.flagged = true

/-- Work that may set a record anew keeps nothing of its status; all other work keeps what Status.Keeps says. -/
def Scope.Kept (k : Scope) (a b : Status) : Prop := k.sets = false → a.Keeps k b

theorem Scope.Kept.refl (k : Scope) (a : Status) : k.Kept a a := fun _ => ⟨Iff.rfl, fun _ _ h => h, fun _ h => h, fun _ h => h⟩

theorem Scope.Kept.trans {k : Scope} {a b c : Status} (h : k.Kept a b) (g : k.Kept b c) : k.Kept a c := fun hk =>
  ⟨(g hk).disabled.trans (h hk).disabled, fun m x hx => (g hk).fault m x ((h hk).fault m x hx),
    fun hd hx => (g hk).unknown hd ((h hk).unknown hd hx), fun ho hx => (g hk).flagged ho ((h hk).flagged ho hx)⟩

theorem Scope.Kept.of_eq {k : Scope} {a b : Status} (h : b = a) : k.Kept a b := h ▸ .refl k a

/-- A device at work may go to any condition but DISABLED. -/
theorem Scope.Kept.of_working {k : Scope} {a b : Status} (ha : a.condition = .working) (hb : b.condition ≠ .disabled)
    (hf : b.flagged = a.flagged) : k.Kept a b := fun _ =>
  ⟨by simp [ha, hb], by simp [ha], by simp [ha], fun _ h => hf.trans h⟩

/-- An UNKNOWN device may leave UNKNOWN for any condition but DISABLED when the field is observed or a command fails. -/
theorem Scope.Kept.of_unknown {k : Scope} {a b : Status} (hk : k ≠ .delivery) (ha : a.condition = .unknown)
    (hb : b.condition ≠ .disabled) (hf : b.flagged = a.flagged) : k.Kept a b := fun _ =>
  ⟨by simp [ha, hb], by simp [ha], fun h => absurd h hk, fun _ h => hf.trans h⟩

theorem Scope.Kept.of_sets {k : Scope} (hk : k.sets = true) (a b : Status) : k.Kept a b := fun h => by simp [hk] at h

/-! ## Elementary effects -/

/-- One elementary effect of the work of a scope. A delivery raises notices and requests commands, sets the records of the blocks
and leaves an empty Start Queue empty on a QUENCHED line (R111, R120); the fields of the points, the configuration, the clock and
the frames offered upstream belong to the wider scopes. -/
inductive Effect (k : Scope) : State → State → Prop where
  | notice (s : State) (code : Nat) (data : List Word) (h : code < 0x8000) : Effect k s (raiseNotice code data s)
  | request (s : State) (p : PointId) (v : Word) : Effect k s (requestCommand p v s)
  | signals (s : State) (l : List Signal) : Effect k s { s with signals := l }
  | stc (s : State) (f : Stc → Stc) : Effect k s (s.modStc f)
  | cau (s : State) (f : Cau → Cau) : Effect k s (s.modCau f)
  | sau (s : State) (f : Sau → Sau) : Effect k s (s.modSau f)
  | pmu (s : State) (f : Pmu → Pmu) : Effect k s (s.modPmu f)
  | lau (s : State) (f : Lau → Lau) (h : s.flc.line = .quenched → s.lau.queue = [] → (f s.lau).queue = []) :
      Effect k s (s.modLau f)
  | psc (s : State) (f : Psc → Psc) (h : ∀ p, k.Kept (s.status (.pump p)) ((s.modPsc f).status (.pump p))) :
      Effect k s (s.modPsc f)
  | gsq (s : State) (f : Gsq → Gsq) (hb : ∀ b, k.Kept (s.status (.barrier b)) ((s.modGsq f).status (.barrier b)))
      (hg : k.Kept (s.status .gate) ((s.modGsq f).status .gate)) : Effect k s (s.modGsq f)
  | ltu (s : State) (f : Ltu → Ltu) (h : ∀ z, k.Kept (s.status (.zone z)) ((s.modLtu f).status (.zone z))) :
      Effect k s (s.modLtu f)
  | failed (s : State) (p : PointId) (h : k.fails = true) : Effect k s (setCommandState p .failed s)
  | pim (s : State) (f : Pim → Pim) (h : k.observes = true)
      (hq : ∀ q, (Tab.get s.pim.queues q).entries.length ≤ 4 → (Tab.get (f s.pim).queues q).entries.length ≤ 4) :
      Effect k s (s.modPim f)
  | offer (s : State) (e : UpEntry) (h : k = .operation) : Effect k s (offerUp e s)
  | cfg (s : State) (f : Tables → Tables) (h : k = .operation) : Effect k s (s.modCfg f)
  | mgu (s : State) (f : Mgu → Mgu) (h : k = .operation) : Effect k s (s.modMgu f)
  | clock (s : State) (now free : Nat) (h : k = .operation) : Effect k s { s with now := now, free := free }
  | purge (s : State) (p : PointId) (h : k = .operation) :
      Effect k s (s.modFlc fun f => { f with commandQueue := f.commandQueue.filter fun e => !(e.point == p) })

/-- What the work of a scope can make of a state. -/
def Effects (k : Scope) : State → State → Prop := Relation.ReflTransGen (Effect k)

variable {k : Scope} {s t u : State}

theorem Effect.effects (h : Effect k s t) : Effects k s t := .single h

theorem Effects.refl (k : Scope) (s : State) : Effects k s s := Relation.ReflTransGen.refl

theorem Effects.trans (h : Effects k s t) (g : Effects k t u) : Effects k s u := Relation.ReflTransGen.trans h g

/-- The last thing done first: a proof of the effects of a composed operation follows the operation from the outside inwards. -/
theorem Effects.after (g : Effects k t u) (h : Effects k s t) : Effects k s u := h.trans g

theorem Effects.ite {c : Prop} [Decidable c] (h : Effects k s t) (g : Effects k s u) : Effects k s (if c then t else u) := by
  split
  · exact h
  · exact g

/-- What every elementary effect keeps, the work keeps. -/
theorem Effects.keeps {P : State → Prop} (hP : ∀ {s t}, Effect k s t → P s → P t) (h : Effects k s t) (hs : P s) : P t := by
  induction h with
  | refl => exact hs
  | tail _ g ih => exact hP g ih

/-- A field that no elementary effect changes stays as it is. -/
theorem Effects.same {α : Type} {f : State → α} (hf : ∀ {s t}, Effect k s t → f t = f s) (h : Effects k s t) : f t = f s :=
  h.keeps (P := fun x => f x = f s) (fun g e => (hf g).trans e) rfl

theorem foldl_effects {α : Type} (l : List α) (f : State → α → State) (h : ∀ s a, Effects k s (f s a)) (s : State) :
    Effects k s (l.foldl f s) := by
  induction l generalizing s with
  | nil => exact .refl k s
  | cons a l ih => exact (h s a).trans (ih _)

end Sys2Proof.Machine
end

section
/-! SUPPORT. What the operations on the records leave as it is and what they read back, and the elementary effects that they are. -/

set_option Elab.async false

namespace Sys2Proof.Machine

variable {k : Scope} {s t : State}

/-! ## Reading a record after writing one -/

@[simp] theorem State.pump_modPump_self (s : State) (p : PumpId) (f : PumpState → PumpState) :
    (s.modPump p f).pump p = f (s.pump p) := Tab.get_put_self ..
theorem State.pump_modPump_ne {p q : PumpId} (h : q ≠ p) (s : State) (f : PumpState → PumpState) :
    (s.modPump p f).pump q = s.pump q := Tab.get_put_ne _ _ h
@[simp] theorem State.barrier_modBarrier_self (s : State) (b : BarrierId) (f : BarrierState → BarrierState) :
    (s.modBarrier b f).barrier b = f (s.barrier b) := Tab.get_put_self ..
theorem State.barrier_modBarrier_ne {b c : BarrierId} (h : c ≠ b) (s : State) (f : BarrierState → BarrierState) :
    (s.modBarrier b f).barrier c = s.barrier c := Tab.get_put_ne _ _ h
@[simp] theorem State.zone_modZone_self (s : State) (z : ZoneId) (f : ZoneState → ZoneState) :
    (s.modZone z f).zone z = f (s.zone z) := Tab.get_put_self ..
theorem State.zone_modZone_ne {z y : ZoneId} (h : y ≠ z) (s : State) (f : ZoneState → ZoneState) :
    (s.modZone z f).zone y = s.zone y := Tab.get_put_ne _ _ h
@[simp] theorem State.gate_modGate (s : State) (f : GateState → GateState) : (s.modGate f).gsq.gate = f s.gsq.gate := rfl
@[simp] theorem State.gate_modBarrier (s : State) (b : BarrierId) (f : BarrierState → BarrierState) :
    (s.modBarrier b f).gsq.gate = s.gsq.gate := rfl
@[simp] theorem State.barrier_modGate (s : State) (b : BarrierId) (f : GateState → GateState) :
    (s.modGate f).barrier b = s.barrier b := rfl

/-! ## Requests, posts and withdrawals leave the records alone -/

@[simp] theorem requestCommand_psc (p : PointId) (v : Word) (s : State) : (requestCommand p v s).psc = s.psc := by
  unfold requestCommand; split <;> rfl
@[simp] theorem requestCommand_gsq (p : PointId) (v : Word) (s : State) : (requestCommand p v s).gsq = s.gsq := by
  unfold requestCommand; split <;> rfl
@[simp] theorem requestCommand_ltu (p : PointId) (v : Word) (s : State) : (requestCommand p v s).ltu = s.ltu := by
  unfold requestCommand; split <;> rfl
@[simp] theorem requestCommand_lau (p : PointId) (v : Word) (s : State) : (requestCommand p v s).lau = s.lau := by
  unfold requestCommand; split <;> rfl
@[simp] theorem requestCommand_upp (p : PointId) (v : Word) (s : State) : (requestCommand p v s).upp = s.upp := by
  unfold requestCommand; split <;> rfl
@[simp] theorem commandPoint_psc (o : Option PointId) (v : Word) (s : State) : (commandPoint o v s).psc = s.psc := by
  cases o <;> simp [commandPoint]
@[simp] theorem commandPoint_gsq (o : Option PointId) (v : Word) (s : State) : (commandPoint o v s).gsq = s.gsq := by
  cases o <;> simp [commandPoint]
@[simp] theorem commandPoint_ltu (o : Option PointId) (v : Word) (s : State) : (commandPoint o v s).ltu = s.ltu := by
  cases o <;> simp [commandPoint]
@[simp] theorem commandPoint_lau (o : Option PointId) (v : Word) (s : State) : (commandPoint o v s).lau = s.lau := by
  cases o <;> simp [commandPoint]
@[simp] theorem commandPoint_upp (o : Option PointId) (v : Word) (s : State) : (commandPoint o v s).upp = s.upp := by
  cases o <;> simp [commandPoint]
@[simp] theorem withdraw_psc (d : Device) (s : State) : (withdraw d s).psc = s.psc := by unfold withdraw; split <;> rfl
@[simp] theorem withdraw_gsq (d : Device) (s : State) : (withdraw d s).gsq = s.gsq := by unfold withdraw; split <;> rfl
@[simp] theorem withdraw_ltu (d : Device) (s : State) : (withdraw d s).ltu = s.ltu := by unfold withdraw; split <;> rfl
@[simp] theorem withdraw_flc (d : Device) (s : State) : (withdraw d s).flc = s.flc := by unfold withdraw; split <;> rfl
@[simp] theorem withdraw_upp (d : Device) (s : State) : (withdraw d s).upp = s.upp := by unfold withdraw; split <;> rfl

section
variable (d : Device) (c n f i : Nat)
@[simp] theorem post_psc (s : State) : (post d c n f i s).1.psc = s.psc := by
  unfold post; split
  · rfl
  · simp only; split <;> rfl
@[simp] theorem post_gsq (s : State) : (post d c n f i s).1.gsq = s.gsq := by
  unfold post; split
  · rfl
  · simp only; split <;> rfl
@[simp] theorem post_ltu (s : State) : (post d c n f i s).1.ltu = s.ltu := by
  unfold post; split
  · rfl
  · simp only; split <;> rfl
end

/-! A record is read from its block alone. -/

theorem State.pump_congr (h : t.psc = s.psc) (p : PumpId) : t.pump p = s.pump p := by simp only [State.pump, h]
theorem State.barrier_congr (h : t.gsq = s.gsq) (b : BarrierId) : t.barrier b = s.barrier b := by simp only [State.barrier, h]
theorem State.zone_congr (h : t.ltu = s.ltu) (z : ZoneId) : t.zone z = s.zone z := by simp only [State.zone, h]

@[simp] theorem commandPoint_pump (o : Option PointId) (v : Word) (s : State) (p : PumpId) :
    (commandPoint o v s).pump p = s.pump p := State.pump_congr (commandPoint_psc ..) p
@[simp] theorem commandPoint_barrier (o : Option PointId) (v : Word) (s : State) (b : BarrierId) :
    (commandPoint o v s).barrier b = s.barrier b := State.barrier_congr (commandPoint_gsq ..) b
@[simp] theorem commandPoint_zone (o : Option PointId) (v : Word) (s : State) (z : ZoneId) :
    (commandPoint o v s).zone z = s.zone z := State.zone_congr (commandPoint_ltu ..) z
@[simp] theorem withdraw_pump (d : Device) (s : State) (p : PumpId) : (withdraw d s).pump p = s.pump p :=
  State.pump_congr (withdraw_psc d s) p
@[simp] theorem withdraw_barrier (d : Device) (s : State) (b : BarrierId) : (withdraw d s).barrier b = s.barrier b :=
  State.barrier_congr (withdraw_gsq d s) b
@[simp] theorem withdraw_zone (d : Device) (s : State) (z : ZoneId) : (withdraw d s).zone z = s.zone z :=
  State.zone_congr (withdraw_ltu d s) z
@[simp] theorem post_pump (d : Device) (c n f i : Nat) (s : State) (p : PumpId) : (post d c n f i s).1.pump p = s.pump p :=
  State.pump_congr (post_psc ..) p
@[simp] theorem post_barrier (d : Device) (c n f i : Nat) (s : State) (b : BarrierId) :
    (post d c n f i s).1.barrier b = s.barrier b := State.barrier_congr (post_gsq ..) b
@[simp] theorem post_zone (d : Device) (c n f i : Nat) (s : State) (z : ZoneId) : (post d c n f i s).1.zone z = s.zone z :=
  State.zone_congr (post_ltu ..) z

/-! ## When a device may be moved -/

/-- The work of a scope may move a device of a condition: one at work, an UNKNOWN one beyond a mere delivery, and any where records
are set anew. -/
def Scope.MayMove (k : Scope) (c : Condition) : Prop := k.sets = true ∨ c = .working ∨ (k ≠ .delivery ∧ c = .unknown)

@[simp] theorem Scope.mayMove_working (k : Scope) : k.MayMove .working := .inr (.inl rfl)
theorem Scope.mayMove_unknown (h : k ≠ .delivery) : k.MayMove .unknown := .inr (.inr ⟨h, rfl⟩)
theorem Scope.mayMove_of_sets (h : k.sets = true) (c : Condition) : k.MayMove c := .inl h

theorem Scope.MayMove.kept {a b : Status} (h : k.MayMove a.condition) (hb : b.condition ≠ .disabled)
    (hf : b.flagged = a.flagged) : k.Kept a b := by
  obtain hk | ha | ⟨hk, ha⟩ := h
  · exact .of_sets hk a b
  · exact .of_working ha hb hf
  · exact .of_unknown hk ha hb hf

/-- Whether a device may be moved does not depend on the fault cause in its record. -/
theorem Scope.MayMove.of_fault {m c : Nat} {x : Condition} (h : k.MayMove (.fault m c)) : k.MayMove x := by
  obtain h | h | ⟨_, h⟩ := h
  · exact .inl h
  · cases h
  · cases h

theorem PumpMode.mayMove_cause {m : PumpMode} {c : Nat} (h : k.MayMove (m.condition 0)) : k.MayMove (m.condition c) := by
  cases m with
  | faulted => exact h.of_fault
  | _ => exact h

theorem BarrierMode.mayMove_cause {m : BarrierMode} {c : Nat} (h : k.MayMove (m.condition 0)) : k.MayMove (m.condition c) := by
  cases m with
  | faultTravel | faultObstructed | faultLimits => exact h.of_fault
  | _ => exact h

theorem GateMode.mayMove_cause {m : GateMode} {c : Nat} (h : k.MayMove (m.condition 0)) : k.MayMove (m.condition c) := by
  cases m with
  | fault => exact h.of_fault
  | _ => exact h

/-! ## Elementary updates as effects -/

theorem modPump_effects {p : PumpId} {f : PumpState → PumpState} (h : k.Kept (s.pump p).status (f (s.pump p)).status) :
    Effects k s (s.modPump p f) := by
  refine (Effect.psc s _ fun q => ?_).effects
  by_cases hq : q = p
  · subst hq
    exact (congrArg (k.Kept _) (congrArg PumpState.status (State.pump_modPump_self s q f))).mpr h
  · exact .of_eq (congrArg PumpState.status (State.pump_modPump_ne hq s f))

theorem modBarrier_effects {b : BarrierId} {f : BarrierState → BarrierState}
    (h : k.Kept (s.barrier b).status (f (s.barrier b)).status) : Effects k s (s.modBarrier b f) := by
  refine (Effect.gsq s _ (fun c => ?_) (.refl k _)).effects
  by_cases hc : c = b
  · subst hc
    exact (congrArg (k.Kept _) (congrArg BarrierState.status (State.barrier_modBarrier_self s c f))).mpr h
  · exact .of_eq (congrArg BarrierState.status (State.barrier_modBarrier_ne hc s f))

theorem modGate_effects {f : GateState → GateState} (h : k.Kept s.gsq.gate.status (f s.gsq.gate).status) :
    Effects k s (s.modGate f) := (Effect.gsq s _ (fun _ => .refl k _) h).effects

theorem modZone_effects {z : ZoneId} {f : ZoneState → ZoneState} (h : k.Kept (s.zone z).status (f (s.zone z)).status) :
    Effects k s (s.modZone z f) := by
  refine (Effect.ltu s _ fun y => ?_).effects
  by_cases hy : y = z
  · subst hy
    exact (congrArg (k.Kept _) (congrArg ZoneState.status (State.zone_modZone_self s y f))).mpr h
  · exact .of_eq (congrArg ZoneState.status (State.zone_modZone_ne hy s f))

/-- An update of the fields of a record other than its mode, fault cause and fault flag. -/
theorem modPump_effects_same {p : PumpId} {f : PumpState → PumpState} (h : ∀ t, (f t).status = t.status) :
    Effects k s (s.modPump p f) := modPump_effects (.of_eq (h _))
theorem modBarrier_effects_same {b : BarrierId} {f : BarrierState → BarrierState} (h : ∀ t, (f t).status = t.status) :
    Effects k s (s.modBarrier b f) := modBarrier_effects (.of_eq (h _))
theorem modGate_effects_same {f : GateState → GateState} (h : ∀ t, (f t).status = t.status) :
    Effects k s (s.modGate f) := modGate_effects (.of_eq (h _))
theorem modZone_effects_same {z : ZoneId} {f : ZoneState → ZoneState} (h : ∀ t, (f t).status = t.status) :
    Effects k s (s.modZone z f) := modZone_effects (.of_eq (h _))

theorem modPsc_effects {f : Psc → Psc} (h : ∀ c, (f c).pumps = c.pumps) : Effects k s (s.modPsc f) :=
  (Effect.psc s f fun p => .of_eq (by simp [State.status, State.pump, h])).effects

theorem emit_effects (x : Signal) : Effects k s (s.emit x) := (Effect.signals s (s.signals ++ [x])).effects
theorem modStc_effects (f : Stc → Stc) : Effects k s (s.modStc f) := (Effect.stc s f).effects
theorem raiseNotice_effects {code : Nat} {data : List Word} (h : code < 0x8000) : Effects k s (raiseNotice code data s) :=
  (Effect.notice s code data h).effects
theorem requestCommand_effects (p : PointId) (v : Word) : Effects k s (requestCommand p v s) := (Effect.request s p v).effects

theorem commandPoint_effects (o : Option PointId) (v : Word) : Effects k s (commandPoint o v s) := by
  cases o with
  | none => exact .refl k s
  | some p => exact requestCommand_effects p v

/-- An update of the LAU that leaves the Start Queue alone. -/
theorem modLau_effects {f : Lau → Lau} (h : ∀ l, (f l).queue = l.queue) : Effects k s (s.modLau f) :=
  (Effect.lau s f fun _ hq => (h _).trans hq).effects

theorem takeReport_effects {f : Lau → Lau} (h : ∀ l, (f l).queue = l.queue) : Effects k s (takeReport f s) :=
  modLau_effects h
theorem reportPump_effects (p : PumpId) (m : PumpMode) : Effects k s (reportPump p m s) := takeReport_effects fun _ => rfl
theorem reportMotor_effects (i : Fin 5) (kw : Nat) : Effects k s (reportMotor i kw s) := takeReport_effects fun _ => rfl
theorem reportZoneLoad_effects (z : ZoneId) (a b : Nat) : Effects k s (reportZoneLoad z a b s) := takeReport_effects fun _ => rfl

theorem withdraw_effects (d : Device) : Effects k s (withdraw d s) := by
  unfold withdraw
  split
  · exact (Effect.lau s _ fun _ hq => by simp [hq]).effects
  · exact .refl k s

/-- A post is accepted on a line not QUENCHED only (R111). -/
theorem post_effects (d : Device) (c n f i : Nat) : Effects k s (post d c n f i s).1 := by
  unfold post
  split
  · exact .refl k s
  · simp only
    split
    · exact Effect.effects (Effect.lau s (fun l => { l with queue := _, judgeDue := true }) fun hl => absurd hl ‹_›)
    · exact .refl k s

end Sys2Proof.Machine
end

section
/-! SUPPORT. The effects of everything that the JOBS and the LAU do when events are delivered: one lemma per function. -/

set_option Elab.async false

namespace Sys2Proof.Machine

variable {k : Scope} {s : State}

/-! ## Pumps -/

theorem pscReadiness_effects : Effects k s (pscReadiness s) := by
  unfold pscReadiness
  split
  · exact modStc_effects _
  · exact .refl k s

theorem pumpGo_effects_of_kept {p : PumpId} {m : PumpMode}
    (h : k.Kept (s.pump p).status { condition := m.condition (s.pump p).fault, flagged := false }) :
    Effects k s (pumpGo p m s) :=
  .after pscReadiness_effects (.after (reportPump_effects p m) (modPump_effects h))

theorem pumpGo_effects {p : PumpId} {m : PumpMode} (h : k.MayMove ((s.pump p).mode.condition 0)) (hm : m ≠ .disabled) :
    Effects k s (pumpGo p m s) :=
  pumpGo_effects_of_kept ((PumpMode.mayMove_cause h).kept (fun hd => hm (PumpMode.condition_eq_disabled.mp hd)) rfl)

@[simp] theorem numberStart_pump_mode (p : PumpId) (s : State) : ((numberStart p s).pump p).mode = (s.pump p).mode := by
  simp [numberStart]; rfl

theorem numberStart_effects (p : PumpId) : Effects k s (numberStart p s) :=
  .after (modPump_effects_same fun _ => rfl) (modPsc_effects fun _ => rfl)

theorem pumpSettle_effects {p : PumpId} (h : k.MayMove ((s.pump p).mode.condition 0)) : Effects k s (pumpSettle p s) := by
  unfold pumpSettle
  simp only
  split
  all_goals exact .after (pumpGo_effects (by simpa using h) (by decide)) (modPump_effects_same fun _ => rfl)

theorem pumpGrant_effects (p : PumpId) : Effects k s (pumpGrant p s) := by
  unfold pumpGrant
  split
  · exact .after (pumpGo_effects (by simp [*, PumpMode.condition]) (by decide)) (.after (commandPoint_effects _ _) (.after
      (modPump_effects_same fun _ => rfl) (numberStart_effects p)))
  · exact .refl k s

theorem pumpStop_effects (p : PumpId) (r : StopReason) : Effects k s (pumpStop p r s) := by
  unfold pumpStop
  split
  · rename_i h
    refine .after (pumpGo_effects ?_ (by decide)) (.after (commandPoint_effects _ _) (modPump_effects_same fun _ => rfl))
    obtain h | h := h <;> simp [h, PumpMode.condition]
  · exact .refl k s

theorem pumpShed_effects (p : PumpId) : Effects k s (pumpShed p s) := by
  unfold pumpShed
  split
  · exact pumpStop_effects p _
  · exact pumpStop_effects p _
  · exact .refl k s
  · exact reportPump_effects p _

/-! ## Barriers -/

theorem aspectJudge_effects (afresh : Bool) (b : BarrierId) : Effects k s (aspectJudge afresh b s) := by
  unfold aspectJudge
  simp only
  split
  · exact .after (modBarrier_effects_same fun _ => rfl) (modBarrier_effects_same fun _ => rfl)
  · split
    · exact .after (commandPoint_effects _ _) (.after (modBarrier_effects_same fun _ => rfl) (modBarrier_effects_same fun _ => rfl))
    · exact modBarrier_effects_same fun _ => rfl

theorem summaryReport_effects : Effects k s (summaryReport s) := by
  unfold summaryReport
  simp only
  split
  all_goals
    split
    · exact .after (emit_effects _) ((Effect.gsq s _ (fun _ => .refl k _) (.refl k _)).effects)
    · exact .refl k s

theorem gsqReadiness_effects : Effects k s (gsqReadiness s) := by
  unfold gsqReadiness
  split
  · exact modStc_effects _
  · exact .refl k s

theorem barrierGo_effects_of_kept {b : BarrierId} {m : BarrierMode}
    (h : k.Kept (s.barrier b).status { condition := m.condition (s.barrier b).fault, flagged := (s.barrier b).headFault }) :
    Effects k s (barrierGo b m s) :=
  .after gsqReadiness_effects (.after summaryReport_effects (.after (aspectJudge_effects _ _) (.after (reportMotor_effects _ _)
    (modBarrier_effects h))))

theorem barrierGo_effects {b : BarrierId} {m : BarrierMode} (h : k.MayMove ((s.barrier b).mode.condition 0)) (hm : m ≠ .disabled) :
    Effects k s (barrierGo b m s) :=
  barrierGo_effects_of_kept
    ((BarrierMode.mayMove_cause h).kept (fun hd => hm (BarrierMode.condition_eq_disabled.mp hd)) rfl)

theorem barrierPost_effects (b : BarrierId) (c : Nat) : Effects k s (barrierPost b c s).1 := post_effects ..

theorem barrierPostGo_effects {b : BarrierId} {c : Nat} {m : BarrierMode} (h : k.MayMove ((s.barrier b).mode.condition 0))
    (hm : m ≠ .disabled) : Effects k s (barrierPostGo b c m s) := by
  unfold barrierPostGo
  simp only
  split
  · exact .after (barrierGo_effects (by simpa [barrierPost] using h) hm) (.after (modBarrier_effects_same fun _ => rfl)
      (barrierPost_effects b c))
  · exact .after (modBarrier_effects_same fun _ => rfl) (barrierPost_effects b c)

theorem barrierPostStay_effects (b : BarrierId) (c : Nat) : Effects k s (barrierPostStay b c s) := by
  unfold barrierPostStay
  split
  · exact modBarrier_effects_same fun _ => rfl
  · exact .after (modBarrier_effects_same fun _ => rfl) (barrierPost_effects b c)

@[simp] theorem barrierPostStay_mode (b : BarrierId) (c : Nat) (s : State) :
    ((barrierPostStay b c s).barrier b).mode = (s.barrier b).mode := by
  unfold barrierPostStay
  split <;> simp [barrierPost]

theorem toClearing_effects {b : BarrierId} (h : k.MayMove ((s.barrier b).mode.condition 0)) : Effects k s (toClearing b s) :=
  .after (barrierGo_effects (by simpa using h) (by decide)) (modBarrier_effects_same fun _ => rfl)

theorem toClearingStopped_effects {b : BarrierId} (h : k.MayMove ((s.barrier b).mode.condition 0)) :
    Effects k s (toClearingStopped b s) :=
  .after (barrierGo_effects (by simpa using h) (by decide)) (modBarrier_effects_same fun _ => rfl)

theorem closingPost_effects {b : BarrierId} (h : k.MayMove ((s.barrier b).mode.condition 0)) : Effects k s (closingPost b s) :=
  barrierPostGo_effects h (by decide)

theorem barrierMove_effects {b : BarrierId} {m : BarrierMode} {v : Word} (h : k.MayMove ((s.barrier b).mode.condition 0))
    (hm : m ≠ .disabled) : Effects k s (barrierMove b m v s) :=
  .after (barrierGo_effects (by simpa [startTravel] using h) hm) (.after (modBarrier_effects_same fun _ => rfl)
    (commandPoint_effects _ _))

theorem stopTravel_effects (b : BarrierId) : Effects k s (stopTravel b s) :=
  .after (modBarrier_effects_same fun _ => rfl) (commandPoint_effects _ _)

theorem withdrawToClosed_effects {b : BarrierId} (h : k.MayMove ((s.barrier b).mode.condition 0)) :
    Effects k s (withdrawToClosed b s) :=
  .after (barrierGo_effects (by simpa using h) (by decide)) (.after (modBarrier_effects_same fun _ => rfl) (withdraw_effects _))

/-- The withdrawal to OPEN of a barrier whose closure is no longer demanded (R150). -/
theorem barrierReopen_effects {b : BarrierId} (h : k.MayMove ((s.barrier b).mode.condition 0)) :
    Effects k s (barrierGo b .opened ((withdraw (.barrier b) s).modBarrier b fun t =>
        { t with warnTimer := .stopped, clearTimer := .stopped, postDeferred := false, reversals := 0 })) :=
  .after (barrierGo_effects (by simpa using h) (by decide)) (.after (modBarrier_effects_same fun _ => rfl) (withdraw_effects _))

theorem barrierAct_effects (b : BarrierId) : Effects k s (barrierAct b s) := by
  unfold barrierAct
  simp only
  split
  case h_1 h =>
    split
    · exact .after (barrierGo_effects (by simp [h, BarrierMode.condition]) (by decide)) (modBarrier_effects_same fun _ => rfl)
    · exact .refl k s
  case h_2 h | h_3 h | h_4 h =>
    have hm : k.MayMove ((s.barrier b).mode.condition 0) := by simp [h, BarrierMode.condition]
    split
    · exact barrierReopen_effects hm
    · split
      · exact closingPost_effects hm
      · split
        · exact barrierPostStay_effects b 0
        · exact .refl k s
  case h_5 h =>
    split
    · exact barrierPostGo_effects (by simp [h, BarrierMode.condition]) (by decide)
    · exact modBarrier_effects_same fun _ => rfl
  case h_6 h =>
    have hm : k.MayMove ((s.barrier b).mode.condition 0) := by simp [h, BarrierMode.condition]
    repeat' split
    · exact withdrawToClosed_effects hm
    · exact .after (barrierGo_effects (by simpa using hm) (by decide)) (barrierPostStay_effects b 0)
    · exact .after (toClearingStopped_effects (by simpa using hm)) (withdraw_effects _)
    · exact withdrawToClosed_effects hm
    · exact barrierPostStay_effects b 2
    · exact .refl k s
  case h_7 h =>
    split
    · exact .after (barrierMove_effects (by simp [h, BarrierMode.condition]) (by decide)) (modBarrier_effects_same fun _ => rfl)
    · exact .refl k s
  case h_8 => exact .refl k s

theorem barrierEval_effects (b : BarrierId) : Effects k s (barrierEval b s) := by
  unfold barrierEval
  split
  · split
    · exact .after (aspectJudge_effects _ _) (barrierAct_effects b)
    · exact aspectJudge_effects _ _
  · exact .refl k s

theorem barrierGrant_effects (b : BarrierId) : Effects k s (barrierGrant b s) := by
  unfold barrierGrant
  split
  case h_1 h =>
    have hm : k.MayMove ((s.barrier b).mode.condition 0) := by simp [h, BarrierMode.condition]
    split
    · exact barrierMove_effects hm (by decide)
    · exact toClearingStopped_effects hm
  case h_2 h => exact barrierMove_effects (by simp [h, BarrierMode.condition]) (by decide)
  case h_3 => exact .refl k s

/-! ## The gate -/

theorem gateLeftClosed_effects : Effects k s (gateLeftClosed s) := by
  unfold gateLeftClosed
  apply foldl_effects
  intro s i
  split
  · exact (Effect.sau s _).effects
  · exact .refl k s

theorem gateGo_effects_of_kept {m : GateMode}
    (h : k.Kept s.gsq.gate.status { condition := m.condition s.gsq.gate.fault, flagged := false }) :
    Effects k s (gateGo m s) := by
  have h1 : Effects k s (reportMotor 4 (if m.moves then s.cfg.gate.motorKw else 0) (s.modGate fun g => { g with mode := m })) :=
    (modGate_effects h).trans (reportMotor_effects _ _)
  unfold gateGo
  simp only
  split
  · exact .after gsqReadiness_effects (.after gateLeftClosed_effects h1)
  · exact .after gsqReadiness_effects h1

theorem gateGo_effects {m : GateMode} (h : k.MayMove (s.gsq.gate.mode.condition 0)) (hm : m ≠ .disabled) :
    Effects k s (gateGo m s) :=
  gateGo_effects_of_kept ((GateMode.mayMove_cause h).kept (fun hd => hm (GateMode.condition_eq_disabled.mp hd)) rfl)

theorem gatePost_effects (c : Nat) : Effects k s (gatePost c s).1 := post_effects ..

theorem gatePostGo_effects {c : Nat} {m : GateMode} (h : k.MayMove (s.gsq.gate.mode.condition 0)) (hm : m ≠ .disabled) :
    Effects k s (gatePostGo c m s) := by
  unfold gatePostGo
  simp only
  split
  · exact .after (gateGo_effects (by simpa [gatePost] using h) hm) (.after (modGate_effects_same fun _ => rfl) (gatePost_effects c))
  · exact .after (modGate_effects_same fun _ => rfl) (gatePost_effects c)

theorem gatePostStay_effects (c : Nat) : Effects k s (gatePostStay c s) := by
  unfold gatePostStay
  split
  · exact modGate_effects_same fun _ => rfl
  · exact .after (modGate_effects_same fun _ => rfl) (gatePost_effects c)

@[simp] theorem gatePostStay_mode (c : Nat) (s : State) : (gatePostStay c s).gsq.gate.mode = s.gsq.gate.mode := by
  unfold gatePostStay
  split <;> simp [gatePost]

theorem gateMove_effects {m : GateMode} {v : Word} (h : k.MayMove (s.gsq.gate.mode.condition 0)) (hm : m ≠ .disabled) :
    Effects k s (gateMove m v s) :=
  .after (gateGo_effects (by simpa using h) hm) (.after (modGate_effects_same fun _ => rfl) (commandPoint_effects _ _))

theorem gateEval_effects : Effects k s (gateEval s) := by
  unfold gateEval
  simp only
  split
  · exact .refl k s
  split
  case h_1 h =>
    split
    · exact gatePostGo_effects (by simp [h, GateMode.condition]) (by decide)
    · exact modGate_effects_same fun _ => rfl
  case h_2 h =>
    have hm : k.MayMove (s.gsq.gate.mode.condition 0) := by simp [h, GateMode.condition]
    repeat' split
    · exact .after (gateGo_effects (by simpa using hm) (by decide)) (.after (modGate_effects_same fun _ => rfl)
        (withdraw_effects _))
    · exact gatePostGo_effects hm (by decide)
    · exact gatePostStay_effects 2
    · exact .refl k s
  case h_3 h =>
    split
    · exact gateMove_effects (by simp [h, GateMode.condition]) (by decide)
    · exact .refl k s
  case h_4 h =>
    have hm : k.MayMove (s.gsq.gate.mode.condition 0) := by simp [h, GateMode.condition]
    repeat' split
    · exact gatePostGo_effects hm (by decide)
    · exact gatePostGo_effects hm (by decide)
    · exact modGate_effects_same fun _ => rfl
    · exact .refl k s
    · exact modGate_effects_same fun _ => rfl
  case h_5 h =>
    repeat' split
    · exact .after (gateGo_effects (by simp [h, GateMode.condition]) (by decide)) (gatePostStay_effects 2)
    · exact gatePostStay_effects 0
    · exact .refl k s
  case h_6 => exact .refl k s

theorem gateGrant_effects : Effects k s (gateGrant s) := by
  unfold gateGrant
  split
  case h_1 h => exact gateMove_effects (by simp [h, GateMode.condition]) (by decide)
  case h_2 h => exact gateMove_effects (by simp [h, GateMode.condition]) (by decide)
  case h_3 => exact .refl k s

/-! ## Zones -/

/-- A zone that may be moved keeps its fault flag when its mode changes. -/
theorem modZone_effects_mode {z : ZoneId} {f : ZoneState → ZoneState} (h : k.MayMove (s.zone z).mode.condition)
    (hm : ∀ t, (f t).mode ≠ .disabled) (hf : ∀ t, (f t).dimmerFault = t.dimmerFault) : Effects k s (s.modZone z f) :=
  modZone_effects (h.kept (fun hd => hm _ (ZoneMode.condition_eq_disabled.mp hd)) (hf _))

theorem zoneReport_effects (z : ZoneId) : Effects k s (zoneReport z s) := reportZoneLoad_effects ..
theorem dimRequest_effects (z : ZoneId) : Effects k s (dimRequest z s) :=
  .after (commandPoint_effects _ _) (modZone_effects_same fun _ => rfl)
theorem commandLevel_effects (z : ZoneId) (n : Nat) : Effects k s (commandLevel z n s) :=
  .after (dimRequest_effects z) (modZone_effects_same fun _ => rfl)

theorem restorationPost_effects {z : ZoneId} (h : k.MayMove (s.zone z).mode.condition) : Effects k s (restorationPost z s) := by
  unfold restorationPost
  simp only
  split
  · exact .after (zoneReport_effects z) (modZone_effects_mode h (fun _ => nofun) fun _ => rfl)
  · split
    · exact .after (modZone_effects_mode (by simpa using h) (fun _ => nofun) fun _ => rfl) (post_effects ..)
    · exact .after (modZone_effects_same fun _ => rfl) (post_effects ..)

theorem zoneShed_effects (z : ZoneId) : Effects k s (zoneShed z s) := by
  unfold zoneShed
  split
  case h_1 h =>
    exact .after (zoneReport_effects z) (.after (commandLevel_effects _ _)
      (modZone_effects_mode (by simp [h, ZoneMode.condition]) (fun _ => nofun) fun _ => rfl))
  case h_2 h =>
    exact .after (zoneReport_effects z) (.after (modZone_effects_mode (by simp [h, ZoneMode.condition])
        (fun _ => nofun) fun _ => rfl) (withdraw_effects _))
  case h_3 => exact .refl k s

theorem zoneShedEnd_effects (z : ZoneId) : Effects k s (zoneShedEnd z s) := by
  unfold zoneShedEnd
  split
  · exact restorationPost_effects (by simp [*, ZoneMode.condition])
  · exact .refl k s

theorem zoneGrant_effects (z : ZoneId) : Effects k s (zoneGrant z s) := by
  unfold zoneGrant
  split
  · exact .after (zoneReport_effects z) (modZone_effects_mode (by simp [*, ZoneMode.condition]) (fun _ => nofun) fun _ => rfl)
  · exact .refl k s

/-! ## The judgements of the LAU -/

theorem deliverGrant_effects (d : Device) : Effects k s (deliverGrant d s) := by
  cases d with
  | pump p => exact pumpGrant_effects p
  | barrier b => exact barrierGrant_effects b
  | gate => exact gateGrant_effects
  | zone z => exact zoneGrant_effects z

theorem grantHead_effects {r : Request} {q : List Request} (h : s.lau.queue = r :: q) : Effects k s (grantHead r q s) :=
  .after (deliverGrant_effects r.device) (Effect.lau s _ fun _ hq => by simp [h] at hq).effects

theorem shedBegin_effects : Effects k s (shedBegin s) := by
  unfold shedBegin
  exact .after (modLau_effects fun _ => rfl) (.after (foldl_effects _ _ (fun _ z => zoneShed_effects z) _) (.after
      (raiseNotice_effects (by decide)) (modLau_effects fun _ => rfl)))

theorem shedIssue_effects (p : PumpId) : Effects k s (shedIssue p s) :=
  .after (pumpShed_effects p) (modLau_effects fun _ => rfl)

theorem shedEnd_effects : Effects k s (shedEnd s) :=
  .after (foldl_effects _ _ (fun _ z => zoneShedEnd_effects z) _) (.after (raiseNotice_effects (by decide))
    (modLau_effects fun _ => rfl))

theorem lauShed_effects {t : State} (h : lauRound.lauShed s = some t) : Effects k s t := by
  unfold lauRound.lauShed at h
  split at h
  · exact Option.some.inj h ▸ shedBegin_effects
  · split at h
    · exact Option.some.inj h ▸ shedIssue_effects _
    · split at h
      · exact Option.some.inj h ▸ shedEnd_effects
      · cases h

theorem lauRound_effects {t : State} (h : lauRound s = some t) : Effects k s t := by
  unfold lauRound at h
  split at h
  · split at h
    · exact Option.some.inj h ▸ grantHead_effects ‹_›
    · exact lauShed_effects h
  · exact lauShed_effects h

theorem lauLoop_effects (n : Nat) : Effects k s (lauLoop n s) := by
  induction n generalizing s with
  | zero => exact .refl k s
  | succ n ih =>
    unfold lauLoop
    split
    · exact .after ih (lauRound_effects ‹_›)
    · exact .refl k s

theorem lauSettle_effects : Effects k s (lauSettle s) := by
  unfold lauSettle
  split
  · exact .after (modLau_effects fun _ => rfl) (lauLoop_effects 64)
  · exact .refl k s

theorem eachDevice_effects {α : Type} (l : List α) (f : α → State → State) (h : ∀ a s, Effects k s (f a s)) :
    Effects k s (eachDevice l f s) :=
  foldl_effects _ _ (fun s a => (h a s).trans lauSettle_effects) s

theorem gsqEvaluate_effects : Effects k s (gsqEvaluate s) :=
  .after lauSettle_effects (.after gateEval_effects (eachDevice_effects _ _ fun b _ => barrierEval_effects b))

/-! ## The Pump Scheduler -/

theorem pumpObeyStop_effects (p : PumpId) : Effects k s (pumpObeyStop p s) := by
  unfold pumpObeyStop
  split
  · split
    · exact pumpStop_effects p _
    · exact pumpStop_effects p _
    · exact .after (pumpSettle_effects (by simp [*, PumpMode.condition])) (withdraw_effects _)
    · exact .refl k s
  · exact .refl k s

theorem withdrawExcess_effects (i : SumpId) (d : Nat) : Effects k s (withdrawExcess i d s) := by
  unfold withdrawExcess
  apply foldl_effects
  intro s p
  split
  · rename_i h
    simp only [Bool.and_eq_true, beq_iff_eq] at h
    obtain ⟨⟨-, hq⟩, -⟩ := h
    exact .after (pumpSettle_effects (by simp [hq, PumpMode.condition])) (withdraw_effects _)
  · exact .refl k s

theorem reduceSump_effects (i : SumpId) (d : Nat) : Effects k s (reduceSump i d s) := by
  have h : Effects k s (withdrawExcess i d ((s.pumpsOf i).foldl (fun s p => pumpObeyStop p s) s)) :=
    (foldl_effects _ _ (fun _ p => pumpObeyStop_effects p) s).trans (withdrawExcess_effects i d)
  unfold reduceSump
  simp only
  split
  · split
    · exact .after (pumpStop_effects _ _) h
    · exact h
  · exact h

theorem eligible_working {s : State} {p : PumpId} (h : s.eligible p = true) : (s.pump p).mode.condition 0 = .working := by
  unfold State.eligible at h
  simp only [Bool.and_eq_true] at h
  obtain ⟨-, h⟩ := h
  split at h
  case h_1 hm => simp [hm, PumpMode.condition]
  case h_2 hm => simp [hm, PumpMode.condition]
  case h_3 => cases h

theorem postPump_effects (i : SumpId) (d : Nat) (p : PumpId) : Effects k s (postPump i d p s) := by
  unfold postPump
  simp only
  split
  · rename_i h
    have hw := eligible_working (s := s) (p := p) (by simp only [Bool.and_eq_true] at h; exact h.2)
    split
    · exact .after lauSettle_effects (.after (pumpGo_effects (by simp [hw]) (by decide)) (.after
        (modPump_effects_same fun _ => rfl) (post_effects ..)))
    · exact .after (modPump_effects_same fun _ => rfl) (post_effects ..)
  · exact .refl k s

theorem evaluateSump_effects (i : SumpId) : Effects k s (evaluateSump i s) := by
  unfold evaluateSump
  split
  · exact .after (foldl_effects _ _ (fun _ p => postPump_effects i _ p) _) (.after lauSettle_effects (.after
      (reduceSump_effects i _) (foldl_effects _ _ (fun _ _ => by exact modPump_effects_same fun _ => rfl) s)))
  · exact .refl k s

theorem pscEvaluate_effects : Effects k s (pscEvaluate s) := foldl_effects _ _ (fun _ i => evaluateSump_effects i) s

/-! ## The STAGE and the delivery of events -/

theorem cancelOverrides_effects (c : OverrideCause) {code : Nat} : Effects k s (cancelOverrides c code s) := by
  have h : Effects k s ((s.cau.overrides.foldl (fun s e => s.tellOwner e.point (ownerOf s.cfg e.point) none c) s).modCau
      fun c => { c with overrides := [] }) :=
    (foldl_effects _ _ (fun _ _ => emit_effects _) s).trans (Effect.cau _ _).effects
  unfold cancelOverrides
  simp only
  split
  · exact h
  · exact .after (raiseNotice_effects (by decide)) h

theorem stageChange_effects (new : Stage) (c : Cause) : Effects k s (stageChange new c s) := by
  have h := fun (f : Stc → Stc) (data : List Word) =>
    (modStc_effects (k := k) (s := s) f).trans (raiseNotice_effects (code := 5) (data := data) (by decide))
  unfold stageChange
  simp only
  split
  · exact .after (emit_effects _) (.after (cancelOverrides_effects _) (h _ _))
  · exact .after (emit_effects _) (h _ _)

theorem stageTo_effects (new : Stage) (c : Cause) : Effects k s (stageTo new c s) := by
  unfold stageTo
  simp only
  split
  case h_3 => exact stageChange_effects _ _
  all_goals
    split
    · exact .after (stageChange_effects _ _) (stageChange_effects _ _)
    · exact stageChange_effects _ _

theorem takeSummary_effects (c o : Bool) : Effects k s (takeSummary c o s) := by
  unfold takeSummary
  simp only
  split
  · exact .after (stageTo_effects _ _) (modStc_effects _)
  · split
    · exact .after (stageTo_effects _ _) (modStc_effects _)
    · exact modStc_effects _

theorem handleSignal_effects (x : Signal) : Effects k s (handleSignal x s) := by
  unfold handleSignal
  split
  · exact takeSummary_effects _ _
  · split
    · exact .after gsqEvaluate_effects pscEvaluate_effects
    · exact .refl k s
  · split
    case h_3 => 
      split
      · exact gsqEvaluate_effects
      · exact aspectJudge_effects _ _
    case h_4 => exact .refl k s
    all_goals
      split
      · exact gsqEvaluate_effects
      · exact .refl k s

theorem quiesceLoop_effects (n : Nat) : Effects k s (quiesceLoop n s) := by
  induction n generalizing s with
  | zero => exact .after (Effect.signals _ []).effects lauSettle_effects
  | succ n ih =>
    unfold quiesceLoop
    simp only
    split
    · exact lauSettle_effects
    · exact .after ih (.after (handleSignal_effects _) (.after ((Effect.signals _ _).effects) lauSettle_effects))

/-- What the delivery of events can do to a state. -/
theorem quiesce_effects : Effects k s (quiesce s) := quiesceLoop_effects 256

end Sys2Proof.Machine
end

section
/-! SUPPORT. The effects of what the blocks do with point events, samples, echoes and command outcomes. -/

set_option Elab.async false

namespace Sys2Proof.Machine

variable {k : Scope} {s : State}

/-! ## The work of the Path Mapping Unit: its own record, and notices -/

/-- One elementary effect of a lookup, of the command search or of a log entry. -/
inductive Trace : State → State → Prop where
  | pmu (s : State) (f : Pmu → Pmu) : Trace s (s.modPmu f)
  | notice (s : State) (code : Nat) (data : List Word) (h : code < 0x8000) : Trace s (raiseNotice code data s)

/-- What lookups, the command search and log entries can make of a state. -/
def Traces : State → State → Prop := Relation.ReflTransGen Trace

theorem Traces.refl (s : State) : Traces s s := Relation.ReflTransGen.refl

theorem Traces.after {t u : State} (g : Traces t u) (h : Traces s t) : Traces s u := Relation.ReflTransGen.trans h g

theorem Traces.effects {t : State} (h : Traces s t) : Effects k s t := by
  induction h with
  | refl => exact .refl k s
  | tail _ g ih =>
    cases g with
    | pmu f => exact .after (Effect.pmu _ f).effects ih
    | notice code data h => exact .after (Effect.notice _ code data h).effects ih

/-- They leave everything but the maps with their records and the upstream port as it is. -/
theorem Traces.same {t : State} (h : Traces s t) : { t with pmu := s.pmu, upp := s.upp } = s := by
  induction h with
  | refl => rfl
  | tail _ g ih => cases g <;> exact ih

theorem modPmu_traces (f : Pmu → Pmu) : Traces s (s.modPmu f) := .single (.pmu s f)

theorem raiseNotice_traces {code : Nat} {data : List Word} (h : code < 0x8000) : Traces s (raiseNotice code data s) :=
  .single (.notice s code data h)

theorem foldl_traces {α : Type} (l : List α) (f : State → α → State) (h : ∀ s a, Traces s (f s a)) (s : State) :
    Traces s (l.foldl f s) := by
  induction l generalizing s with
  | nil => exact .refl s
  | cons a l ih => exact .after (ih _) (h s a)

theorem logFault_traces (u : FaultUpdate) : Traces s (logFault u s) := by
  unfold logFault
  simp only
  split
  · exact modPmu_traces _
  · exact .after (raiseNotice_traces (by decide)) (modPmu_traces _)

theorem putEntry_pinned (i : Fin 16) (e : MapEntry) (s : State) :
    s.putEntry (.pinned i) e = s.modPmu fun m => { m with pinned := Tab.put m.pinned i e } := rfl
theorem putEntry_setMap (i : Fin 128) (w : Fin 2) (e : MapEntry) (s : State) :
    s.putEntry (.setMap i w) e = s.modPmu fun m => { m with sets := Tab.put m.sets (setPlace i w) e } := rfl

theorem putEntry_traces (l : MapLoc) (e : MapEntry) : Traces s (s.putEntry l e) := by
  cases l with
  | pinned i => exact putEntry_pinned i e s ▸ modPmu_traces _
  | setMap i w => exact putEntry_setMap i w e s ▸ modPmu_traces _

theorem captureMiss_traces (key : Key) (kind : BitVec 3) : Traces s (captureMiss key kind s) := by
  unfold captureMiss
  split
  · exact modPmu_traces _
  · exact .after (raiseNotice_traces (by decide)) (modPmu_traces _)

theorem invalidateAll_traces (l : List MapLoc) : Traces s (l.foldl (fun s l => invalidate l s) s) :=
  foldl_traces _ _ (fun _ l => putEntry_traces l _) s

theorem setUsedAll_traces (l : List MapLoc) : Traces s (l.foldl (fun s l => setUsed l s) s) :=
  foldl_traces _ _ (fun _ l => putEntry_traces l _) s

theorem lookup_traces (key : Key) (dir : Direction) (kind : BitVec 3) : Traces s (lookup key dir kind s).2 := by
  unfold lookup
  simp only
  generalize (lookupPlaces key).filter (fun l => (s.mapEntry l).fields.isMatch key) = found
  generalize resolve dir _ = r
  have hused : Traces s (match r.1 with
      | .hit _ => (found.filter fun l => (s.mapEntry l).checkGood).foldl (fun s l => setUsed l s)
          ((found.filter fun l => !(s.mapEntry l).checkGood).foldl (fun s l => invalidate l s) s)
      | _ => (found.filter fun l => !(s.mapEntry l).checkGood).foldl (fun s l => invalidate l s) s) := by
    split
    · exact .after (setUsedAll_traces _) (invalidateAll_traces _)
    · exact invalidateAll_traces _
  split
  · refine .after (captureMiss_traces _ _) ?_
    split
    · exact .after (logFault_traces _) hused
    · exact .after (logFault_traces _) hused
    · exact hused
  · split
    · exact .after (logFault_traces _) hused
    · exact .after (logFault_traces _) hused
    · exact hused

theorem lookups_traces (plan : Plan) (station : Station) (dir : Direction) (kind : BitVec 3) (c n : Nat) :
    Traces s (lookups plan station dir kind c n s).2 := by
  induction n generalizing c s with
  | zero => exact .refl s
  | succ n ih => exact .after (ih _) (lookup_traces _ dir kind)

theorem commandSearch_traces (p : PointId) : Traces s (commandSearch p s).2 := by
  unfold commandSearch
  simp only
  generalize searchPlaces s p s.planInForce allPlaces = r
  have hlog : Traces s (match r.1 with
      | [] => s
      | l :: _ => logFault { cls := .map, detail := parityDetail l,
                             key := some { plan := (s.mapEntry l).fields.plan, station := (s.mapEntry l).fields.station
                                           channel := (s.mapEntry l).fields.channel }
                             loc := some l, kind := kindWrite } (r.1.foldl (fun s l => invalidate l s) s)) := by
    split
    · exact .refl s
    · exact .after (logFault_traces _) (invalidateAll_traces _)
  split
  · exact .after (putEntry_traces _ _) hlog
  · exact hlog

theorem logFault_effects (u : FaultUpdate) : Effects k s (logFault u s) := (logFault_traces u).effects

theorem putEntry_effects (l : MapLoc) (e : MapEntry) : Effects k s (s.putEntry l e) := (putEntry_traces l e).effects

theorem modPmu_effects (f : Pmu → Pmu) : Effects k s (s.modPmu f) := (modPmu_traces f).effects

theorem lookup_effects (key : Key) (dir : Direction) (kind : BitVec 3) : Effects k s (lookup key dir kind s).2 :=
  (lookup_traces key dir kind).effects

theorem lookups_effects (plan : Plan) (station : Station) (dir : Direction) (kind : BitVec 3) (c n : Nat) :
    Effects k s (lookups plan station dir kind c n s).2 := (lookups_traces plan station dir kind c n).effects

theorem commandSearch_effects (p : PointId) : Effects k s (commandSearch p s).2 := (commandSearch_traces p).effects

/-! ## The fields of the points -/

theorem modPoint_effects (h : k.observes = true) (p : PointId) (f : PointState → PointState) : Effects k s (s.modPoint p f) :=
  (Effect.pim s _ h fun _ hq => hq).effects

theorem modQueue_effects (h : k.observes = true) {q : QueueId} {f : LevelQueue → LevelQueue}
    (hf : (s.levelQueue q).entries.length ≤ 4 → (f (s.levelQueue q)).entries.length ≤ 4) : Effects k s (s.modQueue q f) := by
  refine (Effect.pim s _ h fun r hr => ?_).effects
  rw [Tab.get_put]
  split
  · subst_vars
    exact hf hr
  · exact hr

theorem restartAge_effects (h : k.observes = true) (p : PointId) : Effects k s (restartAge p s) := modPoint_effects h p _

/-! ## Pumps -/

/-- A new fault cause does not show in the status of a pump that may be moved. -/
theorem modPump_effects_cause {p : PumpId} {f : PumpState → PumpState} (h : k.MayMove ((s.pump p).mode.condition 0))
    (hf : ∀ t, (f t).mode = t.mode) : Effects k s (s.modPump p f) := by
  obtain hk | hw | ⟨hk, hu⟩ := h
  · exact modPump_effects (.of_sets hk _ _)
  all_goals
    refine modPump_effects (Scope.MayMove.kept (PumpMode.mayMove_cause ?_) (fun hd => ?_) rfl)
    · simp [Scope.MayMove, *]
    · rw [PumpState.status, PumpMode.condition_eq_disabled, hf] at hd
      simp_all [PumpMode.condition]

theorem pumpFault_effects {p : PumpId} {c : Nat} (h : k.MayMove ((s.pump p).mode.condition 0)) :
    Effects k s (pumpFault p c s) := by
  have h1 : ∀ code data, Effects k s (raiseNotice 13 data (pumpGo p .faulted (withdraw (.pump p) (s.modPump p fun t =>
      { t with fault := code, stopReason := .fault, startTimer := .stopped, stopTimer := .stopped, offTimer := .stopped })))) :=
    fun _ _ => .after (raiseNotice_effects (by decide)) (.after (pumpGo_effects (by simpa using h) (by decide))
      (.after (withdraw_effects _) (modPump_effects_cause h fun _ => rfl)))
  unfold pumpFault
  simp only
  split
  · exact h1 _ _
  · exact .after (commandPoint_effects _ _) (h1 _ _)

@[simp] theorem dutyToTail_pump (i : SumpId) (p q : PumpId) (s : State) : (dutyToTail i p s).pump q = s.pump q := rfl

theorem dutyToTail_effects (i : SumpId) (p : PumpId) : Effects k s (dutyToTail i p s) := modPsc_effects fun _ => rfl

theorem pumpStopped_effects {p : PumpId} (h : k.MayMove ((s.pump p).mode.condition 0)) : Effects k s (pumpStopped p s) := by
  unfold pumpStopped
  simp only
  split
  · exact .after (pumpSettle_effects (by simpa using h)) (.after (dutyToTail_effects _ _) (modPump_effects_same fun _ => rfl))
  · exact .after (pumpSettle_effects (by simpa using h)) (modPump_effects_same fun _ => rfl)

theorem pumpConfirm_effects (p : PumpId) : Effects k s (pumpConfirm p s) := by
  unfold pumpConfirm
  split
  case h_1 h =>
    split
    · exact .after (pumpGo_effects (by simp [h, PumpMode.condition]) (by decide)) (modPump_effects_same fun _ => rfl)
    · exact .refl k s
  case h_2 h =>
    split
    · exact pumpStopped_effects (by simp [h, PumpMode.condition])
    · exact .refl k s
  case h_3 => exact .refl k s

theorem pumpFoundRunning_effects {p : PumpId} (h : k.MayMove ((s.pump p).mode.condition 0)) :
    Effects k s (pumpFoundRunning p s) := by
  unfold pumpFoundRunning
  simp only
  split
  · exact .after (pumpGo_effects (by simpa using h) (by decide)) (.after (modPump_effects_same fun _ => rfl)
      (numberStart_effects p))
  · exact pumpFault_effects h

theorem pumpRederive_effects (hk : k ≠ .delivery) (p : PumpId) : Effects k s (pumpRederive p s) := by
  unfold pumpRederive
  simp only
  split
  case isTrue h =>
    obtain ⟨hu, -⟩ := h
    have hm : k.MayMove ((s.pump p).mode.condition 0) := hu ▸ Scope.mayMove_unknown hk
    split
    · have h1 : ∀ data, Effects k s (pumpGo p .faulted ((if (s.pump p).fault = 0 then
            raiseNotice 13 data (s.modPump p fun t => { t with fault := 1 })
          else s).modPump p fun t => { t with stopReason := .fault })) := by
        intro data
        split
        · refine .after (pumpGo_effects ?_ (by decide)) (.after (modPump_effects_same fun _ => rfl)
            (.after (raiseNotice_effects (by decide)) (modPump_effects_cause hm fun _ => rfl)))
          rw [State.pump_modPump_self, State.pump_congr (raiseNotice_psc ..), State.pump_modPump_self]
          exact hm
        · exact .after (pumpGo_effects (by simpa using hm) (by decide)) (modPump_effects_same fun _ => rfl)
      split
      · exact .after (commandPoint_effects _ _) (h1 _)
      · exact h1 _
    · split
      · exact pumpFoundRunning_effects hm
      · exact pumpGo_effects hm (by decide)
  case isFalse => exact .refl k s

theorem pumpFeedbackEvent_effects (hk : k ≠ .delivery) (p : PumpId) (ev : PointEvent) :
    Effects k s (pumpFeedbackEvent p ev s) := by
  unfold pumpFeedbackEvent
  simp only
  split
  case h_1 => exact .refl k s
  case h_2 => exact pumpRederive_effects hk p
  case h_3 | h_4 => exact pumpConfirm_effects p
  case h_9 =>
    split
    · exact commandPoint_effects _ _
    · exact .refl k s
  all_goals
    rename_i h
    split
    · exact pumpFault_effects (by simp [h, PumpMode.condition])
    · exact .refl k s

/-- A pump neither DISABLED nor FAULTED may be moved beyond a mere delivery. -/
theorem PumpMode.mayMove_of_live {m : PumpMode} (hk : k ≠ .delivery) (hd : m = .disabled → False) (hf : m = .faulted → False) :
    k.MayMove (m.condition 0) := by
  cases m with
  | disabled => exact (hd rfl).elim
  | faulted => exact (hf rfl).elim
  | unknown => exact Scope.mayMove_unknown hk
  | _ => exact Scope.mayMove_working k

theorem pumpFaultEvent_effects (hk : k ≠ .delivery) (p : PumpId) (ev : PointEvent) : Effects k s (pumpFaultEvent p ev s) := by
  unfold pumpFaultEvent
  split
  case h_1 | h_2 => exact .refl k s
  case h_3 hd hf =>
    split
    · exact pumpFault_effects (PumpMode.mayMove_of_live hk hd hf)
    · exact .refl k s

theorem pumpPointEvent_effects (hk : k ≠ .delivery) (p : PumpId) (ev : PointEvent) : Effects k s (pumpPointEvent p ev s) := by
  unfold pumpPointEvent
  simp only
  split
  · exact .refl k s
  · split
    · exact pumpFeedbackEvent_effects hk p ev
    · split
      · exact pumpFaultEvent_effects hk p ev
      · exact .refl k s

theorem pumpOutcome_effects (hk : k ≠ .delivery) (p : PumpId) (failed : Bool) (a b : Word) :
    Effects k s (pumpOutcome p failed a b s) := by
  unfold pumpOutcome
  split
  case h_1 | h_2 => exact .refl k s
  case h_3 hd hf =>
    split
    · exact pumpFault_effects (PumpMode.mayMove_of_live hk hd hf)
    · exact pumpConfirm_effects p

/-! ## Barriers -/

theorem modBarrier_effects_cause {b : BarrierId} {f : BarrierState → BarrierState}
    (h : k.MayMove ((s.barrier b).mode.condition 0)) (hf : ∀ t, (f t).mode = t.mode) (hh : ∀ t, (f t).headFault = t.headFault) :
    Effects k s (s.modBarrier b f) := by
  obtain hk | hw | ⟨hk, hu⟩ := h
  · exact modBarrier_effects (.of_sets hk _ _)
  all_goals
    refine modBarrier_effects (Scope.MayMove.kept (BarrierMode.mayMove_cause ?_) (fun hd => ?_) (hh _))
    · simp [Scope.MayMove, *]
    · rw [BarrierState.status, BarrierMode.condition_eq_disabled, hf] at hd
      simp_all [BarrierMode.condition]

theorem barrierFaultEnter_effects {b : BarrierId} {m : BarrierMode} {c : Nat} (h : k.MayMove ((s.barrier b).mode.condition 0))
    (hm : m ≠ .disabled) : Effects k s (barrierFaultEnter b m c s) :=
  .after (raiseNotice_effects (by decide)) (.after (barrierGo_effects (by simpa using h) hm)
    (.after (commandPoint_effects _ _) (.after (withdraw_effects _) (modBarrier_effects_cause h (fun _ => rfl) fun _ => rfl))))

theorem barrierFault_effects (b : BarrierId) {m : BarrierMode} (c : Nat) (hm : m ≠ .disabled) :
    Effects k s (barrierFault b m c s) := by
  unfold barrierFault
  split
  case h_6 h1 h2 h3 h4 h5 =>
    refine barrierFaultEnter_effects ?_ hm
    revert h1 h2 h3 h4 h5
    cases (s.barrier b).mode <;> simp [BarrierMode.condition]
  all_goals exact .refl k s

theorem stopTravel_mode (b : BarrierId) (s : State) : ((stopTravel b s).barrier b).mode = (s.barrier b).mode := by
  simp [stopTravel]

theorem reversalEnd_effects {b : BarrierId} (h : k.MayMove ((s.barrier b).mode.condition 0)) : Effects k s (reversalEnd b s) := by
  have h1 : k.MayMove (((stopTravel b s).barrier b).mode.condition 0) := stopTravel_mode b s ▸ h
  unfold reversalEnd
  simp only
  split
  · exact .after (barrierGo_effects (by simpa using h1) (by decide)) (.after (modBarrier_effects_same fun _ => rfl)
      (stopTravel_effects b))
  · split
    · exact .after (toClearing_effects (by simpa using h1)) (.after (modBarrier_effects_same fun _ => rfl) (stopTravel_effects b))
    · exact .after (barrierFaultEnter_effects (by simpa using h1) (by decide))
        (.after (modBarrier_effects_same fun _ => rfl) (stopTravel_effects b))

theorem movementEnd_effects (b : BarrierId) : Effects k s (movementEnd b s) := by
  unfold movementEnd
  simp only
  split
  case h_1 h =>
    split
    · exact .after (barrierGo_effects (by simp [stopTravel_mode, h, BarrierMode.condition]) (by decide))
        (.after (modBarrier_effects_same fun _ => rfl) (stopTravel_effects b))
    · exact .refl k s
  case h_2 h =>
    have h1 : Effects k s (barrierGo b .opened (stopTravel b s)) :=
      .after (barrierGo_effects (by simp [stopTravel_mode, h, BarrierMode.condition]) (by decide)) (stopTravel_effects b)
    split
    · split
      · exact .after (barrierEval_effects b) h1
      · exact h1
    · exact .refl k s
  case h_3 h =>
    split
    · exact reversalEnd_effects (by simp [h, BarrierMode.condition])
    · exact .refl k s
  case h_4 => exact .refl k s

theorem faultStateOf_ne_disabled (c : Nat) : faultStateOf c ≠ .disabled := by
  unfold faultStateOf
  repeat' split
  all_goals decide

theorem barrierDerive_effects {b : BarrierId} (h : k.MayMove ((s.barrier b).mode.condition 0)) :
    Effects k s (barrierDerive b s) := by
  unfold barrierDerive
  simp only
  repeat' split
  · exact barrierGo_effects h (faultStateOf_ne_disabled _)
  · exact barrierFaultEnter_effects h (by decide)
  · exact .after (barrierGo_effects (by simpa using h) (by decide)) (.after (commandPoint_effects _ _)
      (modBarrier_effects_same fun _ => rfl))
  · exact .after (barrierGo_effects (by simpa using h) (by decide)) (.after (commandPoint_effects _ _)
      (modBarrier_effects_same fun _ => rfl))
  · exact toClearing_effects h
  · exact .after (barrierPostStay_effects b 2) (barrierGo_effects h (by decide))

theorem barrierRederive_effects {b : BarrierId} (h : k.MayMove ((s.barrier b).mode.condition 0)) :
    Effects k s (barrierRederive b s) := by
  unfold barrierRederive
  split
  · exact .after (aspectJudge_effects _ _) (barrierDerive_effects h)
  · exact .refl k s

theorem barrierRederiveUnknown_effects (hk : k ≠ .delivery) (b : BarrierId) : Effects k s (barrierRederiveUnknown b s) := by
  unfold barrierRederiveUnknown
  split
  case isTrue h =>
    have h1 : Effects k s (barrierRederive b s) := barrierRederive_effects (h ▸ Scope.mayMove_unknown hk)
    simp only
    split
    case h_4 => exact h1
    all_goals
      split
      · exact .after (barrierEval_effects b) h1
      · exact h1
  case isFalse => exact .refl k s

theorem barrierPresence_effects (b : BarrierId) (ev : PointEvent) : Effects k s (barrierPresence b ev s) := by
  unfold barrierPresence
  simp only
  split
  case h_1 =>
    split
    · exact modBarrier_effects_same fun _ => rfl
    · split
      · exact modBarrier_effects_same fun _ => rfl
      · exact .refl k s
  case h_2 h =>
    split
    · exact .after (toClearingStopped_effects (by simp [h, BarrierMode.condition])) (withdraw_effects _)
    · exact .refl k s
  case h_3 h =>
    split
    · exact barrierMove_effects (by simp [h, BarrierMode.condition]) (by decide)
    · exact .refl k s
  case h_4 => exact .refl k s

theorem barrierPointEvent_effects (hk : k ≠ .delivery) (b : BarrierId) (ev : PointEvent) :
    Effects k s (barrierPointEvent b ev s) := by
  unfold barrierPointEvent
  simp only
  split
  · split
    case h_1 => exact .refl k s
    case h_2 =>
      split
      · exact barrierRederiveUnknown_effects hk b
      · exact .refl k s
    case h_3 =>
      split
      · exact barrierFault_effects b 3 (by decide)
      · split
        · exact barrierFault_effects b 4 (by decide)
        · split
          · exact .after (movementEnd_effects b) (barrierPresence_effects b ev)
          · exact barrierPresence_effects b ev
  · exact .refl k s

theorem barrierOutcome_effects (b : BarrierId) (failed : Bool) (x y : Word) : Effects k s (barrierOutcome b failed x y s) := by
  unfold barrierOutcome
  split
  · exact barrierFault_effects b 5 (by decide)
  · exact .refl k s

/-- Only a CONFIRMED command clears a fault flag. -/
theorem Scope.Kept.flag {a b : Status} (hc : b.condition = a.condition) (hf : k.clears = true ∨ b.flagged = true) :
    k.Kept a b := fun _ =>
  ⟨by rw [hc], fun _ _ h => hc.trans h, fun _ h => hc.trans h, fun ho _ => hf.resolve_left (by simp [ho])⟩

theorem headOutcome_effects {failed : Bool} (hk : k.clears = true ∨ failed = true) (b : BarrierId) (x y : Word) :
    Effects k s (headOutcome b failed x y s) := by
  unfold headOutcome
  split
  case isTrue => exact .after (raiseNotice_effects (by decide)) (modBarrier_effects (.flag rfl (.inr rfl)))
  case isFalse h =>
    have ho : k.clears = true := hk.resolve_right fun hf => h (by simp [hf])
    exact modBarrier_effects (.flag rfl (.inl ho))

/-! ## The gate -/

theorem modGate_effects_cause {f : GateState → GateState} (h : k.MayMove (s.gsq.gate.mode.condition 0))
    (hf : ∀ t, (f t).mode = t.mode) : Effects k s (s.modGate f) := by
  obtain hk | hw | ⟨hk, hu⟩ := h
  · exact modGate_effects (.of_sets hk _ _)
  all_goals
    refine modGate_effects (Scope.MayMove.kept (GateMode.mayMove_cause ?_) (fun hd => ?_) rfl)
    · simp [Scope.MayMove, *]
    · rw [GateState.status, GateMode.condition_eq_disabled, hf] at hd
      simp_all [GateMode.condition]

theorem gateFaultEnter_effects {c : Nat} (h : k.MayMove (s.gsq.gate.mode.condition 0)) : Effects k s (gateFaultEnter c s) :=
  .after (raiseNotice_effects (by decide)) (.after (gateGo_effects (by simpa using h) (by decide))
    (.after (commandPoint_effects _ _) (.after (withdraw_effects _) (modGate_effects_cause h fun _ => rfl))))

theorem gateFault_effects (c : Nat) : Effects k s (gateFault c s) := by
  unfold gateFault
  split
  case h_4 h1 h2 h3 =>
    refine gateFaultEnter_effects ?_
    revert h1 h2 h3
    cases s.gsq.gate.mode <;> simp [GateMode.condition]
  all_goals exact .refl k s

theorem gateStopTravel_effects : Effects k s (gateStopTravel s) :=
  .after (modGate_effects_same fun _ => rfl) (commandPoint_effects _ _)

theorem gateMovementEnd_effects : Effects k s (gateMovementEnd s) := by
  unfold gateMovementEnd
  split
  case h_1 h | h_2 h =>
    split
    · exact .after (gateGo_effects (by simp [gateStopTravel, h, GateMode.condition]) (by decide)) gateStopTravel_effects
    · exact .refl k s
  case h_3 => exact .refl k s

theorem gateDerive_effects (h : k.MayMove (s.gsq.gate.mode.condition 0)) : Effects k s (gateDerive s) := by
  unfold gateDerive
  simp only
  repeat' split
  · exact gateGo_effects h (by decide)
  · exact gateFaultEnter_effects h
  · exact .after (gateGo_effects (by simpa using h) (by decide)) (.after (commandPoint_effects _ _)
      (modGate_effects_same fun _ => rfl))
  · exact .after (gateGo_effects (by simpa using h) (by decide)) (.after (commandPoint_effects _ _)
      (modGate_effects_same fun _ => rfl))
  · exact .after (gatePostStay_effects 0) (gateGo_effects h (by decide))
  · exact .after (gatePostStay_effects 2) (gateGo_effects h (by decide))

theorem gateRederive_effects (h : k.MayMove (s.gsq.gate.mode.condition 0)) : Effects k s (gateRederive s) := by
  unfold gateRederive
  split
  · exact gateDerive_effects h
  · exact .refl k s

theorem gateRederiveUnknown_effects (hk : k ≠ .delivery) : Effects k s (gateRederiveUnknown s) := by
  unfold gateRederiveUnknown
  split
  case isTrue h =>
    have h1 : Effects k s (gateRederive s) := gateRederive_effects (h ▸ Scope.mayMove_unknown hk)
    simp only
    split
    case h_3 => exact h1
    all_goals
      split
      · exact .after gateEval_effects h1
      · exact h1
  case isFalse => exact .refl k s

theorem gatePointEvent_effects (hk : k ≠ .delivery) (ev : PointEvent) : Effects k s (gatePointEvent ev s) := by
  unfold gatePointEvent
  simp only
  split
  · split
    case h_1 => exact .refl k s
    case h_2 =>
      split
      · exact gateRederiveUnknown_effects hk
      · exact .refl k s
    case h_3 =>
      repeat' split
      · exact gateFault_effects 3
      · exact gateFault_effects 4
      · exact gateMovementEnd_effects
      · exact .refl k s
  · exact .refl k s

theorem gateOutcome_effects (failed : Bool) (x y : Word) : Effects k s (gateOutcome failed x y s) := by
  unfold gateOutcome
  split
  · exact gateFault_effects 5
  · exact .refl k s

/-! ## Zones -/

theorem zoneOutcome_effects {failed : Bool} (hk : k.clears = true ∨ failed = true) (z : ZoneId) (y : Word) :
    Effects k s (zoneOutcome z failed y s) := by
  unfold zoneOutcome
  simp only
  split
  case isTrue =>
    have h1 : Effects k s (s.modZone z fun t => { t with dimmerFault := true }) := modZone_effects (.flag rfl (.inr rfl))
    split
    · exact h1
    · exact .after (raiseNotice_effects (by decide)) h1
  case isFalse h =>
    have ho : k.clears = true := hk.resolve_right fun hf => h (by simp [hf])
    exact modZone_effects (.flag rfl (.inl ho))

/-! ## The delivery of point events and outcomes -/

theorem judgeSupply_effects : Effects k s (judgeSupply s) := by
  unfold judgeSupply
  simp only
  split
  · split
    · exact .refl k s
    · exact modLau_effects fun _ => rfl
  · split
    · exact .after (raiseNotice_effects (by decide)) (modLau_effects fun _ => rfl)
    · exact .after (modLau_effects fun _ => rfl) (.after (raiseNotice_effects (by decide)) (modLau_effects fun _ => rfl))

theorem keyJudge_effects : Effects k s (keyJudge s) := by
  unfold keyJudge
  simp only
  split
  · exact .refl k s
  · have h1 : ∀ data, Effects k s (raiseNotice 9 data
      (s.modCau fun c => { c with keyLocal := s.judgedLocal, keyChanged := true })) :=
      fun _ => .after (raiseNotice_effects (by decide)) (Effect.cau s _).effects
    split
    · exact .after (cancelOverrides_effects _) (h1 _)
    · exact h1 _

theorem lauPointEvent_effects (p : PointId) : Effects k s (lauPointEvent p s) := by
  unfold lauPointEvent
  simp only
  split
  · exact .after lauSettle_effects judgeSupply_effects
  · exact .refl k s

theorem cauPointEvent_effects (p : PointId) : Effects k s (cauPointEvent p s) := by
  unfold cauPointEvent
  split
  · exact keyJudge_effects
  · exact .refl k s

theorem pscPointEvent_effects (hk : k ≠ .delivery) (ev : PointEvent) : Effects k s (pscPointEvent ev s) :=
  eachDevice_effects _ _ fun p _ => pumpPointEvent_effects hk p ev

theorem gsqPointEvent_effects (hk : k ≠ .delivery) (ev : PointEvent) : Effects k s (gsqPointEvent ev s) :=
  .after lauSettle_effects (.after (gatePointEvent_effects hk ev)
    (eachDevice_effects _ _ fun b _ => barrierPointEvent_effects hk b ev))

theorem deliverEvent_effects (hk : k ≠ .delivery) (ev : PointEvent) : Effects k s (deliverEvent ev s) :=
  .after quiesce_effects (.after (gsqPointEvent_effects hk ev) (.after (pscPointEvent_effects hk ev)
    (.after (cauPointEvent_effects _) (lauPointEvent_effects _))))

theorem observe_effects (h : k.observes = true) (p : PointId) (v : Bool) (f : PointState → PointState) :
    Effects k s (observe p v f s) := by
  unfold observe
  simp only
  split
  · exact .after (deliverEvent_effects (Scope.ne_delivery_of_observes h) _) (modPoint_effects h p _)
  · exact modPoint_effects h p _

/-- A command outcome reaches the owner of its point: any where commands are CONFIRMED, a failure beyond a mere delivery. -/
theorem deliverOutcome_effects {failed : Bool} (hk : k ≠ .delivery) (ho : k.clears = true ∨ failed = true) (p : PointId) :
    Effects k s (deliverOutcome p failed s) := by
  unfold deliverOutcome
  simp only
  refine .after quiesce_effects ?_
  split
  · exact .refl k s
  · exact pumpOutcome_effects hk _ _ _ _
  · exact barrierOutcome_effects _ _ _ _
  · exact headOutcome_effects ho _ _ _
  · exact gateOutcome_effects _ _ _
  · exact zoneOutcome_effects ho _ _

theorem commandOutcome_effects {failed : Bool} (ho : k.observes = true ∨ k.fails = true ∧ failed = true) (p : PointId) :
    Effects k s (commandOutcome p failed s) := by
  have hfails : k.fails = true := ho.elim Scope.fails_of_observes And.left
  have hclears : k.clears = true ∨ failed = true := ho.imp Scope.clears_of_observes And.right
  unfold commandOutcome
  split
  · refine .after (deliverOutcome_effects (Scope.ne_delivery_of_fails hfails) hclears p) ?_
    cases failed with
    | true => exact (Effect.failed s p hfails).effects
    | false => exact modPoint_effects (ho.resolve_right (by simp)) p _
  · exact .refl k s

/-! ## Samples and echoes -/

theorem offerLevel_length (e : LevelEntry) {q : LevelQueue} (h : q.entries.length ≤ 4) : (offerLevel e q).entries.length ≤ 4 := by
  unfold offerLevel
  split
  · simp only [List.length_append, List.length_singleton]
    omega
  · exact h

theorem applySample_effects (h : k.observes = true) (p : PointId) (w : Word) (invalid : Bool) :
    Effects k s (applySample p w invalid s) := by
  unfold applySample
  simp only
  split
  case h_1 | h_2 => exact .refl k s
  case h_3 =>
    refine .after (observe_effects h p _ _) ?_
    split
    · exact .after (modQueue_effects h (offerLevel_length _)) (restartAge_effects h p)
    · exact restartAge_effects h p
  case h_5 =>
    split
    · exact .after (observe_effects h p _ _) (restartAge_effects h p)
    · exact .after (observe_effects h p _ _) (restartAge_effects h p)
  all_goals exact .after (observe_effects h p _ _) (restartAge_effects h p)

theorem applyEcho_effects (h : k.observes = true) (p : PointId) (w : Word) : Effects k s (applyEcho p w s) := by
  unfold applyEcho
  split
  · exact .after (observe_effects h p _ _) (restartAge_effects h p)
  · exact .refl k s

theorem applyValues_effects (h : k.observes = true) (quality : Word) (l : List (Lookup × Word)) (i : Nat) :
    Effects k s (applyValues quality i l s) := by
  induction l generalizing i s with
  | nil => exact .refl k s
  | cons x l ih =>
    refine .after (ih (i + 1)) ?_
    split
    · exact applySample_effects h _ _ _
    · exact .refl k s

theorem observeValue_effects (h : k.observes = true) (f : Frame) : Effects k s (observeValue f s) :=
  .after (applyValues_effects h _ _ _) (lookups_effects ..)

theorem observeEcho_effects (h : k.observes = true) (f : Frame) : Effects k s (observeEcho f s) := by
  unfold observeEcho
  refine .after (foldl_effects _ _ (fun s x => ?_) _) (lookups_effects ..)
  split
  · exact applyEcho_effects h _ _
  · exact .refl k s

theorem freshnessExpiry_effects (h : k.observes = true) (p : PointId) : Effects k s (freshnessExpiry p s) := by
  unfold freshnessExpiry
  simp only
  split
  · exact .after (observe_effects h p _ _) (modPoint_effects h p _)
  · exact modPoint_effects h p _

end Sys2Proof.Machine
end

section
/-! SUPPORT. The effects of evaluations, of the control hold, of a completion of a DRAINAGE CYCLE and of the re-derivations. -/

set_option Elab.async false

namespace Sys2Proof.Machine

variable {k : Scope} {s : State}

/-! ## Zones -/

theorem zoneTarget_effects (z : ZoneId) : Effects k s (zoneTarget z s) := modZone_effects_same fun _ => rfl

theorem reserveCheck_effects (z : ZoneId) : Effects k s (reserveCheck z s) := by
  refine modZone_effects_same fun t => ?_
  split
  · split <;> rfl
  · rfl

theorem zoneRamp_effects (z : ZoneId) : Effects k s (zoneRamp z s) := by
  unfold zoneRamp
  simp only
  split
  · exact .refl k s
  · exact commandLevel_effects z _

@[simp] theorem modLau_zone (f : Lau → Lau) (s : State) (z : ZoneId) : (s.modLau f).zone z = s.zone z := rfl

theorem restorationUpdate_effects {z : ZoneId} (h : k.MayMove (s.zone z).mode.condition) :
    Effects k s (restorationUpdate z s) := by
  unfold restorationUpdate
  simp only
  split
  · exact .after (modZone_effects_mode (by simpa using h) (fun _ => nofun) fun _ => rfl) (withdraw_effects _)
  · split
    · split
      · exact .refl k s
      · exact post_effects ..
    · exact .refl k s

theorem zoneRederive_effects {z : ZoneId} (h : k.MayMove (s.zone z).mode.condition) : Effects k s (zoneRederive z s) := by
  unfold zoneRederive
  simp only
  split
  all_goals exact .after (zoneReport_effects z) (.after (commandLevel_effects z _)
    (.after (modZone_effects_mode (by simpa using h) (fun _ => nofun) fun _ => rfl) (modZone_effects_same fun _ => rfl)))

theorem dimmerRetry_effects (z : ZoneId) (n : Nat) : Effects k s (dimmerRetry z n s) := by
  unfold dimmerRetry
  simp only
  split
  · split
    · exact dimRequest_effects z
    · exact modZone_effects_same fun _ => rfl
  · exact .refl k s

theorem lampJudge_effects (z : ZoneId) : Effects k s (lampJudge z s) := by
  unfold lampJudge
  simp only
  repeat' split
  · exact .refl k s
  · exact modZone_effects_same fun _ => rfl
  · exact modZone_effects_same fun _ => rfl
  · exact .after (raiseNotice_effects (by decide)) (modZone_effects_same fun _ => rfl)
  · exact .after (raiseNotice_effects (by decide)) (modZone_effects_same fun _ => rfl)

theorem zoneAct_effects (hk : k ≠ .delivery) (z : ZoneId) : Effects k s (zoneAct z s) := by
  unfold zoneAct
  split
  · split
    case h_1 => exact .refl k s
    case h_2 h => exact zoneRederive_effects (h ▸ Scope.mayMove_unknown hk)
    case h_3 => exact .after (dimmerRetry_effects z _) (zoneRamp_effects z)
    case h_4 h =>
      refine .after (dimmerRetry_effects z _) ?_
      split
      · exact .refl k s
      · exact restorationPost_effects (by simp [h, ZoneMode.condition])
    case h_5 h => exact .after (dimmerRetry_effects z _) (restorationUpdate_effects (by simp [h, ZoneMode.condition]))
  · exact .refl k s

theorem zoneEval_effects (hk : k ≠ .delivery) (acting : Bool) (z : ZoneId) : Effects k s (zoneEval acting z s) := by
  have h1 : Effects k s (reserveCheck z (zoneTarget z s)) := .after (reserveCheck_effects z) (zoneTarget_effects z)
  unfold zoneEval
  simp only
  split
  · exact .refl k s
  · refine .after (zoneReport_effects z) (.after (reserveCheck_effects z) ?_)
    split
    · exact .after (lampJudge_effects z) (.after (reserveCheck_effects z) (.after (zoneAct_effects hk z) h1))
    · exact h1

theorem ltuEvaluate_effects (hk : k ≠ .delivery) (acting : Bool) : Effects k s (ltuEvaluate acting s) :=
  eachDevice_effects _ _ fun z _ => zoneEval_effects hk acting z

theorem zoneUnquench_effects (hk : k ≠ .delivery) (z : ZoneId) : Effects k s (zoneUnquench z s) := by
  unfold zoneUnquench
  split
  case isTrue h =>
    obtain ⟨hu, -⟩ := h
    exact zoneRederive_effects (hu ▸ Scope.mayMove_unknown hk)
  case isFalse => exact .refl k s

/-! ## The re-derivation signal of UNQUENCH -/

theorem pscUnquench_effects (hk : k ≠ .delivery) : Effects k s (pscUnquench s) :=
  eachDevice_effects _ _ fun p _ => pumpRederive_effects hk p

theorem gsqUnquench_effects (hk : k ≠ .delivery) : Effects k s (gsqUnquench s) :=
  .after lauSettle_effects (.after (gateRederiveUnknown_effects hk)
    (eachDevice_effects _ _ fun b _ => barrierRederiveUnknown_effects hk b))

theorem ltuUnquench_effects (hk : k ≠ .delivery) : Effects k s (ltuUnquench s) :=
  eachDevice_effects _ _ fun z _ => zoneUnquench_effects hk z

/-! ## The control hold -/

theorem barrierHold_effects (b : BarrierId) : Effects k s (barrierHold b s) := modBarrier_effects_same fun _ => rfl

theorem gsqHold_effects : Effects k s (gsqHold s) :=
  .after (modGate_effects_same fun _ => rfl) (foldl_effects _ _ (fun _ b => barrierHold_effects b) s)

theorem setHold_effects (h : HoldState) : Effects k s (setHold h s) := by
  unfold setHold
  simp only
  split
  · exact .after gsqHold_effects (.after (modPsc_effects fun _ => rfl) (modStc_effects _))
  · exact .after (modPsc_effects fun _ => rfl) (modStc_effects _)

theorem pumpHoldFirst_effects (p : PumpId) : Effects k s (pumpHoldFirst p s) := by
  unfold pumpHoldFirst
  simp only
  split
  case isTrue h =>
    obtain ⟨hr, -⟩ := h
    exact .after (pumpGo_effects (by simp [hr, PumpMode.condition]) (by decide)) (modPump_effects_same fun _ => rfl)
  case isFalse =>
    split
    · exact commandPoint_effects _ _
    · exact .refl k s

theorem pumpHoldSecond_effects (hk : k ≠ .delivery) (p : PumpId) : Effects k s (pumpHoldSecond p s) := by
  unfold pumpHoldSecond
  split
  case h_1 h | h_2 h =>
    split
    · exact pumpFoundRunning_effects (by simp [h, PumpMode.condition])
    · exact .refl k s
  case h_3 => exact pumpRederive_effects hk p
  case h_4 => exact .refl k s

theorem pscHoldLeave_effects (hk : k ≠ .delivery) : Effects k s (pscHoldLeave s) :=
  .after (eachDevice_effects _ _ fun p _ => pumpHoldSecond_effects hk p) (eachDevice_effects _ _ fun p _ => pumpHoldFirst_effects p)

theorem barrierHoldLeave_effects (hk : k.sets = true) (b : BarrierId) : Effects k s (barrierHoldLeave b s) := by
  unfold barrierHoldLeave
  split
  · split
    · exact .after (barrierRederive_effects (.inl hk)) (.after lauSettle_effects
        (.after (modBarrier_effects_same fun _ => rfl) (withdraw_effects _)))
    · exact modBarrier_effects_same fun _ => rfl
  · exact .refl k s

theorem gateHoldLeave_effects (hk : k.sets = true) : Effects k s (gateHoldLeave s) := by
  unfold gateHoldLeave
  split
  case h_5 => exact .refl k s
  all_goals
    split
    · exact .after (gateRederive_effects (.inl hk)) (.after lauSettle_effects
        (.after (modGate_effects_same fun _ => rfl) (withdraw_effects _)))
    · exact modGate_effects_same fun _ => rfl

theorem zoneHoldLeave_effects (hk : k.sets = true) (z : ZoneId) : Effects k s (zoneHoldLeave z s) := by
  unfold zoneHoldLeave
  split
  · exact .refl k s
  · exact .after (zoneRederive_effects (.inl hk)) (.after lauSettle_effects (withdraw_effects _))

theorem gsqHoldLeave_effects (hk : k.sets = true) : Effects k s (gsqHoldLeave s) :=
  .after lauSettle_effects (.after (gateHoldLeave_effects hk) (eachDevice_effects _ _ fun b _ => barrierHoldLeave_effects hk b))

theorem ltuHoldLeave_effects (hk : k.sets = true) : Effects k s (ltuHoldLeave s) :=
  eachDevice_effects _ _ fun z _ => zoneHoldLeave_effects hk z

theorem Scope.ne_delivery_of_sets (hk : k.sets = true) : k ≠ .delivery :=
  Scope.ne_delivery_of_observes (Scope.observes_of_sets hk)

theorem rederiveAll_effects (hk : k.sets = true) : Effects k s (rederiveAll s) :=
  .after quiesce_effects (.after (ltuHoldLeave_effects hk) (.after (gsqHoldLeave_effects hk)
    (.after (pscHoldLeave_effects (Scope.ne_delivery_of_sets hk)) (.after lauSettle_effects (modLau_effects fun _ => rfl)))))

theorem breakHeld_effects (hk : k.sets = true) (d : SumpData) : Effects k s (breakHeld d s) :=
  .after (raiseNotice_effects (by decide)) (.after (stageTo_effects _ _) (.after (rederiveAll_effects hk)
    (.after (setHold_effects _) (modStc_effects _))))

theorem breakStepping_effects (d : SumpData) : Effects k s (breakStepping d s) := by
  unfold breakStepping
  simp only
  repeat' split
  · exact .refl k s
  · exact .after (raiseNotice_effects (by decide)) (modStc_effects _)
  · exact .after (raiseNotice_effects (by decide)) (.after (stageTo_effects _ _) (modStc_effects _))
  · exact .refl k s

/-! ## The Stage Controller -/

theorem evaluateBelow_effects (d : Stage) (c : Cause) : Effects k s (evaluateBelow d c s) := by
  unfold evaluateBelow
  simp only
  repeat' split
  · exact stageTo_effects _ _
  · exact modStc_effects _
  · exact stageTo_effects _ _
  · exact modStc_effects _
  · exact modStc_effects _

theorem reopenJudge_effects (d : Stage) : Effects k s (reopenJudge d s) := by
  unfold reopenJudge
  exact modStc_effects _

theorem stageEvaluate_effects : Effects k s (stageEvaluate s) := by
  unfold stageEvaluate
  simp only
  repeat' split
  · exact .after (evaluateBelow_effects _ _) (modStc_effects _)
  · exact .after (evaluateBelow_effects _ _) (modStc_effects _)
  · exact .after (evaluateBelow_effects _ _) (modStc_effects _)
  · exact modStc_effects _
  · exact .after (reopenJudge_effects _) (modStc_effects _)
  · exact .after (stageTo_effects _ _) (modStc_effects _)
  · exact modStc_effects _

theorem derive_effects : Effects k s (derive s) := by
  unfold derive
  simp only
  repeat' split
  · exact .after (stageTo_effects _ _) (modStc_effects _)
  · exact .after (stageTo_effects _ _) (modStc_effects _)
  · exact modStc_effects _
  · exact .after (stageTo_effects _ _) (modStc_effects _)
  · exact .refl k s

theorem descend_effects : Effects k s (descend s) := by
  unfold descend
  simp only
  repeat' split
  · exact .after (modStc_effects _) (.after (stageTo_effects _ _) (modStc_effects _))
  · exact .after (stageTo_effects _ _) (modStc_effects _)
  · exact .after (modStc_effects _) (.after (stageTo_effects _ _) (modStc_effects _))
  · exact .after (stageTo_effects _ _) (modStc_effects _)
  · exact modStc_effects _

theorem stcCompletion_effects (hk : k.sets = true) : Effects k s (stcCompletion s) := by
  unfold stcCompletion
  repeat' split
  · exact derive_effects
  · exact setHold_effects _
  · exact stageEvaluate_effects
  · exact breakHeld_effects hk _
  · exact .refl k s
  · exact breakStepping_effects _
  · exact .refl k s

/-! ## The completion of a DRAINAGE CYCLE -/

theorem completionEvent_effects (hk : k.sets = true) (d : List SumpData) : Effects k s (completionEvent d s) := by
  have hpsc : Effects k s (pscData d (quiesce (stcCompletion (s.modStc fun c => { c with data := some d })))) :=
    .after (modPsc_effects fun _ => rfl) (.after quiesce_effects (.after (stcCompletion_effects hk) (modStc_effects _)))
  have hgsq : ∀ t : State, Effects k t (t.modGsq fun c => { c with data := some d }) := fun t =>
    (Effect.gsq t _ (fun _ => .refl k _) (.refl k _)).effects
  refine .after quiesce_effects (.ite (.after gsqEvaluate_effects ?_) ?_)
  all_goals exact .after (hgsq _) (.after quiesce_effects (.ite (.after pscEvaluate_effects hpsc) hpsc))

theorem completeSump_effects (c : Cycle) (i : SumpId) : Effects k s (completeSump c i s) := by
  unfold completeSump
  simp only
  split
  · exact .after (raiseNotice_effects (by decide)) (Effect.sau s _).effects
  · exact (Effect.sau s _).effects

theorem cycleCompute_effects (hk : k.sets = true) (c : Cycle) : Effects k s (cycleCompute c s) :=
  .after (completionEvent_effects hk _) (.after (foldl_effects _ _ (fun _ i => completeSump_effects c i) _)
    (Effect.sau s _).effects)

theorem drainQueue_length (m : ErrorMode) (q : LevelQueue) : (drainQueue m q).2.entries.length = 0 := by
  cases m <;> rfl

theorem drainPoint_effects (hk : k.observes = true) (p : PointId) : Effects k s (drainPoint p s).2 := by
  unfold drainPoint
  simp only
  split
  · exact .refl k s
  · refine (modQueue_effects hk fun _ => ?_ : Effects k s (s.modQueue _ fun _ => (drainQueue _ _).2))
    rw [drainQueue_length]
    omega

theorem drainPoints_effects (hk : k.observes = true) (l : List PointId) : Effects k s (drainPoints l s).2 := by
  induction l generalizing s with
  | nil => exact .refl k s
  | cons p l ih => exact .after ih (drainPoint_effects hk p)

theorem cycleStart_effects (hk : k.observes = true) : Effects k s (cycleStart s) := by
  unfold cycleStart
  simp only
  split
  · exact .refl k s
  · exact .after (Effect.sau _ _).effects (.after (foldl_effects _ _ (fun s _ => (Effect.sau s _).effects) _)
      (drainPoints_effects hk _))

end Sys2Proof.Machine
end

section
/-! SUPPORT. The effects of the management operations and of the expiries of the part's timers. -/

set_option Elab.async false

namespace Sys2Proof.Machine

variable {s : State}

/-! ## Answers, settings and the clock -/

theorem offerUp_effects (e : UpEntry) : Effects .operation s (offerUp e s) := (Effect.offer s e rfl).effects
theorem answer_effects (tag : Tag) (code status : Nat) (data : List Word) : Effects .operation s (answer tag code status data s) :=
  offerUp_effects _
theorem refuse_effects (w : Frame) (reason : Nat) : Effects .operation s (refuse w reason s) := offerUp_effects _
theorem modCfg_effects (f : Tables → Tables) : Effects .operation s (s.modCfg f) := (Effect.cfg s f rfl).effects
theorem modMgu_effects (f : Mgu → Mgu) : Effects .operation s (s.modMgu f) := (Effect.mgu s f rfl).effects
theorem modSau_effects (f : Sau → Sau) : Effects .operation s (s.modSau f) := (Effect.sau s f).effects
theorem modCau_effects (f : Cau → Cau) : Effects .operation s (s.modCau f) := (Effect.cau s f).effects
theorem nextFree_effects : Effects .operation s s.nextFree := (Effect.clock s s.now (s.free + 1) rfl).effects
theorem advance_effects (n : Nat) : Effects .operation s (s.advance n) := (Effect.clock s (max s.now n) s.free rfl).effects

/-- The state in the answer of an operation without data, and with data. -/
theorem Effects.snd {α : Type} {a : α} {k : Scope} {t : State} (h : Effects k s t) : Effects k s (a, t).2 := h
theorem Effects.third {α β : Type} {a : α} {b : β} {k : Scope} {t : State} (h : Effects k s t) : Effects k s (a, b, t).2.2 := h

theorem Effects.iteSnd {α : Type} {c : Prop} [Decidable c] {x y : α × State} {k : Scope} (h : Effects k s x.2)
    (g : Effects k s y.2) : Effects k s (if c then x else y).2 := by
  split
  · exact h
  · exact g

theorem onExpiry_effects {t : Timer} {act : State → State} (h : ∀ s, Effects .operation s (act s)) :
    Effects .operation s (onExpiry t s act) := by
  unfold onExpiry
  split
  · exact .after (h _) (advance_effects _)
  · exact .refl _ s

theorem takeOp_effects {tag : Tag} {code : Nat} {stored : Bool} {act : State → State} (h : Effects .operation s (act s)) :
    Effects .operation s (takeOp tag code stored act s) := .ite (answer_effects ..) h

theorem configure_effects {tag : Tag} {code : Nat} {op : State → Nat × State} (h : Effects .operation s (op s).2) :
    Effects .operation s (configure tag code op s) := takeOp_effects (.after (answer_effects ..) h)

theorem takeData_effects {tag : Tag} {code : Nat} {stored : Bool} {op : State → Nat × List Word × State}
    (h : Effects .operation s (op s).2.2) : Effects .operation s (takeOp tag code stored (fun s => replyData tag code (op s)) s) :=
  takeOp_effects (.after (answer_effects ..) h)

theorem modPoint_operation (p : PointId) (f : PointState → PointState) : Effects .operation s (s.modPoint p f) :=
  modPoint_effects rfl p f

/-! ## Maps -/

theorem writePinned_effects (i : Fin 16) (f : MapFields) : Effects .operation s (writePinned i f s) :=
  .after (putEntry_effects _ _) (foldl_effects _ _ (fun _ _ => putEntry_effects _ _) s)

theorem writeSet_effects (i : Fin 128) (w : Fin 2) (f : MapFields) : Effects .operation s (writeSet i w f s) := by
  unfold writeSet
  exact .after (putEntry_effects _ _) (.ite (putEntry_effects _ _) (.refl _ s))

theorem placeSet_effects (f : MapFields) : Effects .operation s (placeSet f s).2 := by
  unfold placeSet
  simp only
  repeat' split
  case isFalse.isFalse.isFalse.isFalse.isFalse.isFalse =>
    exact .snd (.after (putEntry_effects _ _) (.after (putEntry_effects _ _) (putEntry_effects _ _)))
  all_goals exact .snd (putEntry_effects _ _)

theorem placePinned_effects {f : MapFields} {r : MapLoc × State} (h : placePinned f s = some r) : Effects .operation s r.2 := by
  unfold placePinned at h
  simp only at h
  split at h
  · exact Option.some.inj h ▸ .snd (.after (putEntry_effects _ _) (foldl_effects _ _ (fun _ _ => by exact putEntry_effects _ _) s))
  · split at h
    · exact Option.some.inj h ▸ .snd (putEntry_effects _ _)
    · split at h
      · exact Option.some.inj h ▸ .snd (putEntry_effects _ _)
      · split at h
        · exact Option.some.inj h ▸ .snd (.after (putEntry_effects _ _) (modPmu_effects _))
        · cases h

theorem mapWriteOp_effects (ops : List Word) : Effects .operation s (mapWriteOp ops s).2.2 := by
  unfold mapWriteOp
  split
  · exact .refl _ s
  · split
    · exact putEntry_effects _ _
    · exact writePinned_effects _ _
    · split
      · exact placePinned_effects ‹_›
      · exact .refl _ s
    · split
      · exact writeSet_effects _ _ _
      · exact .refl _ s
    · exact placeSet_effects _

theorem mapReadOp_effects (ops : List Word) : Effects .operation s (mapReadOp ops s).2.2 := by
  unfold mapReadOp
  split <;> exact .refl _ s

theorem demapKeyOp_effects (ops : List Word) : Effects .operation s (demapKeyOp ops s).2.2 := by
  unfold demapKeyOp
  split
  · exact (invalidateAll_traces _).effects
  · exact .refl _ s

theorem demap_effects (p q : MapFields → Bool) : Effects .operation s (demap p q s).2 := by
  unfold demap
  exact .snd (modPmu_effects _)

theorem demapPlanOp_effects (ops : List Word) : Effects .operation s (demapPlanOp ops s).2.2 := by
  unfold demapPlanOp
  split
  · exact .third (demap_effects _ _)
  · exact .refl _ s

theorem demapAllOp_effects : Effects .operation s (demapAllOp s).2.2 := .third (demap_effects _ _)

theorem missGetOp_effects (ops : List Word) : Effects .operation s (missGetOp ops s).2.2 := by
  unfold missGetOp
  split
  · exact .ite (modPmu_effects _) (.refl _ s)
  · exact .refl _ s

theorem faultGetOp_effects (ops : List Word) : Effects .operation s (faultGetOp ops s).2.2 := by
  unfold faultGetOp
  split
  · exact .ite (modPmu_effects _) (.refl _ s)
  · exact .refl _ s

theorem storageFault_effects (l : MapLoc) (flips : BitVec 24) : Effects .operation s (storageFault l flips s) :=
  putEntry_effects l _

/-! ## Points and the scan -/

theorem modQueue_empty_effects (q : QueueId) : Effects .operation s (s.modQueue q fun _ => {}) :=
  modQueue_effects rfl fun _ => Nat.zero_le _

theorem changeKind_effects (p : PointId) (c : PointCfg) : Effects .operation s (changeKind p c s) := by
  unfold changeKind
  simp only
  refine .after (deliverEvent_effects Scope.noConfusion _) (.after (modPoint_operation p _) ?_)
  split
  · refine .after (modQueue_empty_effects _) ?_
    split
    · exact .after (modQueue_empty_effects _) (modCfg_effects _)
    · exact modCfg_effects _
  · split
    · exact .after (modQueue_empty_effects _) (modCfg_effects _)
    · exact modCfg_effects _

theorem pointSetOp_effects (ops : List Word) : Effects .operation s (pointSetOp ops s).2 := by
  unfold pointSetOp
  simp only
  repeat' split
  · exact .refl _ s
  · exact .refl _ s
  · exact .refl _ s
  · exact .snd (modCfg_effects _)
  · exact .snd (changeKind_effects _ _)

theorem pointGetOp_effects (ops : List Word) : Effects .operation s (pointGetOp ops s).2.2 := by
  unfold pointGetOp
  split
  · exact .third (.after (modPoint_operation _ _) nextFree_effects)
  · exact .refl _ s

/-- An update of the PIM that leaves the level sample queues alone. -/
theorem modPim_effects {f : Pim → Pim} (h : ∀ m, (f m).queues = m.queues) : Effects .operation s (s.modPim f) :=
  (Effect.pim s f rfl fun _ hq => by rwa [h]).effects

theorem startDue_effects (e : ScanId) : Effects .operation s (startDue e s) := modPim_effects fun _ => rfl

theorem scanSetOp_effects (ops : List Word) : Effects .operation s (scanSetOp ops s).2 := by
  unfold scanSetOp
  split
  · exact .refl _ s
  · exact .ite (.after (startDue_effects _) (modCfg_effects _)) (.after (modPim_effects fun _ => rfl) (modCfg_effects _))

/-! ## Sumps, STAGE, supply, line -/

theorem sumpSetOp_effects (ops : List Word) : Effects .operation s (sumpSetOp ops s).2 := by
  unfold sumpSetOp
  split
  · exact .refl _ s
  · split
    · exact .snd (.ite (.after (modSau_effects _) (modCfg_effects _))
        (.after (modPsc_effects fun _ => rfl) (.after (modSau_effects _) (modCfg_effects _))))
    · exact .refl _ s

theorem geometrySetOp_effects (ops : List Word) : Effects .operation s (geometrySetOp ops s).2 := by
  unfold geometrySetOp
  split
  · exact .refl _ s
  · exact .snd (.after (modSau_effects _) (modCfg_effects _))

theorem stageSetOp_effects (ops : List Word) : Effects .operation s (stageSetOp ops s).2 := by
  unfold stageSetOp
  repeat' split
  · exact .refl _ s
  · exact .snd (modCfg_effects _)
  · exact .refl _ s
  · exact .snd (modCfg_effects _)
  · exact .refl _ s

theorem planSetOp_effects (ops : List Word) : Effects .operation s (planSetOp ops s).2 := by
  unfold planSetOp
  split
  · exact .snd (modCfg_effects _)
  · exact .refl _ s

theorem lineSetOp_effects (ops : List Word) : Effects .operation s (lineSetOp ops s).2 := by
  unfold lineSetOp
  split
  · exact .snd (modCfg_effects _)
  · exact .refl _ s

theorem curveSetOp_effects (ops : List Word) : Effects .operation s (curveSetOp ops s).2 := by
  unfold curveSetOp
  split
  · exact .snd (modCfg_effects _)
  · exact .refl _ s

theorem supplySetOp_effects (ops : List Word) : Effects .operation s (supplySetOp ops s).2 := by
  unfold supplySetOp
  simp only
  repeat' split
  · exact .refl _ s
  · exact .after keyJudge_effects (.after judgeSupply_effects (.after (modLau_effects fun _ => rfl) (modCfg_effects _)))
  · exact .refl _ s

/-! ## Devices -/

theorem removeOverride_effects (p : PointId) (o : Owner) (c : OverrideCause) : Effects .operation s (removeOverride p o c s) :=
  .ite (.after (emit_effects _) (modCau_effects _)) (.refl _ s)

theorem releasePoint_effects (o : Owner) (p : PointId) : Effects .operation s (releasePoint o p s) := by
  have h1 := removeOverride_effects (s := s) p o .reconfigured
  unfold releasePoint
  simp only
  split
  · split
    · exact .after (Effect.purge _ p rfl).effects h1
    · exact .after (modPoint_operation p _) (.after (Effect.purge _ p rfl).effects h1)
  · exact h1

theorem releaseRole_effects (o : Owner) (x y : Bool) (old new : Option PointId) :
    Effects .operation s (releaseRole o x y old new s) := by
  unfold releaseRole
  split
  · exact .ite (releasePoint_effects _ _) (.refl _ s)
  · exact .refl _ s

theorem dutyLeave_effects (k : SumpId) (p : PumpId) : Effects .operation s (dutyLeave k p s) := modPsc_effects fun _ => rfl

theorem dutyAfter_effects (p : PumpId) (old new : PumpCfg) : Effects .operation s (dutyAfter p old new s) :=
  .ite (dutyLeave_effects _ p) (.ite (.after (dutyToTail_effects _ p) (dutyLeave_effects _ p)) (.refl _ s))

theorem pumpGo_operation (p : PumpId) (m : PumpMode) : Effects .operation s (pumpGo p m s) :=
  pumpGo_effects_of_kept (.of_sets rfl _ _)
theorem barrierGo_operation (b : BarrierId) (m : BarrierMode) : Effects .operation s (barrierGo b m s) :=
  barrierGo_effects_of_kept (.of_sets rfl _ _)
theorem gateGo_operation (m : GateMode) : Effects .operation s (gateGo m s) := gateGo_effects_of_kept (.of_sets rfl _ _)

theorem pumpSetOp_effects (ops : List Word) : Effects .operation s (pumpSetOp ops s).2 := by
  unfold pumpSetOp
  split
  · exact .refl _ s
  · rename_i p c h
    have h3 : Effects .operation s ((dutyAfter p (s.pumpCfg p) c (releaseRole (.pump p) (s.pumpCfg p).enable c.enable
        (s.pumpCfg p).runPoint c.runPoint (s.modCfg fun t => { t with pumps := Tab.put t.pumps p c }))).modPump p
          fun t => { t with postDeferred := false }) :=
      .after (modPump_effects_same fun _ => rfl)
        (.after (dutyAfter_effects p _ c) (.after (releaseRole_effects _ _ _ _ _) (modCfg_effects _)))
    simp only
    split
    · exact .refl _ s
    · split
      case h_6 =>
        exact .ite (.after (pumpGo_operation p _) h3)
          (.ite h3 (.after (pumpRederive_effects Scope.noConfusion p) (.after (pumpGo_operation p _) h3)))
      all_goals exact .refl _ s

theorem pumpingSetOp_effects (ops : List Word) : Effects .operation s (pumpingSetOp ops s).2 := by
  unfold pumpingSetOp
  repeat' split
  · exact .refl _ s
  · exact .refl _ s
  · exact .snd (.after (modPsc_effects fun _ => rfl) (modCfg_effects _))

theorem barrierSetOp_effects (ops : List Word) : Effects .operation s (barrierSetOp ops s).2 := by
  unfold barrierSetOp
  split
  · exact .refl _ s
  · rename_i b c h
    have h2 : Effects .operation s (releaseRole (.signal b) (s.barrierCfg b).enable c.enable (s.barrierCfg b).head c.head
        (releaseRole (.barrier b) (s.barrierCfg b).enable c.enable (s.barrierCfg b).drive c.drive
          (s.modCfg fun t => { t with barriers := Tab.put t.barriers b c }))) :=
      .after (releaseRole_effects _ _ _ _ _) (.after (releaseRole_effects _ _ _ _ _) (modCfg_effects _))
    have halt : ∀ t, Effects .operation t ((withdraw (.barrier b) t).modBarrier b fun t =>
        { t with warnTimer := .stopped, clearTimer := .stopped, travelTimer := .stopped, postDeferred := false }) := fun _ =>
      .after (modBarrier_effects_same fun _ => rfl) (withdraw_effects _)
    have h3 : Effects .operation s (if (s.barrierCfg b).head = c.head then _ else _) :=
      .ite h2 (.after (modBarrier_effects_same (b := b) (f := fun t => { t with aspectSent := none }) fun _ => rfl) h2)
    simp only
    split
    · exact .refl _ s
    · split
      · exact .refl _ s
      · exact .ite (.after (barrierGo_operation b _) (.after (halt _) h3)) (.ite (.after summaryReport_effects h3)
          (.after (barrierRederiveUnknown_effects Scope.noConfusion b)
            (.after lauSettle_effects (.after (barrierGo_operation b _) (.after (halt _) h3)))))

theorem gateSetOp_effects (ops : List Word) : Effects .operation s (gateSetOp ops s).2 := by
  unfold gateSetOp
  split
  · exact .refl _ s
  · rename_i c h
    have h1 : Effects .operation s (releaseRole .gate s.cfg.gate.enable c.enable s.cfg.gate.drive c.drive
        (s.modCfg fun t => { t with gate := c })) := .after (releaseRole_effects _ _ _ _ _) (modCfg_effects _)
    have halt : ∀ t, Effects .operation t ((withdraw .gate t).modGate fun g =>
        { g with dwellTimer := .stopped, travelTimer := .stopped, postDeferred := false }) := fun _ =>
      .after (modGate_effects_same fun _ => rfl) (withdraw_effects _)
    simp only
    split
    · exact .refl _ s
    · split
      · exact .refl _ s
      · exact .ite (.after (gateGo_operation _) (.after (halt _) h1)) (.ite h1
          (.after (gateRederiveUnknown_effects Scope.noConfusion)
            (.after lauSettle_effects (.after (gateGo_operation _) (.after (halt _) h1)))))

theorem zoneSetOp_effects (ops : List Word) : Effects .operation s (zoneSetOp ops s).2 := by
  unfold zoneSetOp
  split
  · exact .refl _ s
  · rename_i z c h
    have h3 : Effects .operation s (lauSettle ((withdraw (.zone z) (releaseRole (.zone z) (s.zoneCfg z).enable c.enable
        (s.zoneCfg z).dim c.dim (s.modCfg fun t => { t with zones := Tab.put t.zones z c }))).modZone z fun t =>
          { t with mode := if c.enable then .unknown else .disabled, postDeferred := false, reserve := none, faultCounter := 0 })) :=
      .after lauSettle_effects (.after (modZone_effects (.of_sets rfl _ _))
        (.after (withdraw_effects _) (.after (releaseRole_effects _ _ _ _ _) (modCfg_effects _))))
    simp only
    split
    · exact .refl _ s
    · exact .after (zoneReport_effects z) (.ite (.after (zoneRederive_effects (.inl rfl)) h3) h3)

theorem pumpResetOp_effects (ops : List Word) : Effects .operation s (pumpResetOp ops s).2 := by
  unfold pumpResetOp
  split
  · exact .refl _ s
  · exact .iteSnd (.snd (.after (pumpSettle_effects (.inl rfl)) (modPump_effects (.of_sets rfl _ _)))) (.refl _ s)

theorem barrierResetOne_effects (b : BarrierId) : Effects .operation s (barrierResetOne b s).2 := by
  have h1 : Effects .operation s (barrierRederive b (s.modBarrier b fun t => { t with fault := 0, reversals := 0 })) :=
    .after (barrierRederive_effects (.inl rfl)) (modBarrier_effects (.of_sets rfl _ _))
  unfold barrierResetOne
  simp only
  split
  · split
    · exact .ite (.after (barrierEval_effects b) h1) h1
    · exact .refl _ s
  · split
    · exact .refl _ s
    · exact .ite (aspectJudge_effects _ _) (.refl _ s)

theorem gateReset_effects : Effects .operation s (gateReset s).2 := by
  have h1 : Effects .operation s (gateRederive (s.modGate fun g => { g with fault := 0 })) :=
    .after (gateRederive_effects (.inl rfl)) (modGate_effects (.of_sets rfl _ _))
  unfold gateReset
  simp only
  repeat' split
  · exact .after gateEval_effects h1
  · exact h1
  all_goals exact .refl _ s

theorem barrierResetOp_effects (ops : List Word) : Effects .operation s (barrierResetOp ops s).2 := by
  unfold barrierResetOp
  repeat' split
  · exact .refl _ s
  · exact gateReset_effects
  · exact barrierResetOne_effects _
  · exact .refl _ s

/-! ## Reads -/

theorem recordOp_effects {n first : Nat} {data : State → Fin n → List Word} {clear : Fin n → State → State}
    (h : ∀ i, Effects .operation s (clear i s)) (ops : List Word) :
    Effects .operation s (recordOp n first data clear ops s).2.2 := by
  unfold recordOp
  split
  · exact .ite (h _) (.refl _ s)
  · exact .refl _ s

theorem queueRead_effects (ops : List Word) : Effects .operation s (queueRead ops s).2.2 :=
  recordOp_effects (fun _ => modQueue_effects rfl id) ops

theorem sumpRead_effects (ops : List Word) : Effects .operation s (sumpRead ops s).2.2 :=
  recordOp_effects (fun _ => modSau_effects _) ops

theorem snapshotNextOp_effects : Effects .operation s (snapshotNextOp s).2.2 := by
  unfold snapshotNextOp
  repeat' split
  · exact .third (modMgu_effects _)
  · exact .refl _ s
  · exact .refl _ s

theorem manageRecordSump_effects (tag : Tag) (ops : List Word) : Effects .operation s (manageRecordSump tag ops s) :=
  takeOp_effects (.ite (modSau_effects _) (.after (answer_effects ..) (sumpRead_effects ops)))

theorem recordGet_effects {tag : Tag} {op : State → Nat × List Word × State} (h : Effects .operation s (op s).2.2) :
    Effects .operation s (recordGet tag op s) := takeData_effects h

theorem manageRecordGate_effects (tag : Tag) (ops : List Word) : Effects .operation s (manageRecordGate tag ops s) :=
  recordGet_effects (.third nextFree_effects)

theorem manageRecordQueue_effects (tag : Tag) (ops : List Word) : Effects .operation s (manageRecordQueue tag ops s) :=
  recordGet_effects (.third (.after nextFree_effects (queueRead_effects ops)))

theorem manageRecordGet_effects (tag : Tag) (ops : List Word) : Effects .operation s (manageRecordGet tag ops s) := by
  have hsame := fun (n first : Nat) (data : State → Fin n → List Word) (ops : List Word) =>
    recordGet_effects (tag := tag) (recordOp_effects (s := s) (first := first) (data := data) (clear := fun _ s => s)
      (fun _ => .refl _ s) ops)
  unfold manageRecordGet
  split
  · exact takeOp_effects (answer_effects ..)
  · split
    · exact hsame ..
    · exact hsame ..
    · exact recordGet_effects (recordOp_effects (fun _ => modCau_effects _) _)
    · exact manageRecordSump_effects tag _
    · exact hsame ..
    · exact hsame ..
    · exact manageRecordGate_effects tag _
    · exact hsame ..
    · exact manageRecordQueue_effects tag _
    · exact takeOp_effects (answer_effects ..)

/-! ## The control hold, STATUS_CLEAR, the store -/

theorem managePumpSet_effects (tag : Tag) (ops : List Word) : Effects .operation s (managePumpSet tag ops s) := by
  unfold managePumpSet
  split
  · exact .ite (configure_effects (pumpingSetOp_effects _)) (configure_effects (pumpSetOp_effects _))
  · exact configure_effects (pumpSetOp_effects _)

theorem takeSumpSet_effects (tag : Tag) (ops : List Word) : Effects .operation s (takeSumpSet tag ops s) :=
  .ite (answer_effects ..) (.after (answer_effects ..) (sumpSetOp_effects ops))

theorem takeGeometrySet_effects (tag : Tag) (ops : List Word) : Effects .operation s (takeGeometrySet tag ops s) :=
  .ite (answer_effects ..) (.after (answer_effects ..) (geometrySetOp_effects ops))

theorem manageSumpSet_effects (tag : Tag) (ops : List Word) : Effects .operation s (manageSumpSet tag ops s) :=
  takeOp_effects (.ite (modSau_effects _) (takeSumpSet_effects tag ops))

theorem manageGeometrySet_effects (tag : Tag) (ops : List Word) : Effects .operation s (manageGeometrySet tag ops s) :=
  takeOp_effects (.ite (modSau_effects _) (takeGeometrySet_effects tag ops))

theorem advanceOp_effects (tag : Tag) : Effects .operation s (advanceOp tag s) :=
  .ite (.after (modStc_effects _) (.after quiesce_effects (.after (ltuEvaluate_effects Scope.noConfusion true)
    (.after gsqEvaluate_effects (.after pscEvaluate_effects (.after quiesce_effects (.after stageEvaluate_effects
      (.after (rederiveAll_effects rfl) (.after (setHold_effects _) (modStc_effects _)))))))))) (answer_effects ..)

theorem stepEnds_effects (r : StepRecord) : Effects .operation s (stepEnds r s) := by
  have h0 : Effects .operation s (s.modStc fun c => { c with step := none }) := modStc_effects _
  have hl := Effects.after (setHold_effects .running)
    (.after (modStc_effects fun c => { c with holdRequest := false }) h0)
  have h1 : Effects .operation s (if Stage.closing.code ≤ s.stc.stage.code then
      (if r.broken then setHold .running
        ((s.modStc fun c => { c with step := none }).modStc fun c => { c with holdRequest := false })
        else raiseNotice 6 [0, word s.stc.stage.code]
          (setHold .running ((s.modStc fun c => { c with step := none }).modStc fun c => { c with holdRequest := false })))
    else if s.stc.holdRequest then setHold .held (s.modStc fun c => { c with step := none })
    else setHold .running (s.modStc fun c => { c with step := none })) :=
    .ite (.ite hl (.after (raiseNotice_effects (by decide)) hl)) (.ite (.after (setHold_effects _) h0) (.after
      (setHold_effects _) h0))
  exact .after quiesce_effects (.after (answer_effects ..) (.ite (.after (raiseNotice_effects (by decide)) h1) h1))

theorem stepEndOp_effects : Effects .operation s (stepEndOp s) := by
  unfold stepEndOp
  split
  · exact .ite (stepEnds_effects _) (.refl _ s)
  · exact .refl _ s

theorem linkLost_effects : Effects .operation s (linkLost s) := by
  unfold linkLost
  simp only
  split
  · exact modStc_effects _
  · exact .after (rederiveAll_effects rfl) (.after (raiseNotice_effects (by decide)) (.after (setHold_effects _)
      (modStc_effects _)))
  · exact .after (modStc_effects _) (modStc_effects _)

theorem releaseOp_effects (tag : Tag) : Effects .operation s (releaseOp tag s) :=
  .ite (.after quiesce_effects (.after (answer_effects ..) (stageTo_effects _ _))) (answer_effects ..)

theorem clearSumps_effects : Effects .operation s (clearSumps s) := modSau_effects _

theorem statusClearOp_effects (tag : Tag) : Effects .operation s (statusClearOp tag s) := by
  have h1 : Effects .operation s (s.modPim fun m => { m with queues := m.queues.map clearQueueFlags }) := by
    refine (Effect.pim s _ rfl fun q hq => ?_).effects
    simpa [Tab.get, clearQueueFlags] using hq
  exact .ite (.after (modSau_effects _) h1) (.after (answer_effects ..) (.after clearSumps_effects h1))

theorem commitOp_effects (tag : Tag) : Effects .operation s (commitOp tag s) := .ite (answer_effects ..) (modMgu_effects _)

theorem commitCompletes_effects : Effects .operation s (commitCompletes s) := by
  unfold commitCompletes
  split
  · exact .after (answer_effects ..) (modMgu_effects _)
  · exact .refl _ s

theorem restartOp_effects (tag : Tag) : Effects .operation s (restartOp tag s) := .after (offerUp_effects _) (modMgu_effects _)

theorem takeDeferred_effects (d : Deferred) : Effects .operation s (takeDeferred d s) := by
  refine .after quiesce_effects ?_
  cases d with
  | sumpSet tag ops => exact takeSumpSet_effects tag ops
  | geometrySet tag ops => exact takeGeometrySet_effects tag ops
  | recordSump tag ops => exact .after (answer_effects ..) (sumpRead_effects ops)
  | statusClear tag => exact .after (answer_effects ..) clearSumps_effects

theorem cycleCompletes_effects : Effects .operation s (cycleCompletes s) := by
  unfold cycleCompletes
  split
  · exact .after (foldl_effects _ _ (fun _ d => takeDeferred_effects d) _) (.after (cycleCompute_effects rfl _) (modSau_effects _))
  · exact .refl _ s

/-! ## Expiries -/

theorem windowCloses_effects : Effects .operation s (windowCloses s) := modLau_effects fun _ => rfl

theorem startUnconfirmed_effects (p : PumpId) : Effects .operation s (startUnconfirmed p s) :=
  .ite (pumpFault_effects (.inl rfl)) (modPump_effects_same fun _ => rfl)

theorem stopUnconfirmed_effects (p : PumpId) : Effects .operation s (stopUnconfirmed p s) :=
  .ite (pumpFault_effects (.inl rfl)) (modPump_effects_same fun _ => rfl)

theorem offTimePasses_effects (p : PumpId) : Effects .operation s (offTimePasses p s) :=
  .ite (.after (pumpSettle_effects (.inl rfl)) (modPump_effects_same fun _ => rfl)) (modPump_effects_same fun _ => rfl)

theorem hourPasses_effects (p : PumpId) : Effects .operation s (hourPasses p s) :=
  .ite (.after (pumpSettle_effects (.inl rfl)) (modPump_effects_same fun _ => rfl)) (modPump_effects_same fun _ => rfl)

theorem warnPasses_effects (b : BarrierId) : Effects .operation s (warnPasses b s) :=
  .ite (.after (toClearing_effects (.inl rfl)) (modBarrier_effects_same fun _ => rfl)) (modBarrier_effects_same fun _ => rfl)

theorem clearancePasses_effects (b : BarrierId) : Effects .operation s (clearancePasses b s) :=
  .ite (.after (closingPost_effects (.inl rfl)) (modBarrier_effects_same fun _ => rfl)) (modBarrier_effects_same fun _ => rfl)

theorem travelPasses_effects (b : BarrierId) : Effects .operation s (travelPasses b s) :=
  .ite (barrierFault_effects b 1 (by decide)) (modBarrier_effects_same fun _ => rfl)

theorem dwellPasses_effects : Effects .operation s (dwellPasses s) :=
  .ite (.after (gatePostGo_effects (.inl rfl) (by decide)) (modGate_effects_same fun _ => rfl)) (modGate_effects_same fun _ => rfl)

theorem gateTravelPasses_effects : Effects .operation s (gateTravelPasses s) :=
  .ite (gateFault_effects 1) (modGate_effects_same fun _ => rfl)

theorem lightingTick_effects : Effects .operation s (lightingTick s) :=
  .after (ltuEvaluate_effects Scope.noConfusion _) (Effect.ltu s _ fun _ => .refl _ _).effects

end Sys2Proof.Machine
end

section
/-! SUPPORT. What the effects of any work keep: the queues of the ports, the level sample queues, the Command Queue, a QUENCHED line
without work, and, below the operations, the frames offered upstream. -/

set_option Elab.async false

namespace Sys2Proof.Machine

variable {k : Scope} {s t : State}

/-! ## The Upstream Queue -/

/-- The Upstream Queue after a notice (R8). -/
theorem raiseNotice_upstream (code : Nat) (data : List Word) (s : State) : (raiseNotice code data s).upp.upstream =
    if s.upp.upstream.length < 16 then s.upp.upstream ++ [{ frame := noticeFrame s.upp.noticeSeq code data }]
    else s.upp.upstream := rfl

theorem raiseNotice_upstream_le (code : Nat) (data : List Word) (h : s.upp.upstream.length ≤ 16) :
    (raiseNotice code data s).upp.upstream.length ≤ 16 := by
  rw [raiseNotice_upstream]
  split
  · simp only [List.length_append, List.length_singleton]
    omega
  · exact h

/-- A log of a fault raises a PATH_FAULT notice or leaves the port alone (R43). -/
theorem logFault_upp (u : FaultUpdate) (s : State) : (logFault u s).upp = s.upp ∨ ∃ data, (logFault u s).upp =
    (raiseNotice 3 data s).upp := by
  unfold logFault
  simp only
  split
  · exact .inl rfl
  · exact .inr ⟨_, rfl⟩

theorem logFault_upstream_le (u : FaultUpdate) (h : s.upp.upstream.length ≤ 16) : (logFault u s).upp.upstream.length ≤ 16 := by
  obtain he | ⟨data, he⟩ := logFault_upp u s
  · exact he ▸ h
  · exact he ▸ raiseNotice_upstream_le 3 data h

theorem dropOldestNotice_length {l q : List UpEntry} (h : dropOldestNotice l = some q) : q.length + 1 = l.length := by
  induction l generalizing q with
  | nil => cases h
  | cons e l ih =>
    unfold dropOldestNotice at h
    split at h
    · cases h
      rfl
    · split at h
      · rename_i r hr
        cases h
        simp [ih hr]
      · cases h

theorem offerUp_upstream_le (e : UpEntry) (h : s.upp.upstream.length ≤ 16) : (offerUp e s).upp.upstream.length ≤ 16 := by
  unfold offerUp
  split
  · simp only [State.modUpp_upp, List.length_append, List.length_singleton]
    omega
  · split
    · rename_i q hq
      have := dropOldestNotice_length hq
      simp only [State.modUpp_upp, List.length_append, List.length_singleton]
      omega
    · refine logFault_upstream_le _ ?_
      split <;> exact h

theorem Effect.upstream_le (g : Effect k s t) (h : s.upp.upstream.length ≤ 16) : t.upp.upstream.length ≤ 16 := by
  cases g with
  | notice code data => exact raiseNotice_upstream_le code data h
  | offer e => exact offerUp_upstream_le e h
  | request p v => rwa [requestCommand_upp]
  | _ => exact h

/-! ## The fields of the ports that no work touches -/

/-- The Upstream Port less what notices and frames offered change. -/
def Upp.port (u : Upp) : Upp := { u with upstream := [], noticeSeq := 0 }

/-- The Field Line Controller less the Command Queue. -/
def Flc.rest (f : Flc) : Flc := { f with commandQueue := [] }

theorem logFault_port (u : FaultUpdate) (s : State) : (logFault u s).upp.port = s.upp.port := by
  obtain he | ⟨data, he⟩ := logFault_upp u s
  · rw [he]
  · rw [he]
    rfl

theorem offerUp_port (e : UpEntry) (s : State) : (offerUp e s).upp.port = s.upp.port := by
  unfold offerUp
  split
  · rfl
  · split
    · rfl
    · rw [logFault_port]
      split <;> rfl

theorem Effect.port (g : Effect k s t) : t.upp.port = s.upp.port := by
  cases g with
  | offer e => exact offerUp_port e s
  | request p v => rw [requestCommand_upp]
  | _ => rfl

theorem Effects.downstream (g : Effects k s t) : t.upp.downstream = s.upp.downstream :=
  g.same (f := fun s => s.upp.downstream) fun h => (congrArg Upp.downstream h.port :)

theorem requestCommand_flc_rest (p : PointId) (v : Word) (s : State) : (requestCommand p v s).flc.rest = s.flc.rest := by
  unfold requestCommand
  split <;> rfl

theorem Effect.flc_rest (g : Effect k s t) : t.flc.rest = s.flc.rest := by
  cases g with
  | offer e => rw [offerUp_flc]
  | request p v => exact requestCommand_flc_rest p v s
  | _ => rfl

theorem Effects.flc_rest (g : Effects k s t) : t.flc.rest = s.flc.rest :=
  g.same (f := fun s => s.flc.rest) Effect.flc_rest

theorem Effect.line (g : Effect k s t) : t.flc.line = s.flc.line := (congrArg Flc.line g.flc_rest :)
theorem Effects.line (g : Effects k s t) : t.flc.line = s.flc.line := (congrArg Flc.line g.flc_rest :)
theorem Effects.transaction (g : Effects k s t) : t.flc.transaction = s.flc.transaction := (congrArg Flc.transaction g.flc_rest :)
theorem Effects.scanPending (g : Effects k s t) : t.flc.scanPending = s.flc.scanPending := (congrArg Flc.scanPending g.flc_rest :)
theorem Effects.quenchWaiting (g : Effects k s t) : t.flc.quenchWaiting = s.flc.quenchWaiting :=
  (congrArg Flc.quenchWaiting g.flc_rest :)

/-! ## The Command Queue -/

theorem putCommand_nodup (p : PointId) (v : Word) {q : List CommandEntry} (h : (q.map CommandEntry.point).Nodup) :
    ((putCommand p v q).map CommandEntry.point).Nodup := by
  unfold putCommand
  split
  · rw [List.map_map, List.map_congr_left (g := CommandEntry.point)]
    · exact h
    · intro e _
      by_cases he : e.point = p <;> simp [he]
  · rename_i hq
    simp only [List.any_eq_true, beq_iff_eq, not_exists, not_and] at hq
    simp only [List.map_append, List.map_cons, List.map_nil, List.nodup_append, List.nodup_singleton, List.mem_map]
    refine ⟨h, trivial, ?_⟩
    rintro _ ⟨e, he, rfl⟩ b hb
    simp only [List.mem_singleton] at hb
    exact hb ▸ hq e he

/-- The Command Queue after a request (R17). -/
theorem requestCommand_queue (p : PointId) (v : Word) (s : State) : (requestCommand p v s).flc.commandQueue =
    if s.flc.line = .quenched then s.flc.commandQueue else putCommand p v s.flc.commandQueue := by
  unfold requestCommand
  split <;> rfl

theorem Effect.distinct (g : Effect k s t) (h : s.CommandsDistinct) : t.CommandsDistinct := by
  cases g with
  | offer e => simpa [State.CommandsDistinct] using h
  | request p v =>
    rw [State.CommandsDistinct, requestCommand_queue]
    split
    · exact h
    · exact putCommand_nodup p v h
  | purge p => exact h.sublist (List.filter_sublist.map _)
  | _ => exact h

/-! ## The level sample queues -/

theorem requestCommand_queues (p : PointId) (v : Word) (s : State) : (requestCommand p v s).pim.queues = s.pim.queues := by
  unfold requestCommand
  split <;> rfl

theorem Effect.levels (g : Effect k s t) (h : s.LevelQueuesBounded) : t.LevelQueuesBounded := by
  cases g with
  | offer e => simpa [State.LevelQueuesBounded, State.levelQueue] using h
  | request p v => simpa only [State.LevelQueuesBounded, State.levelQueue, requestCommand_queues] using h
  | pim f hk hq => exact fun q => hq q (h q)
  | _ => exact h

/-! ## A QUENCHED line -/

/-- On a QUENCHED line an empty Start Queue and an empty Command Queue stay empty (R17, R111). -/
theorem Effect.quenched (g : Effect k s t) (hl : s.flc.line = .quenched)
    (h : s.flc.commandQueue = [] ∧ s.lau.queue = []) : t.flc.commandQueue = [] ∧ t.lau.queue = [] := by
  cases g with
  | offer e => simpa using h
  | request p v => simpa [requestCommand_queue, hl] using h
  | lau f hf => exact ⟨h.1, hf hl h.2⟩
  | purge p => exact ⟨by simp [h.1], h.2⟩
  | _ => exact h

theorem Effects.quenchedIdle (g : Effects k s t) (h : s.QuenchedIdle) : t.QuenchedIdle := by
  intro hl
  rw [g.line] at hl
  obtain ⟨htx, hcq, hscan, hdown, hstart⟩ := h hl
  have hq := g.keeps (P := fun u => u.flc.line = .quenched ∧ u.flc.commandQueue = [] ∧ u.lau.queue = [])
    (fun e hu => ⟨e.line.trans hu.1, e.quenched hu.1 hu.2⟩) ⟨hl, hcq, hstart⟩
  exact ⟨g.transaction.trans htx, hq.2.1, g.scanPending.trans hscan, g.downstream.trans hdown, hq.2.2⟩

/-! ## Below the operations: frames offered upstream -/

/-- The frames of the Upstream Queue that are no notices. -/
def State.frames (s : State) : List UpEntry := s.upp.upstream.filter fun e => !e.frame.isNotice

theorem noticeFrame_isNotice (sequence : Tag) {code : Nat} (data : List Word) (h : code < 0x8000) :
    (noticeFrame sequence code data).isNotice = true := by
  have hm : (BitVec.ofNat 16 (0x8000 + code)).msb = true := by
    rw [BitVec.msb_eq_decide, decide_eq_true_eq, BitVec.toNat_ofNat]
    omega
  simpa [Frame.isNotice, noticeFrame] using hm

theorem raiseNotice_frames {code : Nat} (data : List Word) (h : code < 0x8000) (s : State) :
    (raiseNotice code data s).frames = s.frames := by
  rw [State.frames, raiseNotice_upstream]
  split
  · simp [State.frames, noticeFrame_isNotice _ data h]
  · rfl

theorem raiseNotice_prefix (code : Nat) (data : List Word) (s : State) : s.upp.upstream <+:
    (raiseNotice code data s).upp.upstream := by
  rw [raiseNotice_upstream]
  split
  · exact List.prefix_append _ _
  · exact List.prefix_rfl

/-- Work below the operations offers notices only: it leaves the other frames, and it takes nothing off the Upstream Queue. -/
theorem Effect.frames (hk : k ≠ .operation) (g : Effect k s t) : t.frames = s.frames := by
  cases g with
  | notice code data h => exact raiseNotice_frames data h s
  | offer e h => exact absurd h hk
  | request p v => rw [State.frames, requestCommand_upp]; rfl
  | _ => rfl

theorem Effect.upstream_prefix (hk : k ≠ .operation) (g : Effect k s t) : s.upp.upstream <+: t.upp.upstream := by
  cases g with
  | notice code data => exact raiseNotice_prefix code data s
  | offer e h => exact absurd h hk
  | request p v => rw [requestCommand_upp]
  | _ => exact List.prefix_rfl

theorem Effects.frames (hk : k ≠ .operation) (g : Effects k s t) : t.frames = s.frames := g.same (Effect.frames hk)

theorem Effects.upstream_prefix (hk : k ≠ .operation) (g : Effects k s t) : s.upp.upstream <+: t.upp.upstream :=
  g.keeps (P := fun u => s.upp.upstream <+: u.upp.upstream) (fun e h => h.trans (e.upstream_prefix hk)) List.prefix_rfl

end Sys2Proof.Machine
end

section
/-! SUPPORT. The four laws of the field work together: what every step keeps of the queues of the ports, the level sample
queues, the Command Queue and a QUENCHED line. -/

set_option Elab.async false

namespace Sys2Proof.Machine

variable {k : Scope} {s t u : State} {calm : Prop}

/-- The four laws of the field work are kept from one state to another; that of a QUENCHED line under a condition on the state at
the beginning of the command. -/
structure KeepsLaws (calm : Prop) (s t : State) : Prop where
  queues : s.QueuesBounded → t.QueuesBounded
  levels : s.LevelQueuesBounded → t.LevelQueuesBounded
  commands : s.CommandsDistinct → t.CommandsDistinct
  idle : calm → s.QuenchedIdle → t.QuenchedIdle

theorem KeepsLaws.refl (calm : Prop) (s : State) : KeepsLaws calm s s := ⟨id, id, id, fun _ => id⟩

theorem KeepsLaws.after (g : KeepsLaws calm t u) (h : KeepsLaws calm s t) : KeepsLaws calm s u :=
  ⟨g.queues ∘ h.queues, g.levels ∘ h.levels, g.commands ∘ h.commands, fun c => g.idle c ∘ h.idle c⟩

theorem KeepsLaws.ite {c : Prop} [Decidable c] (h : KeepsLaws calm s t) (g : KeepsLaws calm s u) :
    KeepsLaws calm s (if c then t else u) := by
  split
  · exact h
  · exact g

theorem Effects.laws (g : Effects k s t) : KeepsLaws calm s t where
  queues h := ⟨g.downstream ▸ h.1, g.keeps (P := fun u => u.upp.upstream.length ≤ 16) Effect.upstream_le h.2⟩
  levels h := g.keeps (P := State.LevelQueuesBounded) Effect.levels h
  commands h := g.keeps (P := State.CommandsDistinct) Effect.distinct h
  idle _ h := g.quenchedIdle h

/-! ## Elementary moves of the ports -/

theorem modUpp_laws {f : Upp → Upp} (hd : ∀ u, (f u).downstream = u.downstream)
    (hu : (f s.upp).upstream.length ≤ s.upp.upstream.length) : KeepsLaws calm s (s.modUpp f) where
  queues h := ⟨(congrArg List.length (hd _)).trans_le h.1, hu.trans h.2⟩
  levels := id
  commands := id
  idle _ h hl := by
    obtain ⟨htx, hcq, hscan, hdown, hstart⟩ := h hl
    exact ⟨htx, hcq, hscan, (hd _).trans hdown, hstart⟩

/-- The head of the Downstream Queue is taken. -/
theorem serve_laws {w : Frame} {ws : List Frame} (h : s.upp.downstream = w :: ws) :
    KeepsLaws calm s (s.modUpp fun u => { u with downstream := ws }) where
  queues hb := by
    obtain ⟨hdown, hup⟩ := hb
    rw [h, List.length_cons] at hdown
    exact ⟨by simp only [State.modUpp_upp]; omega, hup⟩
  levels := id
  commands := id
  idle _ hi hl := by
    obtain ⟨-, -, -, hdown, -⟩ := hi hl
    simp [h] at hdown

theorem offerDown_laws (f : Frame) : KeepsLaws calm s (offerDown f s) := by
  unfold offerDown
  split
  · exact (refuse_effects f 5).laws
  · split
    · exact (refuse_effects f 1).laws
    · rename_i hl hlen
      exact
        { queues := fun h => ⟨by simp only [State.modUpp_upp, List.length_append, List.length_singleton]; omega, h.2⟩
          levels := id
          commands := id
          idle := fun _ _ hq => absurd hq hl }

/-- A move of the Field Line Controller off a QUENCHED line, which adds no command. -/
theorem modFlc_laws {f : Flc → Flc} (hc : (f s.flc).commandQueue.Sublist s.flc.commandQueue) (hl : (f s.flc).line ≠ .quenched) :
    KeepsLaws calm s (s.modFlc f) where
  queues := id
  levels := id
  commands h := h.sublist (hc.map _)
  idle _ _ hq := absurd hq hl

/-- The end of a transaction frees the line. -/
theorem freeLine_laws : KeepsLaws calm s (s.modFlc fun f => { f with transaction := none }) where
  queues := id
  levels := id
  commands := id
  idle _ h hl := by
    obtain ⟨-, hcq, hscan, hdown, hstart⟩ := h hl
    exact ⟨rfl, hcq, hscan, hdown, hstart⟩

/-- A command put back joins a Command Queue that holds none for its point (R19). -/
theorem putBack_laws {e : CommandEntry} (hq : s.queued e.point = false) (hl : calm → s.flc.line ≠ .quenched) :
    KeepsLaws calm s (s.modFlc fun f => { f with commandQueue := f.commandQueue ++ [e] }) where
  queues := id
  levels := id
  commands h := by
    have hne : ∀ x ∈ s.flc.commandQueue, x.point ≠ e.point := by
      simpa [State.queued] using hq
    simp only [State.CommandsDistinct, State.modFlc_flc, List.map_append, List.map_cons, List.map_nil, List.nodup_append,
      List.nodup_singleton, List.mem_map, List.mem_singleton]
    refine ⟨h, trivial, ?_⟩
    rintro _ ⟨x, hx, rfl⟩ _ rfl
    exact hne x hx
  idle c _ hi := absurd hi (hl c)

/-! ## The Field Arbiter -/

theorem sendField_laws (hl : s.flc.line ≠ .quenched) (o : Origin) (f : Frame) : KeepsLaws calm s (sendField o f s) :=
  modFlc_laws (List.Sublist.refl _) hl

theorem sendOwn_laws (hl : s.flc.line ≠ .quenched) (o : Origin) (f : Frame) : KeepsLaws calm s (sendOwn o f s) :=
  .after (modFlc_laws (List.Sublist.refl _) hl) (sendField_laws hl _ _)

theorem refuseAuthority_effects (w : Frame) (reason : Nat) (key : Option Key) :
    Effects .operation s (refuseAuthority w reason key s) := .after (logFault_effects _) (refuse_effects w reason)

theorem adopt_effects (w : Frame) (p : PointId) (v : Word) : Effects .operation s (adopt w p v s) :=
  .ite (refuseAuthority_effects ..) (.after (emit_effects _) (.after (offerUp_effects _) (modCau_effects _)))

theorem judgeWrite_laws (w : Frame) (hl : s.flc.line ≠ .quenched) : KeepsLaws calm s (judgeWrite w s) := by
  have hlook := lookups_effects (k := .operation) (s := s) s.planInForce w.dst .command kindWrite w.channel.toNat w.payload.length
  have hsend : KeepsLaws calm s (sendField (.supervisory w) w
      (lookups s.planInForce w.dst .command kindWrite w.channel.toNat w.payload.length s).2) :=
    .after (sendField_laws (hlook.line ▸ hl) _ _) hlook.laws
  unfold judgeWrite
  simp only
  split
  · exact (Effects.after (refuse_effects w 10) hlook).laws
  · split
    · split
      · exact hsend
      · exact (Effects.after (refuseAuthority_effects ..) hlook).laws
      · exact (Effects.after quiesce_effects (.after (adopt_effects ..) hlook)).laws
    · split
      · exact .ite (Effects.after (logFault_effects _) (.after (refuse_effects w 9) hlook)).laws hsend
      · exact hsend

theorem takeSupervisory_laws (w : Frame) (hl : s.flc.line ≠ .quenched) : KeepsLaws calm s (takeSupervisory w s) :=
  .ite (sendField_laws hl _ _) (.ite (.ite (sendField_laws hl _ _) (refuseAuthority_effects ..).laws) (judgeWrite_laws w hl))

theorem takeCommand_laws (e : CommandEntry) (hl : s.flc.line ≠ .quenched) : KeepsLaws calm s (takeCommand e s) := by
  have hsearch := commandSearch_effects (k := .observation) (s := s) e.point
  unfold takeCommand
  split
  · rename_i a s1 h
    rw [h] at hsearch
    exact .after (sendOwn_laws (hsearch.line ▸ hl) _ _) hsearch.laws
  · rename_i s1 h
    rw [h] at hsearch
    exact (Effects.after (commandOutcome_effects (.inl rfl) _) hsearch).laws

theorem takeScan_laws (e : ScanId) (hl : s.flc.line ≠ .quenched) : KeepsLaws calm s (takeScan e s) :=
  .ite (sendOwn_laws hl _ _) (.refl _ s)

theorem serveDownstream_laws {w : Frame} {ws : List Frame} (h : s.upp.downstream = w :: ws) (hl : s.flc.line ≠ .quenched) :
    KeepsLaws calm s (grantLine.serveDownstream w ws s) :=
  .after (takeSupervisory_laws w hl) (.after (modFlc_laws (List.Sublist.refl _) hl) (serve_laws h))

theorem serveScan_laws (e : ScanId) (es : List ScanId) (hl : s.flc.line ≠ .quenched) :
    KeepsLaws calm s (grantLine.serveScan e es s) :=
  .after (takeScan_laws e hl) (modFlc_laws (List.Sublist.refl _) hl)

theorem grantLine_laws (h : grantLine s = some t) : KeepsLaws calm s t := by
  unfold grantLine at h
  split at h
  · rename_i hfree
    have hl : s.flc.line ≠ .quenched := by simp [hfree.1]
    split at h
    · rename_i e rest hq
      refine Option.some.inj h ▸ .after (takeCommand_laws e ?_) (modFlc_laws (hq ▸ List.sublist_cons_self e rest) hl)
      exact hl
    · split at h
      · exact Option.some.inj h ▸ serveDownstream_laws ‹_› hl
      · exact Option.some.inj h ▸ serveScan_laws _ _ hl
    · exact Option.some.inj h ▸ serveDownstream_laws ‹_› hl
    · exact Option.some.inj h ▸ serveScan_laws _ _ hl
    · cases h
  · cases h

theorem grantLoop_laws (n : Nat) : KeepsLaws calm s (grantLoop n s) := by
  induction n generalizing s with
  | zero => exact .refl _ s
  | succ n ih =>
    unfold grantLoop
    split
    · exact .after ih (grantLine_laws ‹_›)
    · exact .refl _ s

/-! ## Entry into QUENCHED -/

theorem purged_effects (hk : k.observes = true) (l : List CommandEntry) :
    Effects k s (l.foldl (fun s e => setCommandState e.point .idle s) s) :=
  foldl_effects _ _ (fun _ (e : CommandEntry) => modPoint_effects hk e.point _) s

theorem lauQuench_effects : Effects k s (lauQuench s) := (Effect.lau s _ fun _ _ => rfl).effects

theorem pumpQuench_effects (hk : k.sets = true) (p : PumpId) : Effects k s (pumpQuench p s) :=
  .ite (.refl k s) (.after (pumpGo_effects (.inl hk) (by decide)) (modPump_effects_same fun _ => rfl))

theorem barrierQuench_effects (hk : k.sets = true) (b : BarrierId) : Effects k s (barrierQuench b s) :=
  .ite (.refl k s) (.after (barrierGo_effects (.inl hk) (by decide)) (modBarrier_effects_same fun _ => rfl))

theorem gateQuench_effects (hk : k.sets = true) : Effects k s (gateQuench s) :=
  .ite (.refl k s) (.after (gateGo_effects (.inl hk) (by decide)) (modGate_effects_same fun _ => rfl))

theorem zoneQuench_effects (hk : k.sets = true) (z : ZoneId) : Effects k s (zoneQuench z s) :=
  .ite (.refl k s) (.after (zoneReport_effects z) (modZone_effects (.of_sets hk _ _)))

theorem pscQuench_effects (hk : k.sets = true) : Effects k s (pscQuench s) :=
  foldl_effects _ _ (fun _ p => pumpQuench_effects hk p) s

theorem gsqQuench_effects (hk : k.sets = true) : Effects k s (gsqQuench s) :=
  .after (gateQuench_effects hk) (foldl_effects _ _ (fun _ b => barrierQuench_effects hk b) s)

theorem ltuQuench_effects (hk : k.sets = true) : Effects k s (ltuQuench s) :=
  foldl_effects _ _ (fun _ z => zoneQuench_effects hk z) s

/-- The state in which the Field Line Controller has stopped its work for an entry into QUENCHED (R21). -/
def stopLine (s : State) : State :=
  s.upp.downstream.foldl (fun s w => refuse w 5 s)
    ((s.modFlc fun f => { f with line := .quenched, scanPending := [], quenchWaiting := [] }).modUpp
      fun u => { u with downstream := [] })

/-- The state in which the JOBS take an entry into QUENCHED: no field work and no request is left (R21, R128). -/
def purgeWork (s : State) : State := lauQuench (purgeCommands (stopLine s))

/-- What the JOBS make of an entry into QUENCHED, to its end (R144, R164, R174). -/
def quenchJobs (s : State) : State := quiesce (ltuQuench (gsqQuench (pscQuench s)))

theorem enterQuenched_eq (s : State) : enterQuenched s =
    s.flc.quenchWaiting.foldl (fun s tag => answer tag 52 stDone [] s) (quenchJobs (purgeWork s)) := rfl

theorem quenchJobs_effects (hk : k.sets = true) : Effects k s (quenchJobs s) :=
  .after quiesce_effects (.after (ltuQuench_effects hk) (.after (gsqQuench_effects hk) (pscQuench_effects hk)))

/-- The frames refused at an entry into QUENCHED. -/
theorem stopLine_effects (s : State) : Effects .operation
    ((s.modFlc fun f => { f with line := .quenched, scanPending := [], quenchWaiting := [] }).modUpp
      fun u => { u with downstream := [] }) (stopLine s) :=
  foldl_effects _ _ (fun _ w => refuse_effects w 5) _

theorem purgeCommands_effects (s : State) :
    Effects .operation (s.modFlc fun f => { f with commandQueue := [] }) (purgeCommands s) := purged_effects rfl _

theorem lauQuench_idle (hl : s.flc.commandQueue = []) (htx : s.flc.transaction = none) (hscan : s.flc.scanPending = [])
    (hd : s.upp.downstream = []) : (lauQuench s).QuenchedIdle := fun _ => ⟨htx, hl, hscan, hd, rfl⟩

theorem purgeWork_idle (h : s.flc.transaction = none) : (purgeWork s).QuenchedIdle := by
  have hstop := stopLine_effects s
  have hpurge := purgeCommands_effects (stopLine s)
  refine lauQuench_idle ?_ (hpurge.transaction.trans (hstop.transaction.trans h)) (hpurge.scanPending.trans hstop.scanPending)
    (hpurge.downstream.trans hstop.downstream)
  have hempty : ∀ l : List CommandEntry, ∀ u : State, (l.foldl (fun s e => setCommandState e.point .idle s) u).flc = u.flc := by
    intro l
    induction l with
    | nil => exact fun _ => rfl
    | cons e l ih => exact fun u => ih _
  exact congrArg Flc.commandQueue (hempty _ _)

theorem purgeWork_laws (h : s.flc.transaction = none) : KeepsLaws calm s (purgeWork s) where
  queues hb :=
    (Effects.after lauQuench_effects (purgeCommands_effects (stopLine s))).laws (calm := True) |>.queues
      ((stopLine_effects s).laws (calm := True) |>.queues ⟨Nat.zero_le _, hb.2⟩)
  levels hb :=
    (Effects.after lauQuench_effects (purgeCommands_effects (stopLine s))).laws (calm := True) |>.levels
      ((stopLine_effects s).laws (calm := True) |>.levels hb)
  commands _ :=
    (Effects.after lauQuench_effects (purgeCommands_effects (stopLine s))).laws (calm := True) |>.commands List.nodup_nil
  idle _ _ := purgeWork_idle h

theorem enterQuenched_laws (h : s.flc.transaction = none) : KeepsLaws calm s (enterQuenched s) := by
  rw [enterQuenched_eq]
  exact .after (foldl_effects (k := .operation) _ _ (fun _ g => answer_effects g 52 stDone []) _).laws
    (.after (quenchJobs_effects (k := .operation) rfl).laws (purgeWork_laws h))

theorem quenchOp_laws (tag : Tag) : KeepsLaws calm s (quenchOp tag s) := by
  unfold quenchOp
  split
  · exact (answer_effects ..).laws
  · exact modFlc_laws (List.Sublist.refl _) (by simp [*])
  · rename_i hl
    have h1 : KeepsLaws calm s (s.modFlc fun f => { f with quenchWaiting := f.quenchWaiting ++ [tag] }) :=
      modFlc_laws (List.Sublist.refl _) (by simp [hl])
    simp only
    split
    · exact .after (enterQuenched_laws (by simpa using ‹s.flc.transaction.isNone = true›)) h1
    · exact .after (modFlc_laws (List.Sublist.refl _) (by simp)) h1

theorem unquenchOp_laws (tag : Tag) : KeepsLaws calm s (unquenchOp tag s) :=
  .ite (.after (Effects.after quiesce_effects (.after (ltuUnquench_effects (k := .operation) Scope.noConfusion)
    (.after (gsqUnquench_effects Scope.noConfusion) (.after (pscUnquench_effects Scope.noConfusion) (answer_effects ..))))).laws
      (modFlc_laws (List.Sublist.refl _) (by simp))) (answer_effects ..).laws

theorem takeOp_laws {tag : Tag} {code : Nat} {stored : Bool} {act : State → State} (h : KeepsLaws calm s (act s)) :
    KeepsLaws calm s (takeOp tag code stored act s) := .ite (answer_effects ..).laws h

/-! ## The end of a transaction -/

theorem endSupervisory_effects (w : Frame) (o : FieldOutcome) : Effects .operation s (endSupervisory w o s) := by
  cases o with
  | reply f => exact .after (offerUp_effects _) (.ite (observeValue_effects rfl f) (.ite (observeEcho_effects rfl f) (.refl _ s)))
  | corrupt => exact refuse_effects w 3
  | noReply => exact refuse_effects w 2
  | guardEnd => exact .refl _ s

/-- A command without a usable reply is put back or FAILS (R19). -/
theorem retryCommand_cases (p : PointId) (v : Word) (n : Nat) (s : State) :
    retryCommand p v n s = s.modFlc
      (fun f => { f with commandQueue := f.commandQueue ++ [{ point := p, value := v, attempt := 2 }] }) ∨
    retryCommand p v n s = commandOutcome p true s := by
  unfold retryCommand
  split
  · exact .inl rfl
  · exact .inr rfl

/-- The end of a command whose reply is acceptable (R19, R58). -/
theorem endCommand_reply (p : PointId) (v : Word) (n : Nat) (f : Frame) (s : State) :
    endCommand p v n (.reply f) s =
      if (if f.kind = kindEcho then applyEcho p (f.payload.head?.getD 0) s else s).queued p then
        (if f.kind = kindEcho then applyEcho p (f.payload.head?.getD 0) s else s)
      else commandOutcome p (!(f.kind == kindEcho)) (if f.kind = kindEcho then applyEcho p (f.payload.head?.getD 0) s else s) := rfl

/-- The end of a command without an acceptable reply (R19, R20). -/
theorem endCommand_noReply (p : PointId) (v : Word) (n : Nat) {o : FieldOutcome} (ho : ∀ f, o ≠ .reply f) (s : State) :
    endCommand p v n o s = if s.queued p then s else retryCommand p v n s := by
  cases o with
  | reply f => exact absurd rfl (ho f)
  | corrupt | noReply | guardEnd => rfl

/-- The end of a transaction of origin COMMAND puts the command back when no newer entry waits, or is an observation. -/
theorem endCommand_cases (p : PointId) (v : Word) (n : Nat) (o : FieldOutcome) (s : State) :
    Effects .observation s (endCommand p v n o s) ∨
    (s.queued p = false ∧ endCommand p v n o s =
      s.modFlc fun f => { f with commandQueue := f.commandQueue ++ [{ point := p, value := v, attempt := 2 }] }) := by
  by_cases ho : ∃ f, o = .reply f
  · obtain ⟨f, rfl⟩ := ho
    have h1 : Effects .observation s (if f.kind = kindEcho then applyEcho p (f.payload.head?.getD 0) s else s) :=
      .ite (applyEcho_effects rfl _ _) (.refl _ s)
    rw [endCommand_reply]
    exact .inl (.ite h1 (.after (commandOutcome_effects (.inl rfl) p) h1))
  · rw [endCommand_noReply p v n fun f hf => ho ⟨f, hf⟩]
    split
    · exact .inl (.refl _ s)
    · rename_i hq
      obtain h | h := retryCommand_cases p v n s
      · exact .inr ⟨by simpa using hq, h⟩
      · exact .inl (h ▸ commandOutcome_effects (.inl rfl) p)

theorem endCommand_laws (p : PointId) (v : Word) (n : Nat) (o : FieldOutcome) (hl : calm → s.flc.line ≠ .quenched) :
    KeepsLaws calm s (endCommand p v n o s) := by
  obtain h | ⟨hq, h⟩ := endCommand_cases p v n o s
  · exact h.laws
  · exact h ▸ putBack_laws hq hl

theorem endCommand_flc_rest (p : PointId) (v : Word) (n : Nat) (o : FieldOutcome) (s : State) :
    (endCommand p v n o s).flc.rest = s.flc.rest := by
  obtain h | ⟨-, h⟩ := endCommand_cases p v n o s
  · exact h.flc_rest
  · exact h ▸ rfl

/-- What the end of a transaction does before a pending quench is entered (R15, R16, R19, R20; log entry 14). -/
def endOrigin (x : Transaction) (o : FieldOutcome) (s : State) : State :=
  match x.origin with
  | .supervisory original => endSupervisory original o s
  | .command p v attempt => endCommand p v attempt o s
  | .scan _ => match o with
    | .reply f => if f.kind = kindValue then observeValue f s else s
    | _ => s

theorem endTransaction_eq (x : Transaction) (o : FieldOutcome) (s : State) : endTransaction x o s =
    if (endOrigin x o (s.modFlc fun f => { f with transaction := none })).flc.line = .quenchPending then
      enterQuenched (endOrigin x o (s.modFlc fun f => { f with transaction := none }))
    else endOrigin x o (s.modFlc fun f => { f with transaction := none }) := by
  unfold endTransaction endOrigin
  cases x.origin with
  | supervisory w => rfl
  | command p v n => rfl
  | scan e => cases o <;> rfl

theorem endOrigin_laws (x : Transaction) (o : FieldOutcome) (hl : calm → s.flc.line ≠ .quenched) :
    KeepsLaws calm s (endOrigin x o s) := by
  unfold endOrigin
  split
  · exact (endSupervisory_effects _ o).laws
  · exact endCommand_laws _ _ _ o hl
  · split
    · exact .ite (observeValue_effects (k := .observation) rfl _).laws (.refl _ s)
    · exact .refl _ s

theorem endOrigin_flc_rest (x : Transaction) (o : FieldOutcome) (s : State) : (endOrigin x o s).flc.rest = s.flc.rest := by
  unfold endOrigin
  split
  · exact (endSupervisory_effects _ o).flc_rest
  · exact endCommand_flc_rest ..
  · split
    · split
      · exact (observeValue_effects (k := .observation) rfl _).flc_rest
      · rfl
    · rfl

theorem endOrigin_transaction (x : Transaction) (o : FieldOutcome) (s : State) :
    (endOrigin x o s).flc.transaction = s.flc.transaction := (congrArg Flc.transaction (endOrigin_flc_rest x o s) :)

theorem endOrigin_line (x : Transaction) (o : FieldOutcome) (s : State) : (endOrigin x o s).flc.line = s.flc.line :=
  (congrArg Flc.line (endOrigin_flc_rest x o s) :)

theorem endTransaction_laws (x : Transaction) (o : FieldOutcome) (hl : calm → s.flc.line ≠ .quenched) :
    KeepsLaws calm s (endTransaction x o s) := by
  have h1 := KeepsLaws.after (endOrigin_laws (calm := calm)
      (s := s.modFlc fun f => { f with transaction := none }) x o hl) freeLine_laws
  rw [endTransaction_eq]
  exact .ite (.after (enterQuenched_laws (endOrigin_transaction x o _)) h1) h1

/-! ## Arrivals and expiries on the ports -/

theorem fieldArrival_laws (ws : List Word) : KeepsLaws calm s (fieldArrival ws s) := by
  unfold fieldArrival
  split
  · split
    · rename_i h
      obtain ⟨-, hl⟩ := h
      split
      · exact endTransaction_laws _ _ fun _ => hl
      · exact .ite (endTransaction_laws _ _ fun _ => hl) (.refl _ s)
    · exact .refl _ s
  · exact .refl _ s

theorem fieldExpiry_laws (phase : Phase) (o : FieldOutcome) :
    KeepsLaws (s.flc.line = .quenched → s.flc.transaction = none) s (fieldExpiry phase o s) := by
  unfold fieldExpiry
  split
  · rename_i x hx
    refine .ite ?_ (.refl _ s)
    unfold onExpiry
    split
    · refine .after (endTransaction_laws x o fun hc hl => ?_) (advance_effects _).laws
      exact absurd (hx.symm.trans (hc hl)) (by simp)
    · exact .refl _ s
  · exact .refl _ s

theorem fieldSendEnds_laws : KeepsLaws calm s (fieldSendEnds s) := by
  unfold fieldSendEnds
  split
  · rename_i x hx
    refine .ite ?_ (.refl _ s)
    exact
      { queues := id
        levels := id
        commands := id
        idle := fun _ h hl => by
          obtain ⟨htx, -⟩ := h hl
          simp [hx] at htx }
  · exact .refl _ s

theorem linkArrival_laws : KeepsLaws calm s (linkArrival s) := by
  have h1 : KeepsLaws calm s
      (s.modUpp fun u => { u with link := .up, silence := .start s.now (1000 * s.cfg.line.silencePeriod) }) :=
    modUpp_laws (fun _ => rfl) (Nat.le_refl _)
  have hn : ∀ (t : State) (code : Nat), code < 0x8000 → KeepsLaws calm t (raiseNotice code [] t) := fun _ _ h =>
    (raiseNotice_effects (k := .operation) h).laws
  unfold linkArrival
  simp only
  refine .ite (.ite (.after (hn _ 17 (by decide)) ?_) (.after (hn _ 1 (by decide)) h1)) h1
  exact .after (modMgu_effects _).laws (.after (hn _ 1 (by decide)) h1)

theorem scanFallsDue_laws (e : ScanId) : KeepsLaws calm s (scanFallsDue e s) := by
  unfold scanFallsDue
  simp only
  split
  · exact (startDue_effects e).laws
  · rename_i h
    exact .after (modFlc_laws (List.Sublist.refl _) fun hl => h (.inl hl)) (startDue_effects e).laws

theorem transmitHead_laws : KeepsLaws calm s (transmitHead s) := by
  unfold transmitHead
  split
  · rename_i e rest _ hq
    exact modUpp_laws (fun _ => rfl) (by simp [hq])
  · exact .refl _ s

theorem transmitEnds_laws : KeepsLaws calm s (transmitEnds s) := by
  unfold transmitEnds
  split
  · exact .ite (.after (modMgu_effects _).laws (modUpp_laws (fun _ => rfl) (Nat.le_refl _)))
      (modUpp_laws (fun _ => rfl) (Nat.le_refl _))
  · exact .refl _ s

theorem linkSilent_laws : KeepsLaws calm s (linkSilent s) :=
  .after linkLost_effects.laws (modUpp_laws (fun _ => rfl) (Nat.le_refl _))

/-! ## Management frames -/

theorem snapshotTakeOp_effects (s : State) : Effects .operation s (snapshotTakeOp s).2.2 :=
  .third (.after (modMgu_effects _) nextFree_effects)

theorem manageHoldSet_effects (tag : Tag) : Effects .operation s (manageHoldSet tag s) := by
  unfold manageHoldSet
  exact takeOp_effects (.after (answer_effects ..) (modStc_effects _))

theorem manageHoldClear_effects (tag : Tag) : Effects .operation s (manageHoldClear tag s) := by
  unfold manageHoldClear
  exact takeOp_effects (.after (answer_effects ..) (modStc_effects _))

theorem managePumpReset_effects (tag : Tag) (ops : List Word) : Effects .operation s (managePumpReset tag ops s) := by
  unfold managePumpReset
  exact takeOp_effects (.after (answer_effects ..) (pumpResetOp_effects ops))

theorem manageBarrierReset_effects (tag : Tag) (ops : List Word) : Effects .operation s (manageBarrierReset tag ops s) := by
  unfold manageBarrierReset
  exact takeOp_effects (.after (answer_effects ..) (barrierResetOp_effects ops))

theorem manage_laws (tag : Tag) (op : Word) (ops : List Word) : KeepsLaws calm s (manage tag op ops s) := by
  unfold manage
  split
  · exact (takeData_effects (mapWriteOp_effects ops)).laws
  · exact (takeData_effects (mapReadOp_effects ops)).laws
  · exact (takeData_effects (demapKeyOp_effects ops)).laws
  · exact (takeData_effects (demapPlanOp_effects ops)).laws
  · exact (takeData_effects demapAllOp_effects).laws
  · exact (takeData_effects (missGetOp_effects ops)).laws
  · exact (configure_effects (pointSetOp_effects ops)).laws
  · exact (takeData_effects (pointGetOp_effects ops)).laws
  · exact (configure_effects (scanSetOp_effects ops)).laws
  · exact (manageSumpSet_effects tag ops).laws
  · exact (manageGeometrySet_effects tag ops).laws
  · exact (managePumpSet_effects tag ops).laws
  · exact (configure_effects (barrierSetOp_effects ops)).laws
  · exact (configure_effects (gateSetOp_effects ops)).laws
  · exact (configure_effects (zoneSetOp_effects ops)).laws
  · exact (configure_effects (curveSetOp_effects ops)).laws
  · exact (configure_effects (stageSetOp_effects ops)).laws
  · exact (configure_effects (planSetOp_effects ops)).laws
  · exact (configure_effects (supplySetOp_effects ops)).laws
  · exact (configure_effects (lineSetOp_effects ops)).laws
  · exact (manageRecordGet_effects tag ops).laws
  · exact (takeData_effects (faultGetOp_effects ops)).laws
  · exact (takeData_effects (snapshotTakeOp_effects s)).laws
  · exact (takeData_effects snapshotNextOp_effects).laws
  · exact (manageHoldSet_effects tag).laws
  · exact (manageHoldClear_effects tag).laws
  · exact (takeOp_effects (advanceOp_effects tag)).laws
  · exact (takeOp_effects (releaseOp_effects tag)).laws
  · exact takeOp_laws (quenchOp_laws tag)
  · exact takeOp_laws (unquenchOp_laws tag)
  · exact (takeOp_effects (statusClearOp_effects tag)).laws
  · exact (managePumpReset_effects tag ops).laws
  · exact (manageBarrierReset_effects tag ops).laws
  · exact (takeOp_effects (commitOp_effects tag)).laws
  · exact (takeOp_effects (restartOp_effects tag)).laws
  · exact (takeOp_effects (answer_effects ..)).laws

end Sys2Proof.Machine
end

section
/-! PROOFS. The invariants of the queues and of the field work (R6, R8, R17, R21, R22, R53, R128): each command keeps the four
laws. -/

set_option Elab.async false

namespace Sys2Proof.Machine

variable {s t u : State} {calm : Prop}

/-! ## Frames and resets -/

theorem sortFrame_laws (f : Frame) : KeepsLaws calm s (sortFrame f s) := by
  unfold sortFrame
  refine .ite ?_ (.ite (offerDown_laws f) (refuse_effects f 4).laws)
  split
  · exact manage_laws ..
  · exact .refl _ s

theorem upstreamArrival_laws (ws : List Word) : KeepsLaws calm s (upstreamArrival ws s) := by
  unfold upstreamArrival
  split
  · exact (logFault_effects (k := .operation) _).laws
  · exact .after (sortFrame_laws _) linkArrival_laws

theorem firstReports_effects {k : Scope} : Effects k s (firstReports s) :=
  .after quiesce_effects (.after gsqReadiness_effects (.after summaryReport_effects pscReadiness_effects))

theorem resetPim_levels (c : Tables) (now : Nat) (q : QueueId) : (Tab.get (resetPim c now).queues q).entries = [] := by
  simp [resetPim, Tab.get]

/-- A state set anew meets the four laws. -/
theorem KeepsLaws.of_anew (hu : t.upp.upstream = []) (hd : t.upp.downstream = []) (hf : t.flc = {})
    (hq : ∀ q : QueueId, (t.levelQueue q).entries = []) (hl : t.lau.queue = []) : KeepsLaws calm s t where
  queues _ := by simp [State.QueuesBounded, hu, hd]
  levels _ q := by simp [hq q]
  commands _ := by simp [State.CommandsDistinct, hf]
  idle _ _ _ := by simp [hf, hd, hl]

theorem por_laws : KeepsLaws calm s (por s) :=
  .after (firstReports_effects (k := .operation)).laws
    (.of_anew rfl rfl rfl (fun q => resetPim_levels _ 0 q) rfl)

theorem restartPerformed_laws : KeepsLaws calm s (restartPerformed s) :=
  .after (firstReports_effects (k := .operation)).laws
    (.of_anew rfl rfl rfl (fun q => resetPim_levels s.cfg s.now q) rfl)

theorem onExpiry_laws {x : Timer} {act : State → State} (h : ∀ s, KeepsLaws calm s (act s)) : KeepsLaws calm s
    (onExpiry x s act) := by
  unfold onExpiry
  split
  · exact .after (h _) (advance_effects _).laws
  · exact .refl _ s

/-! ## Each command -/

/-- A management command is the operation that its MANAGE frame names. -/
theorem exec_operation {c : Instr} {f : Frame} (hf : commandFrame c = some f) (hc : ∀ tag w, c ≠ .unknownOp tag w) :
    ∃ tag op ops, f = manageFrame tag (op :: ops) ∧ ∀ s, exec c s = .next (quiesce (manage tag op ops s)) := by
  cases c
  case unknownOp tag w => exact absurd rfl (hc tag w)
  all_goals cases hf
  all_goals exact ⟨_, _, _, rfl, fun _ => rfl⟩

/-- A command ends with the blocks at rest. -/
theorem next_laws (h : KeepsLaws calm s u) (ht : (Host.Outcome.next (quiesce u) : Host.Outcome State Fault Refusal) = .next t) :
    KeepsLaws calm s t := by
  cases ht
  exact .after (quiesce_effects (k := .operation)).laws h

theorem operation_laws {c : Instr} {f : Frame} (h : exec c s = .next t) (hf : commandFrame c = some f)
    (hc : ∀ tag w, c ≠ .unknownOp tag w) : KeepsLaws calm s t := by
  obtain ⟨tag, op, ops, -, hexec⟩ := exec_operation hf hc
  exact next_laws (manage_laws tag op ops) ((hexec s).symm.trans h)

theorem exec_laws (c : Instr) (h : exec c s = .next t) :
    KeepsLaws (s.flc.line = .quenched → s.flc.transaction = none) s t := by
  cases c with
  | powerOn => exact next_laws por_laws h
  | resetInput => exact next_laws por_laws h
  | upstreamFrameArrival words => exact next_laws (upstreamArrival_laws words) h
  | linkSilenceExpiry => exact next_laws (onExpiry_laws fun _ => linkSilent_laws) h
  | upstreamTransmit => exact next_laws transmitHead_laws h
  | upstreamTransmitEnd => exact next_laws transmitEnds_laws h
  | fieldArbiterGrant => exact next_laws (grantLoop_laws 256) h
  | fieldSendEnd => exact next_laws fieldSendEnds_laws h
  | fieldFrameArrival words => exact next_laws (fieldArrival_laws words) h
  | replyWindowExpiry => exact next_laws (fieldExpiry_laws .awaiting .noReply) h
  | guardExpiry => exact next_laws (fieldExpiry_laws .guard .guardEnd) h
  | pointFreshnessExpiry p => exact next_laws (onExpiry_effects fun _ => freshnessExpiry_effects rfl p).laws h
  | scanDueExpiry e => exact next_laws (onExpiry_laws fun _ => scanFallsDue_laws e) h
  | mapStorageFault l flips => exact next_laws (storageFault_effects l flips).laws h
  | stepEnd => exact next_laws stepEndOp_effects.laws h
  | storeCommitComplete => exact next_laws commitCompletes_effects.laws h
  | restartPerform => exact next_laws (.ite restartPerformed_laws (.refl _ s)) h
  | unknownOp tag w => exact next_laws (takeOp_effects (answer_effects ..)).laws h
  | drainageCycleStart => exact next_laws (onExpiry_effects fun _ => cycleStart_effects rfl).laws h
  | drainageCycleCompletion => exact next_laws cycleCompletes_effects.laws h
  | descentTimerExpiry => exact next_laws (onExpiry_effects fun _ => descend_effects).laws h
  | reopenTimerExpiry => exact next_laws (onExpiry_effects fun _ => modStc_effects _).laws h
  | deriveTimerExpiry => exact next_laws (onExpiry_effects fun _ => modStc_effects _).laws h
  | overrideExpiry p => exact next_laws (onExpiry_effects fun _ => removeOverride_effects p _ .expired).laws h
  | inrushWindowExpiry => exact next_laws (onExpiry_effects fun _ => windowCloses_effects).laws h
  | pumpStartConfirmExpiry p => exact next_laws (onExpiry_effects fun _ => startUnconfirmed_effects p).laws h
  | pumpStopConfirmExpiry p => exact next_laws (onExpiry_effects fun _ => stopUnconfirmed_effects p).laws h
  | pumpMinimumOffExpiry p => exact next_laws (onExpiry_effects fun _ => offTimePasses_effects p).laws h
  | pumpHourWindowExpiry p => exact next_laws (onExpiry_effects fun _ => hourPasses_effects p).laws h
  | barrierWarnExpiry b => exact next_laws (onExpiry_effects fun _ => warnPasses_effects b).laws h
  | barrierClearanceExpiry b => exact next_laws (onExpiry_effects fun _ => clearancePasses_effects b).laws h
  | barrierTravelExpiry b => exact next_laws (onExpiry_effects fun _ => travelPasses_effects b).laws h
  | gateOpenDwellExpiry => exact next_laws (onExpiry_effects fun _ => dwellPasses_effects).laws h
  | gateTravelExpiry => exact next_laws (onExpiry_effects fun _ => gateTravelPasses_effects).laws h
  | lightingEvaluation => exact next_laws (onExpiry_effects fun _ => lightingTick_effects).laws h
  | _ => exact operation_laws h rfl nofun

theorem step_laws (h : step s = .next t) : KeepsLaws (s.flc.line = .quenched → s.flc.transaction = none) s t := by
  unfold step at h
  split at h
  · cases h
    exact (advance_effects _).laws
  · obtain ⟨hqueues, hlevels, hcommands, hidle⟩ := exec_laws _ h
    exact ⟨hqueues, hlevels, hcommands, hidle⟩

/-! ## The obligations -/

/-- Settles O11: every command keeps the bounds of the queues (`step_laws`). -/
theorem queuesStayBounded : Obligations.QueuesStayBounded :=
  ⟨fun _ _ hs h => (step_laws h).queues hs, fun _ _ hs h => (step_laws h).levels hs⟩

/-- Settles O19: every command keeps the points of the Command Queue distinct and leaves a QUENCHED line without work
(`step_laws`). -/
theorem fieldWorkStaysLawful : Obligations.FieldWorkStaysLawful :=
  ⟨fun _ _ hs h => (step_laws h).commands hs, fun _ _ hs h => (step_laws h).idle (fun hl => (hs hl).1) hs⟩

end Sys2Proof.Machine
end

section
/-! PROOFS. Frames as words (R1), and the management frames as commands (R4, R5, R177). -/

set_option Elab.async false

namespace Sys2Proof.Machine

variable {s t : State}

/-! ## The fields of the header words -/

theorem Frame.word0_kind (f : Frame) : f.word0.extractLsb' 13 3 = f.kind :=
  (BitVec.extractLsb'_append_eq_of_le (by decide)).trans
    ((BitVec.extractLsb'_append_eq_of_le (by decide)).trans BitVec.extractLsb'_append_eq_left)

theorem Frame.word0_tag (f : Frame) : f.word0.extractLsb' 9 4 = f.tag :=
  (BitVec.extractLsb'_append_eq_of_le (by decide)).trans
    ((BitVec.extractLsb'_append_eq_of_le (by decide)).trans BitVec.extractLsb'_append_eq_right)

theorem Frame.word0_count (f : Frame) : f.word0.extractLsb' 4 5 = BitVec.ofNat 5 f.payload.length :=
  (BitVec.extractLsb'_append_eq_of_le (by decide)).trans BitVec.extractLsb'_append_eq_right

theorem Frame.word0_reserved (f : Frame) : f.word0.extractLsb' 0 4 = f.reserved := BitVec.extractLsb'_append_eq_right

theorem Frame.word1_dst (f : Frame) : f.word1.extractLsb' 10 6 = f.dst :=
  (BitVec.extractLsb'_append_eq_of_le (by decide)).trans BitVec.extractLsb'_append_eq_left

theorem Frame.word1_src (f : Frame) : f.word1.extractLsb' 4 6 = f.src :=
  (BitVec.extractLsb'_append_eq_of_le (by decide)).trans BitVec.extractLsb'_append_eq_right

theorem Frame.word1_channel (f : Frame) : f.word1.extractLsb' 0 4 = f.channel := BitVec.extractLsb'_append_eq_right

theorem word0_of_fields (w : Word) :
    (w.extractLsb' 13 3 ++ w.extractLsb' 9 4 ++ w.extractLsb' 4 5 ++ w.extractLsb' 0 4 : BitVec (3 + 4 + 5 + 4)) = w := by
  rw [BitVec.extractLsb'_append_extractLsb'_eq_extractLsb' (show 13 = 9 + 4 from rfl),
    BitVec.extractLsb'_append_extractLsb'_eq_extractLsb' (show 9 = 4 + 5 from rfl),
    BitVec.extractLsb'_append_extractLsb'_eq_extractLsb' (show 4 = 0 + 4 from rfl)]
  exact BitVec.extractLsb'_eq_self

theorem word1_of_fields (w : Word) :
    (w.extractLsb' 10 6 ++ w.extractLsb' 4 6 ++ w.extractLsb' 0 4 : BitVec (6 + 6 + 4)) = w := by
  rw [BitVec.extractLsb'_append_extractLsb'_eq_extractLsb' (show 10 = 4 + 6 from rfl),
    BitVec.extractLsb'_append_extractLsb'_eq_extractLsb' (show 4 = 0 + 4 from rfl)]
  exact BitVec.extractLsb'_eq_self

/-! ## Encoding and decoding -/

/-- A frame of a payload that its count field can tell is decoded from its encoding. -/
theorem decode_encode {f : Frame} (h : f.payload.length ≤ 31) : Frame.decode f.encode = some f := by
  have hcount : countField f.word0 = f.payload.length := by
    rw [countField, f.word0_count, BitVec.toNat_ofNat, Nat.mod_eq_of_lt (by omega)]
  simp only [Frame.encode, Frame.covered, List.cons_append, Frame.decode, hcount, List.length_append, List.length_singleton,
    List.getLast?_concat, List.dropLast_concat, and_self, if_true, f.word0_kind, f.word0_tag, f.word0_reserved, f.word1_dst,
    f.word1_src, f.word1_channel]

/-- The header word 0 of a frame put together from the fields of a word. -/
theorem Frame.word0_eq {f : Frame} {w : Word} (hkind : f.kind = w.extractLsb' 13 3) (htag : f.tag = w.extractLsb' 9 4)
    (hcount : f.payload.length = countField w) (hreserved : f.reserved = w.extractLsb' 0 4) : f.word0 = w := by
  rw [Frame.word0, hkind, htag, hcount, hreserved, countField, BitVec.ofNat_toNat, BitVec.setWidth_eq]
  exact word0_of_fields w

/-- Words that decode to a frame are its encoding. -/
theorem encode_of_decode {ws : List Word} {f : Frame} (h : Frame.decode ws = some f) :
    f.payload.length ≤ 31 ∧ ws = f.encode := by
  match ws with
  | [] | [_] => cases h
  | w0 :: w1 :: rest =>
    rw [Frame.decode, Option.ite_none_right_eq_some, Option.some_inj] at h
    obtain ⟨⟨hlen, hlast⟩, rfl⟩ := h
    have hpay : rest.dropLast.length = countField w0 := by rw [List.length_dropLast, hlen, Nat.add_sub_cancel]
    have hbound : countField w0 < 32 := (w0.extractLsb' 4 5).isLt
    refine ⟨by rw [hpay]; omega, ?_⟩
    rw [Frame.encode, Frame.covered, Frame.word0_eq rfl rfl hpay rfl, Frame.word1]
    rw [show ((w1.extractLsb' 10 6 ++ w1.extractLsb' 4 6 ++ w1.extractLsb' 0 4 : BitVec
        (6 + 6 + 4)) : Word) = w1 from word1_of_fields w1]
    rw [List.cons_append, List.cons_append, List.dropLast_append_getLast? _ hlast]

/-- Settles O4: decoding inverts encoding (`decode_encode`), and only encodings decode (`encode_of_decode`). -/
theorem frameCodingRoundTrip : Obligations.FrameCodingRoundTrip := fun _ _ =>
  ⟨encode_of_decode, fun ⟨hlen, hws⟩ => hws ▸ decode_encode hlen⟩

/-! ## A management command and its MANAGE frame -/

/-- An operation word that Table 1-5 does not have is answered UNKNOWN_OP (R177). -/
theorem manage_unknown {tag : Tag} {w : Word} (h : knownOp w = false) (ops : List Word) (s : State) :
    manage tag w ops s = manageUnknown tag w s := by
  unfold manage
  split
  case h_36 => rfl
  all_goals
    rename_i hw
    simp [knownOp, hw, opCodes] at h

/-- A well-formed management command is the operation that its MANAGE frame names. -/
theorem exec_eq_manage {c : Instr} {f : Frame} (hwf : c.wellFormed = true) (hf : commandFrame c = some f) :
    ∃ tag op ops, f = manageFrame tag (op :: ops) ∧ ∀ s, exec c s = .next (quiesce (manage tag op ops s)) := by
  by_cases hc : ∃ tag w, c = .unknownOp tag w
  · obtain ⟨tag, w, rfl⟩ := hc
    cases hf
    exact ⟨_, _, _, rfl, fun s => congrArg (fun t => Host.Outcome.next (quiesce t))
      (manage_unknown (by simpa [Instr.wellFormed] using hwf) [] s).symm⟩
  · exact exec_operation hf fun tag w h => hc ⟨tag, w, h⟩

/-- The arrival of a frame that passes its check (R4). -/
theorem upstreamArrival_of_decode {ws : List Word} {f : Frame} (h : Frame.decode ws = some f) (s : State) :
    upstreamArrival ws s = sortFrame f (linkArrival s) := by
  rw [upstreamArrival, h]

/-- A MANAGE frame carries the operation word and at most 15 operand words (Table 1-3). -/
theorem commandFrame_payload_length {c : Instr} {f : Frame} (hwf : c.wellFormed = true) (hf : commandFrame c = some f) :
    f.payload.length ≤ 16 := by
  cases c
  all_goals cases hf
  all_goals
    simp only [manageFrame, List.length_cons, List.length_nil]
    grind [Instr.wellFormed]

/-- Settles O5: the arrival of the encoded frame (`decode_encode`) performs the operation that the command is (`exec_eq_manage`). -/
theorem managementFrameIsCommand : Obligations.ManagementFrameIsCommand := by
  intro c f s hwf hf
  have hlen := commandFrame_payload_length hwf hf
  obtain ⟨tag, op, ops, rfl, hexec⟩ := exec_eq_manage hwf hf
  have hman : (manageFrame tag (op :: ops)).isManagement = true :=
    Laws.Carried.manageFrame_isManagement tag _ ⟨by simp, hlen⟩
  have harrive : upstreamArrival (manageFrame tag (op :: ops)).encode s = manage tag op ops (linkArrival s) := by
    rw [upstreamArrival_of_decode (decode_encode (hlen.trans (by decide))), sortFrame, if_pos hman]
    rfl
  rw [hexec]
  exact congrArg (fun t => Host.Outcome.next (quiesce t)) harrive

end Sys2Proof.Machine
end

section
/-! PROOFS. The Upstream Port (R2 to R9): offers, notices, sorting, transmission, link supervision. -/

set_option Elab.async false

namespace Sys2Proof.Machine

variable {s t u : State}

/-- A command that has the effect u, at rest, answers u. -/
theorem exec_of_rest {c : Instr} (h : exec c s = .next (quiesce u)) (hu : u.AtRest) : exec c s = .next u :=
  h.trans (next_quiesce_of_rest hu)

/-- An operation that keeps the events under delivery and the LAU keeps the state at rest. -/
theorem State.AtRest.of_same (h : s.AtRest) (hs : t.signals = s.signals) (hl : t.lau = s.lau) : t.AtRest := atRest_of_same h hs hl

/-! ## Offers to the Upstream Queue -/

theorem dropOldestNotice_of_notice {before after : List UpEntry} {n : UpEntry} (hn : n.frame.isNotice = true)
    (hb : ∀ x ∈ before, x.frame.isNotice = false) : dropOldestNotice (before ++ n :: after) = some (before ++ after) := by
  induction before with
  | nil => simp [dropOldestNotice, hn]
  | cons e before ih =>
    obtain ⟨he, hb⟩ := List.forall_mem_cons.mp hb
    simp [dropOldestNotice, he, ih hb]

theorem dropOldestNotice_of_none {l : List UpEntry} (h : ∀ x ∈ l, x.frame.isNotice = false) : dropOldestNotice l = none := by
  induction l with
  | nil => rfl
  | cons e l ih =>
    obtain ⟨he, hl⟩ := List.forall_mem_cons.mp h
    simp [dropOldestNotice, he, ih hl]

theorem offerUp_room (e : UpEntry) (h : s.upp.upstream.length < 16) :
    offerUp e s = { s with upp := { s.upp with upstream := s.upp.upstream ++ [e] } } := if_pos h

theorem offerUp_displace {e n : UpEntry} {before after : List UpEntry} (hfull : 16 ≤ s.upp.upstream.length)
    (hq : s.upp.upstream = before ++ n :: after) (hn : n.frame.isNotice = true) (hb : ∀ x ∈ before, x.frame.isNotice = false) :
    offerUp e s = { s with upp := { s.upp with upstream := before ++ after ++ [e] } } := by
  rw [offerUp, if_neg (Nat.not_lt.mpr hfull), hq, dropOldestNotice_of_notice hn hb]
  rfl

theorem offerUp_overrun {e : UpEntry} (hfull : 16 ≤ s.upp.upstream.length) (hb : ∀ x ∈ s.upp.upstream, x.frame.isNotice = false) :
    offerUp e s = logFault { cls := .upstreamOverrun, detail := 0, kind := e.frame.kind }
      (if e.restartAnswer = true then { s with mgu := { s.mgu with restart := .ready } } else s) := by
  rw [offerUp, if_neg (Nat.not_lt.mpr hfull), dropOldestNotice_of_none hb]
  rfl

/-- Settles O8, by the room of the queue and the place of its oldest NOTICE. -/
theorem upstreamQueueOffer : Obligations.UpstreamQueueOffer := by
  refine ⟨fun e _ h => offerUp_room e h, fun _ _ _ _ _ => offerUp_displace, fun _ _ => offerUp_overrun, fun code data s => ?_⟩
  simp only
  constructor
  · intro h
    simp only [raiseNotice, State.modUpp, if_pos h]
    rfl
  · intro h
    simp only [raiseNotice, State.modUpp, if_neg (Nat.not_lt.mpr h)]

/-! ## Transmission -/

theorem transmitHead_of_head {e : UpEntry} {rest : List UpEntry} (hfree : s.upp.transmitter = none)
    (hq : s.upp.upstream = e :: rest) :
    transmitHead s = s.modUpp fun u => { u with transmitter := some e, upstream := rest } := by
  rw [transmitHead, hfree, hq]

theorem transmitHead_idle (h : s.upp.transmitter.isSome = true ∨ s.upp.upstream = []) : transmitHead s = s := by
  unfold transmitHead
  split
  · rename_i hfree hq
    simp [hfree, hq] at h
  · rfl

theorem transmitEnds_of_some {e : UpEntry} (h : s.upp.transmitter = some e) :
    transmitEnds s = { s with upp := { s.upp with transmitter := none }
                              mgu := { s.mgu with restart := if e.restartAnswer = true then .ready else s.mgu.restart } } := by
  rw [transmitEnds, h]
  simp only
  split
  · rfl
  · rfl

/-- Settles O10. -/
theorem upstreamTransmission : Obligations.UpstreamTransmission := by
  intro s hs
  refine ⟨fun e rest hfree hq => ?_, fun h => ?_, fun e h => ?_, fun h => ?_⟩
  · exact exec_of_rest (congrArg (fun t => Host.Outcome.next (quiesce t)) (transmitHead_of_head hfree hq)) hs
  · exact exec_of_rest (congrArg (fun t => Host.Outcome.next (quiesce t)) (transmitHead_idle h)) hs
  · exact exec_of_rest (congrArg (fun t => Host.Outcome.next (quiesce t)) (transmitEnds_of_some h)) hs
  · exact exec_of_rest (congrArg (fun t => Host.Outcome.next (quiesce t)) (by rw [transmitEnds, h])) hs

/-! ## Sorting -/

theorem Frame.isManagement_iff (f : Frame) : f.isManagement = true ↔
    f.dst = 63 ∧ f.kind = 6 ∧ f.src = 62 ∧ 1 ≤ f.payload.length ∧ f.payload.length ≤ 16 ∧ f.reserved = 0 := decide_eq_true_iff

theorem Frame.readOk_iff (f : Frame) : f.readOk = true ↔
    f.dst ≠ 0 ∧ ∃ w : Word, f.payload = [w] ∧ 1 ≤ w.toNat ∧ w.toNat ≤ 8 ∧ f.channel.toNat + w.toNat ≤ 16 := by
  have hhigh : ∀ w : Word, w.toNat ≤ 8 → w.extractLsb' 4 12 = 0 := by
    intro w hw
    apply BitVec.eq_of_toNat_eq
    rw [BitVec.extractLsb'_toNat, Nat.shiftRight_eq_div_pow, Nat.div_eq_of_lt (by omega)]
    rfl
  unfold Frame.readOk
  split
  · rename_i w hw
    rw [decide_eq_true_iff]
    constructor
    · rintro ⟨-, hlow, hspan, hfit, hdst⟩
      exact ⟨hdst, w, hw, hlow, hspan, hfit⟩
    · rintro ⟨hdst, v, hv, hlow, hspan, hfit⟩
      obtain rfl : w = v := List.head_eq_of_cons_eq (hw.symm.trans hv)
      exact ⟨hhigh w hspan, hlow, hspan, hfit, hdst⟩
  · rename_i hne
    simp only [Bool.false_eq_true, false_iff]
    rintro ⟨-, w, hw, -⟩
    exact hne w hw

theorem Frame.isFieldBound_iff (f : Frame) : f.isFieldBound = true ↔
    f.dst.toNat ≤ 61 ∧ f.src = 62 ∧ f.reserved = 0 ∧
      ((f.kind = 0 ∧ f.dst ≠ 0 ∧ ∃ w : Word, f.payload = [w] ∧ 1 ≤ w.toNat ∧ w.toNat ≤ 8 ∧ f.channel.toNat + w.toNat ≤ 16) ∨
        (f.kind = 2 ∧ 1 ≤ f.payload.length ∧ f.payload.length ≤ 8 ∧ f.channel.toNat + f.payload.length ≤ 16)) := by
  simp only [Frame.isFieldBound, Bool.and_eq_true, Bool.or_eq_true, decide_eq_true_iff, beq_iff_eq, f.readOk_iff, Frame.writeOk,
    kindRead, kindWrite, and_assoc]

theorem word_of_lt {n : Nat} (h : n < 65536) : word n = BitVec.ofNat 16 n := if_pos h

theorem refuse_eq_offerUp (f : Frame) {reason : Nat} (h : reason < 65536) (s : State) : refuse f reason s =
    offerUp { frame := { kind := 4, tag := f.tag, reserved := 0, dst := 62, src := f.dst, channel := f.channel
                         payload := [BitVec.ofNat 16 reason] }
              restartAnswer := false } s := by
  rw [refuse, word_of_lt h]
  rfl

theorem answer_eq_offerUp (tag : Tag) {code : Nat} (h : code < 256) (status : Nat) (data : List Word) (s : State) :
    answer tag code status data s =
      offerUp { frame := { kind := 7, tag := tag, reserved := 0, dst := 62, src := 63, channel := 0
                           payload := BitVec.ofNat 16 code :: BitVec.ofNat 16 status :: (if status = 0 then data else []) }
                restartAnswer := false } s := by
  rw [answer, answerFrame, Nat.mod_eq_of_lt h]
  rfl

/-! What an arrival leaves for the sorting. -/

theorem linkArrival_signals (s : State) : (linkArrival s).signals = s.signals := by
  unfold linkArrival
  simp only
  repeat' split
  all_goals rfl

theorem linkArrival_lau (s : State) : (linkArrival s).lau = s.lau := by
  unfold linkArrival
  simp only
  repeat' split
  all_goals rfl

theorem linkArrival_flc (s : State) : (linkArrival s).flc = s.flc := by
  unfold linkArrival
  simp only
  repeat' split
  all_goals rfl

theorem linkArrival_downstream (s : State) : (linkArrival s).upp.downstream = s.upp.downstream := by
  unfold linkArrival
  simp only
  repeat' split
  all_goals rfl

/-- A frame that is no management frame joins the Downstream Queue or is refused (R5, R6). -/
theorem sortFrame_of_not_management {f : Frame} (h : f.isManagement = false) (s : State) : sortFrame f s =
    if f.isFieldBound = true then
      if s.flc.line = .quenched then refuse f 5 s
      else if s.upp.downstream.length < 8 then { s with upp := { s.upp with downstream := s.upp.downstream ++ [f] } }
      else refuse f 1 s
    else refuse f 4 s := by
  unfold sortFrame offerDown
  rw [if_neg (by simp [h])]
  simp only [← Nat.not_lt, ite_not]
  rfl

theorem sortFrame_rest {f : Frame} (h : f.isManagement = false) (hs : s.AtRest) : (sortFrame f s).AtRest := by
  rw [sortFrame_of_not_management h]
  repeat' split
  · exact hs.of_same (refuse_signals ..) (refuse_lau ..)
  · exact hs
  · exact hs.of_same (refuse_signals ..) (refuse_lau ..)
  · exact hs.of_same (refuse_signals ..) (refuse_lau ..)

/-- Settles O6: the sorting of a frame, the frames that the part forms, and the arrival of what is no management frame. -/
theorem upstreamFrameSorted : Obligations.UpstreamFrameSorted := by
  refine ⟨fun f => ⟨f.isManagement_iff, f.isFieldBound_iff⟩,
    ⟨fun f _ s h => refuse_eq_offerUp f h s, fun tag _ status data s h => answer_eq_offerUp tag h status data s⟩, ?_⟩
  intro ws s hs
  refine ⟨fun hnone => ?_, fun f hf hman => ?_⟩
  · have harrive : upstreamArrival ws s = logFault { cls := .line, detail := 3, kind := firstKind ws } s := by
      rw [upstreamArrival, hnone]
    exact exec_of_rest (congrArg (fun t => Host.Outcome.next (quiesce t)) harrive)
      (hs.of_same (logFault_signals ..) (logFault_lau ..))
  · have harrive := (upstreamArrival_of_decode hf s).trans (sortFrame_of_not_management hman (linkArrival s))
    have hrest := sortFrame_rest hman (hs.of_same (linkArrival_signals s) (linkArrival_lau s))
    rw [← linkArrival_flc s, ← linkArrival_downstream s]
    refine exec_of_rest (congrArg (fun t => Host.Outcome.next (quiesce t)) harrive) ?_
    rwa [← sortFrame_of_not_management hman]

end Sys2Proof.Machine
end

section
/-! PROOFS. Link supervision (R7, R98, R99, R184), with what a re-derivation leaves of the steady part of the state; the scan
table and its timers (R61, R62). -/

set_option Elab.async false

namespace Sys2Proof.Machine

variable {s t u : State}

/-! ## Re-derivations leave the steady part of the state as it is -/

@[simp] theorem barrierDerive_steady (b : BarrierId) (s : State) : (barrierDerive b s).steady = s.steady := by
  unfold barrierDerive
  simp only
  repeat' split
  all_goals simp

@[simp] theorem barrierRederive_steady (b : BarrierId) (s : State) : (barrierRederive b s).steady = s.steady := by
  unfold barrierRederive
  split <;> simp

@[simp] theorem barrierRederiveUnknown_steady (b : BarrierId) (s : State) : (barrierRederiveUnknown b s).steady = s.steady := by
  unfold barrierRederiveUnknown
  simp only
  repeat' split
  all_goals simp

@[simp] theorem barrierHoldLeave_steady (b : BarrierId) (s : State) : (barrierHoldLeave b s).steady = s.steady := by
  unfold barrierHoldLeave
  repeat' split
  all_goals simp

@[simp] theorem gateDerive_steady (s : State) : (gateDerive s).steady = s.steady := by
  unfold gateDerive
  simp only
  repeat' split
  all_goals simp

@[simp] theorem gateRederive_steady (s : State) : (gateRederive s).steady = s.steady := by
  unfold gateRederive
  split <;> simp

@[simp] theorem gateRederiveUnknown_steady (s : State) : (gateRederiveUnknown s).steady = s.steady := by
  unfold gateRederiveUnknown
  simp only
  repeat' split
  all_goals simp

@[simp] theorem gateHoldLeave_steady (s : State) : (gateHoldLeave s).steady = s.steady := by
  unfold gateHoldLeave
  repeat' split
  all_goals simp

@[simp] theorem pumpHoldFirst_steady (p : PumpId) (s : State) : (pumpHoldFirst p s).steady = s.steady := by
  unfold pumpHoldFirst
  simp only
  repeat' split
  all_goals simp

@[simp] theorem pumpHoldSecond_steady (p : PumpId) (s : State) : (pumpHoldSecond p s).steady = s.steady := by
  unfold pumpHoldSecond
  repeat' split
  all_goals simp

@[simp] theorem zoneHoldLeave_steady (z : ZoneId) (s : State) : (zoneHoldLeave z s).steady = s.steady := by
  unfold zoneHoldLeave
  split <;> simp

@[simp] theorem zoneUnquench_steady (z : ZoneId) (s : State) : (zoneUnquench z s).steady = s.steady := by
  unfold zoneUnquench
  split <;> simp

@[simp] theorem pscUnquench_steady (s : State) : (pscUnquench s).steady = s.steady :=
  eachDevice_steady s _ _ fun p s => pumpRederive_steady s p

@[simp] theorem gsqUnquench_steady (s : State) : (gsqUnquench s).steady = s.steady := by
  rw [gsqUnquench, lauSettle_steady, gateRederiveUnknown_steady, eachDevice_steady _ _ _ barrierRederiveUnknown_steady]

@[simp] theorem ltuUnquench_steady (s : State) : (ltuUnquench s).steady = s.steady := eachDevice_steady s _ _ zoneUnquench_steady

@[simp] theorem pscHoldLeave_steady (s : State) : (pscHoldLeave s).steady = s.steady := by
  rw [pscHoldLeave, eachDevice_steady _ _ _ pumpHoldSecond_steady, eachDevice_steady _ _ _ pumpHoldFirst_steady]

@[simp] theorem gsqHoldLeave_steady (s : State) : (gsqHoldLeave s).steady = s.steady := by
  rw [gsqHoldLeave, lauSettle_steady, gateHoldLeave_steady, eachDevice_steady _ _ _ barrierHoldLeave_steady]

@[simp] theorem ltuHoldLeave_steady (s : State) : (ltuHoldLeave s).steady = s.steady :=
  eachDevice_steady s _ _ zoneHoldLeave_steady

@[simp] theorem rederiveAll_steady (s : State) : (rederiveAll s).steady = s.steady := by
  rw [rederiveAll, quiesce_steady, ltuHoldLeave_steady, gsqHoldLeave_steady, pscHoldLeave_steady, lauSettle_steady,
    modLau_steady _ _ rfl rfl]

theorem rederiveAll_atRest (s : State) : (rederiveAll s).AtRest := quiesce_atRest _

/-! ## Link supervision -/

theorem onExpiry_running {x : Timer} {d : Nat} (h : x = .running d) (s : State) (act : State → State) :
    onExpiry x s act = act (s.advance d) := by
  rw [h]
  rfl

theorem onExpiry_idle {x : Timer} (h : ∀ d, x ≠ .running d) (s : State) (act : State → State) : onExpiry x s act = s := by
  cases x with
  | running d => exact absurd rfl (h d)
  | stopped | paused => rfl

theorem linkArrival_up (h : s.upp.link = .up) :
    linkArrival s = { s with upp := { s.upp with silence := .running (s.now + 1000 * s.cfg.line.silencePeriod) } } := by
  unfold linkArrival
  rw [if_neg (by simp [h]), ← h]
  rfl

theorem linkLost_of_running (h : s.stc.hold = .running) : linkLost s = s.modStc fun c => { c with holdRequest := false } := by
  rw [linkLost, h]

theorem linkLost_of_stepping (h : s.stc.hold = .stepping) : linkLost s =
    s.modStc fun c => { c with holdRequest := false, step := c.step.map fun r => { r with linkLost := true } } := by
  rw [linkLost, h]
  rfl

theorem linkLost_of_held (h : s.stc.hold = .held) : linkLost s =
    rederiveAll (raiseNotice 7 [1] (setHold .running (s.modStc fun c => { c with holdRequest := false }))) := by
  rw [linkLost, h]

/-- Settles O7: the arrival by link state, and the silence expiry by hold state. -/
theorem linkSupervision : Obligations.LinkSupervision := by
  refine ⟨fun s => linkArrival_up, fun s h => ?_, fun s hs => ⟨fun d hd => ?_, fun hidle => ?_⟩⟩
  · unfold linkArrival
    rw [if_pos h]
    rfl
  · have hexpiry : ∀ t : State, linkSilent (s.advance d) = t → exec .linkSilenceExpiry s = .next (quiesce t) := fun t ht =>
      congrArg (fun t => Host.Outcome.next (quiesce t)) ((onExpiry_running hd s linkSilent).trans ht)
    refine ⟨fun h => exec_of_rest (hexpiry _ (linkLost_of_running h)) hs,
      fun h => exec_of_rest (hexpiry _ (linkLost_of_stepping h)) hs, fun h => ?_⟩
    have hheld := exec_of_rest (hexpiry _ (linkLost_of_held h)) (rederiveAll_atRest _)
    exact ⟨hheld, _, hheld, rederiveAll_steady _⟩
  · exact exec_of_rest (congrArg (fun t => Host.Outcome.next (quiesce t)) (onExpiry_idle hidle s linkSilent)) hs

/-! ## Operand words -/

theorem opIn_eq {ops : List Word} {i lo hi : Nat} {w : Word} (hw : ops[i]? = some w) (hlo : lo ≤ w.toNat) (hhi : w.toNat ≤ hi) :
    opIn ops i lo hi = some w.toNat := by
  rw [opIn, hw]
  exact if_pos ⟨hlo, hhi⟩

theorem opFlag_eq {ops : List Word} {i : Nat} {w : Word} (hw : ops[i]? = some w) (hhi : w.toNat ≤ 1) :
    opFlag ops i = some (w == 1) := by
  rw [opFlag, opIn_eq hw (Nat.zero_le _) hhi, Option.map_some, Option.some_inj, Bool.eq_iff_iff, beq_iff_eq, beq_iff_eq]
  exact BitVec.toNat_inj (y := (1 : Word))

theorem opIndex_eq {n first : Nat} {ops : List Word} {i : Nat} {w : Word} {k : Fin n} (hw : ops[i]? = some w)
    (hk : w.toNat = k.val + first) : opIndex n ops i first = some k := by
  have hsub : w.toNat - first = k.val := by omega
  have hr : first ≤ w.toNat ∧ w.toNat - first < n := ⟨by omega, hsub ▸ k.isLt⟩
  rw [opIndex, hw]
  exact (dif_pos hr).trans (congrArg some (Fin.ext hsub))

/-! ## The scan table and its timers -/

theorem parseScan_eq {e station channel span interval enable : Word} (more : List Word) {i : ScanId} (he : e.toNat = i.val + 1)
    (hs : 1 ≤ station.toNat ∧ station.toNat ≤ 61) (hc : channel.toNat ≤ 15) (hn : 1 ≤ span.toNat ∧ span.toNat ≤ 8)
    (hfit : channel.toNat + span.toNat ≤ 16) (ht : 1 ≤ interval.toNat ∧ interval.toNat ≤ 255) (hf : enable.toNat ≤ 1) :
    parseScan (e :: station :: channel :: span :: interval :: enable :: more) =
      some (i, { station := station.setWidth 6, channel := channel.setWidth 4, span := span.toNat, interval := interval.toNat
                 enable := enable == 1 }) := by
  rw [parseScan, opIndex_eq rfl he, opIn_eq (i := 1) rfl hs.1 hs.2, opIn_eq (i := 2) rfl (Nat.zero_le _) hc,
    opIn_eq (i := 3) rfl hn.1 hn.2, opIn_eq (i := 4) rfl ht.1 ht.2, opFlag_eq (i := 5) rfl hf]
  simp [opCheck, hfit]

/-- A management operation is taken by a part that alters its tables (R178). -/
theorem configure_of_altering (hs : s.Altering) (tag : Tag) (code : Nat) (op : State → Nat × State) :
    configure tag code op s = answer tag code (op s).1 [] (op s).2 := by
  obtain ⟨⟨-, hrestart⟩, hcommit⟩ := hs
  exact if_neg (by simp [hrestart, hcommit])

theorem scanSetOp_of_parse {ops : List Word} {e : ScanId} {c : ScanCfg} (h : parseScan ops = some (e, c)) (s : State) :
    scanSetOp ops s = (stDone,
      { s with
        cfg := { s.cfg with scan := Tab.put s.cfg.scan e c },
        pim := { s.pim with
          scanDue := Tab.put s.pim.scanDue e (if c.enable = true then .running (s.now + 100 * c.interval) else .stopped) } }) := by
  rw [scanSetOp, h]
  simp only
  split
  · simp [startDue, State.scanCfg, State.modPim, State.modCfg, Timer.start]
  · rfl

theorem scanFallsDue_idle {e : ScanId} (h : s.flc.line = .quenched ∨ e ∈ s.flc.scanPending) : scanFallsDue e s = startDue e s :=
    if_pos h

theorem scanFallsDue_joins {e : ScanId} (hl : s.flc.line ≠ .quenched) (he : e ∉ s.flc.scanPending) :
    scanFallsDue e s = (startDue e s).modFlc fun f => { f with scanPending := f.scanPending ++ [e] } :=
  if_neg (not_or.mpr ⟨hl, he⟩)

/-- Settles O29: SCAN_SET by its operands (`parseScan_eq`), the expiry by the line and the scan pending set. -/
theorem scanTableAndSchedule : Obligations.ScanTableAndSchedule := by
  refine ⟨fun tag e station channel span interval enable more i s hs he h1 h2 h3 h4 h5 h6 h7 h8 h9 => ?_, fun i s hs =>
      ⟨fun d hd => ?_,
    fun hidle => ?_⟩⟩
  · have hparse := parseScan_eq more he ⟨h1, h2⟩ h9 ⟨h3, h4⟩ h5 ⟨h6, h7⟩ h8
    have hset : manageScanSet tag (e :: station :: channel :: span :: interval :: enable :: more) s = _ :=
      configure_of_altering hs tag 18 _
    rw [scanSetOp_of_parse hparse s] at hset
    simp only [beq_iff_eq] at hset
    exact exec_of_rest (congrArg (fun t => Host.Outcome.next (quiesce t)) hset)
      (hs.1.1.of_same (answer_signals ..) (answer_lau ..))
  · have hexpiry : ∀ t : State, scanFallsDue i (s.advance d) = t → exec (.scanDueExpiry i) s = .next (quiesce t) := fun t ht =>
      congrArg (fun t => Host.Outcome.next (quiesce t)) ((onExpiry_running hd s (scanFallsDue i)).trans ht)
    exact ⟨fun h => exec_of_rest (hexpiry _ (scanFallsDue_idle h)) hs, fun hl he => exec_of_rest (hexpiry _
        (scanFallsDue_joins hl he)) hs⟩
  · exact exec_of_rest (congrArg (fun t => Host.Outcome.next (quiesce t)) (onExpiry_idle hidle s (scanFallsDue i))) hs

end Sys2Proof.Machine
end

section
/-! PROOFS. The invariants in the state after reset (R10, R23, R45, R63, R83, R101, R114, R147, R166, R176). -/

set_option Elab.async false

namespace Sys2Proof.Machine

/-! ## The records after reset -/

@[simp] theorem reset_sump (k : SumpId) : State.reset.sump k = {} := Tab.get_replicate ..
@[simp] theorem reset_pump (p : PumpId) : State.reset.pump p = {} := Tab.get_replicate ..
@[simp] theorem reset_pumpCfg (p : PumpId) : State.reset.pumpCfg p = {} := Tab.get_replicate ..
@[simp] theorem reset_barrier (b : BarrierId) : State.reset.barrier b = {} := Tab.get_replicate ..
@[simp] theorem reset_barrierCfg (b : BarrierId) : State.reset.barrierCfg b = {} := Tab.get_replicate ..
@[simp] theorem reset_zone (z : ZoneId) : State.reset.zone z = {} := Tab.get_replicate ..
@[simp] theorem reset_dutyList (k : SumpId) : State.reset.dutyList k = [] := Tab.get_replicate ..
@[simp] theorem reset_levelQueue (q : QueueId) : State.reset.levelQueue q = {} := Tab.get_replicate ..
@[simp] theorem reset_enabledBarriers : State.reset.enabledBarriers = [] := by simp [State.enabledBarriers]

theorem reset_store : State.reset.mgu.store = none := rfl
theorem reset_commit : State.reset.mgu.commit = none := rfl

theorem Tables.sumpsInRange_default : Tables.SumpsInRange {} := fun k => by
  rw [show Tab.get ({} : Tables).sumps k = {} from Tab.get_replicate ..]
  decide

theorem Tables.zonesInRange_default : Tables.ZonesInRange {} := fun z => by
  rw [show Tab.get ({} : Tables).zones z = {} from Tab.get_replicate ..]
  decide

/-! ## The invariants -/

theorem reset_sumpsInRange : State.reset.SumpsInRange :=
  ⟨fun k => by rw [reset_sump]; unfold SumpState.InRange; decide, Tables.sumpsInRange_default,
    fun _ h => absurd (reset_store.symm.trans h) nofun, fun _ h => absurd (reset_commit.symm.trans h) nofun⟩

theorem reset_overridesLawful : State.reset.OverridesLawful := ⟨List.Pairwise.nil, Nat.zero_le _, fun _ => rfl⟩

theorem reset_startQueueLawful : State.reset.StartQueueLawful := ⟨List.nodup_nil, Nat.zero_le _, List.Pairwise.nil⟩

theorem reset_loadsAgree : State.reset.LoadsAgree := by
  refine ⟨fun p => ?_, fun b => ?_, rfl, List.nodup_nil, fun p => ?_, nofun⟩
  · rw [reset_pump]
    exact Tab.get_replicate ..
  · rw [reset_barrier]
    exact Tab.get_replicate ..
  · rw [reset_pump]
    exact iff_of_false List.not_mem_nil Bool.false_ne_true

theorem reset_reportsCurrent : State.reset.ReportsCurrent := by
  simp [State.ReportsCurrent, State.barrierSummary]
  rfl

theorem reset_runLimitsKept : State.reset.RunLimitsKept := by
  refine ⟨fun k => ?_, fun k p hp => ?_, fun p hp => ?_⟩
  · simp [State.countPumps, PumpMode.claims]
  · rw [reset_dutyList] at hp
    exact absurd hp List.not_mem_nil
  · rw [reset_pump] at hp
    exact absurd rfl hp

theorem reset_zonesAboveSafety : State.reset.ZonesAboveSafety :=
  ⟨fun z h => absurd (by rw [reset_zone]) h, Tables.zonesInRange_default,
    fun _ h => absurd (reset_store.symm.trans h) nofun, fun _ h => absurd (reset_commit.symm.trans h) nofun⟩

/-- Settles O3, invariant by invariant. -/
theorem resetMeetsInvariants : Obligations.ResetMeetsInvariants :=
  ⟨⟨rfl, rfl⟩, List.nodup_nil, ⟨Nat.zero_le _, Nat.zero_le _⟩, nofun, fun q => by rw [reset_levelQueue]; exact Nat.zero_le _,
    reset_sumpsInRange, ⟨by decide, rfl⟩, reset_overridesLawful, reset_startQueueLawful, reset_loadsAgree, reset_reportsCurrent,
    reset_runLimitsKept, reset_zonesAboveSafety⟩

end Sys2Proof.Machine
end

section
/-! PROOFS. The command search over the maps (R18, R27, R29). -/

set_option Elab.async false

namespace Sys2Proof.Machine

variable {s t : State}

/-! ## Places and entries -/

theorem setPlace_inj {i j : Fin 128} {v w : Fin 2} : setPlace i v = setPlace j w ↔ i = j ∧ v = w := by
  simp only [setPlace, Fin.ext_iff]
  omega

theorem mapEntry_putEntry (l x : MapLoc) (e : MapEntry) (s : State) :
    (s.putEntry l e).mapEntry x = if x = l then e else s.mapEntry x := by
  cases l with
  | pinned i =>
    cases x with
    | pinned j => simp [State.putEntry, State.mapEntry, Tab.get_put]
    | setMap j w => rfl
  | setMap i v =>
    cases x with
    | pinned j => rfl
    | setMap j w => simp [State.putEntry, State.mapEntry, Tab.get_put, setPlace_inj]

/-- The state t with the maps of s. -/
def State.mapsFrom (s t : State) : State := { t with pmu := { t.pmu with pinned := s.pmu.pinned, sets := s.pmu.sets } }

theorem mapsFrom_self (s : State) : s.mapsFrom s = s := rfl

theorem mapsFrom_putEntry (s t : State) (l : MapLoc) (e : MapEntry) : s.mapsFrom (t.putEntry l e) = s.mapsFrom t := by
  cases l <;> rfl

theorem mapsFrom_logFault (s t : State) (u : FaultUpdate) : s.mapsFrom (logFault u t) = logFault u (s.mapsFrom t) := by
  unfold logFault
  simp only
  rw [apply_ite s.mapsFrom]
  rfl

theorem mapEntry_logFault (s : State) (u : FaultUpdate) (x : MapLoc) : (logFault u s).mapEntry x = s.mapEntry x := by
  have hmaps : (logFault u s).pmu.pinned = s.pmu.pinned ∧ (logFault u s).pmu.sets = s.pmu.sets := by
    unfold logFault
    simp only
    split
    · exact ⟨rfl, rfl⟩
    · exact ⟨rfl, rfl⟩
  cases x with
  | pinned i => exact congrArg (Tab.get · i) hmaps.1
  | setMap i w => exact congrArg (Tab.get · (setPlace i w)) hmaps.2

theorem MapEntry.invalidated_invalidated (e : MapEntry) : e.invalidated.invalidated = e.invalidated := rfl

theorem mapEntry_invalidateAll (ls : List MapLoc) (x : MapLoc) (s : State) :
    (ls.foldl (fun s l => invalidate l s) s).mapEntry x = if x ∈ ls then (s.mapEntry x).invalidated else s.mapEntry x := by
  induction ls generalizing s with
  | nil => simp
  | cons l ls ih =>
    rw [List.foldl_cons, ih, invalidate, mapEntry_putEntry]
    by_cases hx : x = l
    · simp [hx, MapEntry.invalidated_invalidated]
    · simp [hx]

theorem mapsFrom_invalidateAll (s : State) (ls : List MapLoc) (t : State) :
    s.mapsFrom (ls.foldl (fun s l => invalidate l s) t) = s.mapsFrom t := by
  induction ls generalizing t with
  | nil => rfl
  | cons l ls ih => exact (ih _).trans (mapsFrom_putEntry ..)

/-! ## The search -/

/-- A place holds an entry that the command search takes for a point (R18). -/
def State.commandGood (s : State) (p : PointId) (l : MapLoc) : Prop :=
  ((s.mapEntry l).fields.valid = true ∧ (s.mapEntry l).fields.direction = .command) ∧ (s.mapEntry l).checkGood = true ∧
    pointOf (s.mapEntry l).fields.point = p ∧
    ((s.mapEntry l).fields.isGlobal = true ∨ (s.mapEntry l).fields.plan = s.planInForce)

/-- A place holds a valid COMMAND entry with a failing check bit (R27). -/
def State.commandFailing (s : State) (l : MapLoc) : Bool :=
  (s.mapEntry l).fields.valid && (s.mapEntry l).fields.direction == .command && !(s.mapEntry l).checkGood

/-- A place that the search does not take is met, and counted when its check fails. -/
theorem searchPlaces_cons {p : PointId} {l : MapLoc} (h : ¬ s.commandGood p l) (ls : List MapLoc) :
    searchPlaces s p s.planInForce (l :: ls) =
      ([l].filter s.commandFailing ++ (searchPlaces s p s.planInForce ls).1, (searchPlaces s p s.planInForce ls).2) := by
  rw [searchPlaces]
  simp only
  split
  · rename_i hcand
    split
    · rename_i hfail
      have hfailing : s.commandFailing l = true := by rw [State.commandFailing, hcand, hfail]; rfl
      simp [hfailing]
    · rename_i hcheck
      have hfailing : s.commandFailing l = false := by simpa [State.commandFailing, hcand] using hcheck
      split
      · rename_i hmatch
        exact absurd ⟨by simpa using hcand, by simpa using hcheck, by simpa using hmatch⟩ h
      · simp [hfailing]
  · rename_i hcand
    have hfailing : s.commandFailing l = false := by rw [State.commandFailing, Bool.eq_false_iff.mpr hcand]; rfl
    simp [hfailing]

theorem searchPlaces_append {p : PointId} {before : List MapLoc} (h : ∀ x ∈ before, ¬ s.commandGood p x) (ls : List MapLoc) :
    searchPlaces s p s.planInForce (before ++ ls) =
      (before.filter s.commandFailing ++ (searchPlaces s p s.planInForce ls).1, (searchPlaces s p s.planInForce ls).2) := by
  induction before with
  | nil => rfl
  | cons l before ih =>
    obtain ⟨hl, hbefore⟩ := List.forall_mem_cons.mp h
    rw [List.cons_append, searchPlaces_cons hl, ih hbefore, ← List.append_assoc, ← List.filter_append]
    rfl

theorem searchPlaces_good {p : PointId} {l : MapLoc} (h : s.commandGood p l) (ls : List MapLoc) :
    searchPlaces s p s.planInForce (l :: ls) = ([], some l) := by
  obtain ⟨⟨hvalid, hdir⟩, hcheck, hpoint, hplan⟩ := h
  simp [searchPlaces, hvalid, hdir, hcheck, hpoint, hplan]

/-- What the search logs of the places that it has met (R27; log entry 11). -/
def State.searchLogged (s : State) (met : List MapLoc) (t : State) : State :=
  match met with
  | [] => t
  | l :: _ =>
    logFault { cls := .map, detail := parityDetail l
               key := some { plan := (s.mapEntry l).fields.plan, station := (s.mapEntry l).fields.station
                             channel := (s.mapEntry l).fields.channel }
               loc := some l, kind := 2 } t

/-- The state that the search leaves of the failing places that it has met. -/
def State.searchMet (s : State) (met : List MapLoc) : State :=
  s.searchLogged met (met.foldl (fun s l => invalidate l s) s)

theorem mapEntry_searchMet (s : State) (met : List MapLoc) (x : MapLoc) :
    (s.searchMet met).mapEntry x = if x ∈ met then (s.mapEntry x).invalidated else s.mapEntry x := by
  rw [← mapEntry_invalidateAll met x s]
  cases met with
  | nil => rfl
  | cons l met => exact mapEntry_logFault ..

theorem mapsFrom_searchMet (s : State) (met : List MapLoc) : s.mapsFrom (s.searchMet met) = s.searchLogged met s := by
  cases met with
  | nil => rfl
  | cons l met =>
    rw [State.searchMet, State.searchLogged, mapsFrom_logFault, mapsFrom_invalidateAll, mapsFrom_self]
    rfl

theorem commandSearch_found {p : PointId} {before after : List MapLoc} {l : MapLoc} (hall : allPlaces = before ++ l :: after)
    (hbefore : ∀ x ∈ before, ¬ s.commandGood p x) (hl : s.commandGood p l) :
    commandSearch p s = (some ((s.mapEntry l).fields.station, (s.mapEntry l).fields.channel),
      setUsed l (s.searchMet (before.filter s.commandFailing))) := by
  have hsearch : searchPlaces s p s.planInForce allPlaces = (before.filter s.commandFailing, some l) := by
    rw [hall, searchPlaces_append hbefore, searchPlaces_good hl, List.append_nil]
  rw [commandSearch, hsearch]
  cases before.filter s.commandFailing <;> rfl

theorem commandSearch_none {p : PointId} (h : ∀ l ∈ allPlaces, ¬ s.commandGood p l) :
    commandSearch p s = (none, s.searchMet (allPlaces.filter s.commandFailing)) := by
  have hsearch : searchPlaces s p s.planInForce allPlaces = (allPlaces.filter s.commandFailing, none) := by
    have h0 := searchPlaces_append h []
    rwa [List.append_nil, searchPlaces, List.append_nil] at h0
  rw [commandSearch, hsearch]
  cases allPlaces.filter s.commandFailing <;> rfl

/-- A place whose check is good is not among the failing ones. -/
theorem not_mem_failing {l : MapLoc} (h : (s.mapEntry l).checkGood = true) (ls : List MapLoc) :
    l ∉ ls.filter s.commandFailing := by
  simp [State.commandFailing, h]

theorem filter_failing_eq_nil (h : ∀ l, (s.mapEntry l).checkGood = true) (ls : List MapLoc) : ls.filter s.commandFailing = [] :=
  List.filter_eq_nil_iff.mpr fun l hl => by simp [State.commandFailing, h l]

/-- Settles O13: the search over the places before the entry that it takes (`commandSearch_found`), or over all of them
(`commandSearch_none`). -/
theorem commandSearchFindsFirst : Obligations.CommandSearchFindsFirst := by
  refine ⟨fun p s hgood => ⟨fun before after l hall hbefore hl => ?_, fun hnone => ?_⟩, fun p s =>
      ⟨fun before after l hall hbefore hl => ?_,
    fun hnone => ?_⟩⟩
  · obtain ⟨hvalid, hdir, hrest⟩ := hl
    rw [commandSearch_found hall (fun x hx ⟨⟨hv, hd⟩, _, h⟩ => hbefore x hx ⟨hv, hd, h⟩) ⟨⟨hvalid, hdir⟩, hgood l, hrest⟩,
      filter_failing_eq_nil hgood]
    rfl
  · rw [commandSearch_none (fun x hx ⟨⟨hv, hd⟩, _, h⟩ => hnone x hx ⟨hv, hd, h⟩), filter_failing_eq_nil hgood]
    rfl
  · rw [commandSearch_found hall hbefore hl]
    refine ⟨rfl, fun x => ?_, (mapsFrom_putEntry s _ l _).trans (mapsFrom_searchMet s _)⟩
    rw [setUsed, mapEntry_putEntry, mapEntry_searchMet, mapEntry_searchMet, if_neg (not_mem_failing hl.2.1 before)]
    by_cases hx : x = l
    · rw [if_pos hx, if_pos (congrArg some hx.symm), hx]
    · rw [if_neg hx, if_neg fun h => hx (Option.some.inj h).symm]
      rfl
  · rw [commandSearch_none hnone]
    refine ⟨rfl, fun x => ?_, mapsFrom_searchMet s _⟩
    rw [if_neg nofun]
    exact mapEntry_searchMet s _ x

end Sys2Proof.Machine
end

section
/-! PROOFS. Field transactions (R11, R14, R15, R16, R19): sending, replies, the end of a transaction, and what a FAILED command
shows. -/

set_option Elab.async false

namespace Sys2Proof.Machine

variable {k : Scope} {s t u : State}

/-! ## Fields that the path and the work of the blocks leave -/

theorem Traces.field {α : Type} (f : State → α) (hf : ∀ (x : State) (a : Pmu) (b : Upp), f { x with pmu := a, upp := b } = f x)
    (h : Traces s t) : f t = f s := (hf t s.pmu s.upp).symm.trans (congrArg f h.same)

theorem Traces.flc (h : Traces s t) : t.flc = s.flc := (congrArg State.flc h.same :)
theorem Traces.cfg (h : Traces s t) : t.cfg = s.cfg := (congrArg State.cfg h.same :)
theorem Traces.lau (h : Traces s t) : t.lau = s.lau := (congrArg State.lau h.same :)
theorem Traces.signals (h : Traces s t) : t.signals = s.signals := (congrArg State.signals h.same :)

theorem Traces.atRest (h : Traces s t) (hs : s.AtRest) : t.AtRest := hs.of_same h.signals h.lau

theorem status_congr (hp : t.psc = s.psc) (hg : t.gsq = s.gsq) (hl : t.ltu = s.ltu) (d : Device) : t.status d = s.status d := by
  cases d with
  | pump p => rw [State.status, State.status, State.pump_congr hp]
  | barrier b => rw [State.status, State.status, State.barrier_congr hg]
  | gate => rw [State.status, State.status, hg]
  | zone z => rw [State.status, State.status, State.zone_congr hl]

/-- Each device keeps its status as far as the scope says. -/
theorem Effect.status (g : Effect k s t) (d : Device) : k.Kept (s.status d) (t.status d) := by
  cases g with
  | request p v => exact .of_eq (status_congr (requestCommand_psc ..) (requestCommand_gsq ..) (requestCommand_ltu ..) d)
  | offer e => exact .of_eq (status_congr (offerUp_psc ..) (offerUp_gsq ..) (offerUp_ltu ..) d)
  | psc f h =>
    cases d with
    | pump p => exact h p
    | _ => exact .refl k _
  | gsq f hb hg =>
    cases d with
    | barrier b => exact hb b
    | gate => exact hg
    | _ => exact .refl k _
  | ltu f h =>
    cases d with
    | zone z => exact h z
    | _ => exact .refl k _
  | _ => exact .of_eq (status_congr rfl rfl rfl d)

theorem Effects.status (g : Effects k s t) (d : Device) : k.Kept (s.status d) (t.status d) :=
  g.keeps (P := fun u => k.Kept (s.status d) (u.status d)) (fun e h => h.trans (e.status d)) (.refl k _)

theorem requestCommand_cfg (p : PointId) (v : Word) (s : State) : (requestCommand p v s).cfg = s.cfg := by
  unfold requestCommand
  split <;> rfl

/-- The configuration, and so the owner of every point, is the operations' to change. -/
theorem Effect.cfg_eq (hk : k ≠ .operation) (g : Effect k s t) : t.cfg = s.cfg := by
  cases g with
  | request p v => exact requestCommand_cfg ..
  | cfg f h => exact absurd h hk
  | offer e h => exact absurd h hk
  | _ => rfl

theorem Effects.cfg_eq (hk : k ≠ .operation) (g : Effects k s t) : t.cfg = s.cfg := g.same (f := State.cfg) (Effect.cfg_eq hk)

theorem point_modPoint (s : State) (p r : PointId) (f : PointState → PointState) :
    (s.modPoint p f).point r = if r = p then f (s.point r) else s.point r := by
  simp only [State.point, State.modPoint, State.modPim, Tab.get_put]
  split
  · next h => rw [h]
  · rfl

/-- A request leaves every point's command state as it is, or PENDING. -/
theorem requestCommand_command (p r : PointId) (v : Word) (s : State) :
    ((requestCommand p v s).point r).command = (s.point r).command ∨ ((requestCommand p v s).point r).command = .pending := by
  unfold requestCommand
  split
  · exact .inl rfl
  · rw [point_modPoint]
    split
    · exact .inr rfl
    · exact .inl rfl

/-- Without observations of the field a command state becomes PENDING at a request, and FAILED at most where commands fail. -/
theorem Effect.command (hk : k.observes = false) (g : Effect k s t) (p : PointId) :
    (t.point p).command = (s.point p).command ∨ (t.point p).command = .pending ∨ k.fails = true ∧
      (t.point p).command = .failed := by
  cases g with
  | request r v => exact (requestCommand_command r p v s).imp_right .inl
  | failed r h =>
    rw [setCommandState, point_modPoint]
    split
    · exact .inr (.inr ⟨h, rfl⟩)
    · exact .inl rfl
  | pim f h => simp [hk] at h
  | offer e h | cfg f h | mgu f h | clock n m h | purge p h => simp [h, Scope.observes] at hk
  | _ => exact .inl rfl

/-! ## What a FAILED command shows -/

/-- What stays of a FAILED command: its state until it is commanded anew, and the fault of the owner of its point. -/
structure ShowsFailure (p : PointId) (u t : State) : Prop where
  command : (t.point p).command = .failed ∨ (t.point p).command = .pending
  pump : ∀ i, ownerOf u.cfg p = .pump i → (u.pump i).mode ≠ .disabled → (u.pump i).mode ≠ .faulted →
    (t.status (.pump i)).condition = .fault PumpMode.faulted.code 4
  barrier : ∀ b, ownerOf u.cfg p = .barrier b → (u.barrier b).mode ≠ .disabled → (u.barrier b).mode ≠ .unknown →
    (u.barrier b).mode.isFault = false → (t.status (.barrier b)).condition = .fault BarrierMode.faultTravel.code 5
  gate : ownerOf u.cfg p = .gate → u.gsq.gate.mode ≠ .disabled → u.gsq.gate.mode ≠ .unknown → u.gsq.gate.mode ≠ .fault →
    (t.status .gate).condition = .fault GateMode.fault.code 5
  head : ∀ b, ownerOf u.cfg p = .signal b → (t.status (.barrier b)).flagged = true
  zone : ∀ z, ownerOf u.cfg p = .zone z → (t.status (.zone z)).flagged = true

/-- Later work, below any observation of the field, that keeps what a FAILED command shows. -/
structure KeepsFailures (s t : State) : Prop where
  status : ∀ d, Scope.failure.Kept (s.status d) (t.status d)
  command : ∀ p, (s.point p).command = .failed ∨ (s.point p).command = .pending →
    (t.point p).command = .failed ∨ (t.point p).command = .pending

theorem KeepsFailures.refl (s : State) : KeepsFailures s s := ⟨fun _ => .refl _ _, fun _ => id⟩

theorem KeepsFailures.after (g : KeepsFailures t u) (h : KeepsFailures s t) : KeepsFailures s u :=
  ⟨fun d => (h.status d).trans (g.status d), fun p hp => g.command p (h.command p hp)⟩

theorem Effect.keepsFailures (g : Effect .failure s t) : KeepsFailures s t := by
  refine ⟨g.status, fun p hp => ?_⟩
  obtain h | h | ⟨-, h⟩ := g.command rfl p
  · rwa [h]
  · exact .inr h
  · exact .inl h

theorem Effects.keepsFailures (g : Effects .failure s t) : KeepsFailures s t :=
  g.keeps (P := KeepsFailures s) (fun e h => .after e.keepsFailures h) (.refl s)

theorem ShowsFailure.keeps {p : PointId} (h : ShowsFailure p s t) (g : KeepsFailures t u) : ShowsFailure p s u where
  command := g.command p h.command
  pump i ho hd hf := (g.status _ rfl).fault _ _ (h.pump i ho hd hf)
  barrier b ho hd hu hf := (g.status _ rfl).fault _ _ (h.barrier b ho hd hu hf)
  gate ho hd hu hf := (g.status _ rfl).fault _ _ (h.gate ho hd hu hf)
  head b ho := (g.status _ rfl).flagged rfl (h.head b ho)
  zone z ho := (g.status _ rfl).flagged rfl (h.zone z ho)

theorem PumpState.faulted_of_condition {x : PumpState} {c : Nat} (h : x.status.condition = .fault PumpMode.faulted.code c) :
    x.mode = .faulted ∧ x.fault = c := by
  revert h
  simp only [PumpState.status]
  cases x.mode <;> simp [PumpMode.condition, PumpMode.code]

theorem BarrierState.faultTravel_of_condition {x : BarrierState} {c : Nat}
    (h : x.status.condition = .fault BarrierMode.faultTravel.code c) : x.mode = .faultTravel ∧ x.fault = c := by
  revert h
  simp only [BarrierState.status]
  cases x.mode <;> simp [BarrierMode.condition, BarrierMode.code]

theorem GateState.fault_of_condition {x : GateState} {c : Nat} (h : x.status.condition = .fault GateMode.fault.code c) :
    x.mode = .fault ∧ x.fault = c := by
  revert h
  simp only [GateState.status]
  cases x.mode <;> simp [GateMode.condition, GateMode.code]

/-- The outcome of a command shows that it FAILED. -/
theorem commandFails_of_shows {p : PointId} {o : Host.Outcome State Fault Refusal} (ho : o = .next t) (h : ShowsFailure p u t)
    (hnobody : ownerOf u.cfg p = .nobody → t = setCommandState p .failed u) : commandFails p u o := by
  subst ho
  exact ⟨fun hn => congrArg Host.Outcome.next (hnobody hn), fun _ => ⟨t, rfl, h.command⟩,
    fun i hi hd hf => ⟨t, rfl, PumpState.faulted_of_condition (h.pump i hi hd hf)⟩,
    fun b hb hd hu hf => ⟨t, rfl, BarrierState.faultTravel_of_condition (h.barrier b hb hd hu hf)⟩,
    fun hg hd hu hf => ⟨t, rfl, GateState.fault_of_condition (h.gate hg hd hu hf)⟩,
    fun b hb => ⟨t, rfl, h.head b hb⟩, fun z hz => ⟨t, rfl, h.zone z hz⟩⟩

end Sys2Proof.Machine
end

section
/-! PROOFS. What the owners do with a command outcome (R139, R156, R157, R161, R170), and a FAILED command to its end (R19, R57). -/

set_option Elab.async false

namespace Sys2Proof.Machine

variable {k : Scope} {s t u : State}

/-! ## Reports leave the records -/

@[simp] theorem pscReadiness_psc (s : State) : (pscReadiness s).psc = s.psc := by
  unfold pscReadiness
  split <;> rfl

@[simp] theorem summaryReport_barrier (s : State) (b : BarrierId) : (summaryReport s).barrier b = s.barrier b := by
  unfold summaryReport
  simp only
  split <;> split <;> rfl

@[simp] theorem summaryReport_upp (s : State) : (summaryReport s).upp = s.upp := by
  unfold summaryReport
  simp only
  split <;> split <;> rfl

@[simp] theorem summaryReport_lau (s : State) : (summaryReport s).lau = s.lau := by
  unfold summaryReport
  simp only
  split <;> split <;> rfl

@[simp] theorem gsqReadiness_gsq (s : State) : (gsqReadiness s).gsq = s.gsq := by
  unfold gsqReadiness
  split <;> rfl

@[simp] theorem gsqReadiness_upp (s : State) : (gsqReadiness s).upp = s.upp := by
  unfold gsqReadiness
  split <;> rfl

@[simp] theorem gsqReadiness_lau (s : State) : (gsqReadiness s).lau = s.lau := by
  unfold gsqReadiness
  split <;> rfl

@[simp] theorem gsqReadiness_flc (s : State) : (gsqReadiness s).flc = s.flc := by
  unfold gsqReadiness
  split <;> rfl

theorem gsqReadiness_barrier (s : State) (b : BarrierId) : (gsqReadiness s).barrier b = s.barrier b :=
  State.barrier_congr (gsqReadiness_gsq s) b

/-! ## Aspects and movements -/

@[simp] theorem aspectJudge_upp (a : Bool) (b : BarrierId) (s : State) : (aspectJudge a b s).upp = s.upp := by
  unfold aspectJudge
  simp only
  repeat' split
  all_goals simp [State.modBarrier]

@[simp] theorem aspectJudge_lau (a : Bool) (b : BarrierId) (s : State) : (aspectJudge a b s).lau = s.lau := by
  unfold aspectJudge
  simp only
  repeat' split
  all_goals simp [State.modBarrier]

theorem aspectJudge_barrier_ne {b o : BarrierId} (h : o ≠ b) (a : Bool) (s : State) :
    (aspectJudge a b s).barrier o = s.barrier o := by
  unfold aspectJudge
  simp only
  repeat' split
  all_goals simp [State.barrier_modBarrier_ne h]

/-- The judgement of the aspect sets the two aspect fields of the record and nothing else of it. -/
theorem aspectJudge_barrier_self (a : Bool) (b : BarrierId) (s : State) : ∃ x y,
    (aspectJudge a b s).barrier b = { s.barrier b with aspect := x, aspectSent := y } := by
  unfold aspectJudge
  simp only
  repeat' split
  · exact ⟨s.aspectWanted b, none, by simp⟩
  · rename_i wanted _ _
    exact ⟨s.aspectWanted b, some wanted, by simp⟩
  · exact ⟨s.aspectWanted b, (s.barrier b).aspectSent, by simp⟩

theorem reportMotor_barrier (i : Fin 5) (kw : Nat) (s : State) (b : BarrierId) : (reportMotor i kw s).barrier b = s.barrier b := rfl

theorem barrierGo_barrier_ne {b o : BarrierId} (h : o ≠ b) (m : BarrierMode) (s : State) :
    (barrierGo b m s).barrier o = s.barrier o := by
  rw [barrierGo, gsqReadiness_barrier, summaryReport_barrier, aspectJudge_barrier_ne h, reportMotor_barrier,
    State.barrier_modBarrier_ne h]

theorem barrierGo_barrier_self (b : BarrierId) (m : BarrierMode) (s : State) : ∃ x y,
    (barrierGo b m s).barrier b = { s.barrier b with mode := m, aspect := x, aspectSent := y } := by
  obtain ⟨x, y, h⟩ := aspectJudge_barrier_self false b (reportMotor (b.castLE (by decide))
    (if m.moves then (s.barrierCfg b).motorKw else 0) (s.modBarrier b fun t => { t with mode := m }))
  refine ⟨x, y, ?_⟩
  rw [barrierGo, gsqReadiness_barrier, summaryReport_barrier, h, reportMotor_barrier, State.barrier_modBarrier_self]

@[simp] theorem barrierGo_upp (b : BarrierId) (m : BarrierMode) (s : State) : (barrierGo b m s).upp = s.upp := by
  rw [barrierGo, gsqReadiness_upp, summaryReport_upp, aspectJudge_upp]
  rfl

theorem barrierGo_queue (b : BarrierId) (m : BarrierMode) (s : State) : (barrierGo b m s).lau.queue = s.lau.queue := by
  rw [barrierGo, gsqReadiness_lau, summaryReport_lau, aspectJudge_lau]
  rfl

theorem barrierGo_motorLoad (b : BarrierId) (m : BarrierMode) (s : State) :
    Tab.get (barrierGo b m s).lau.motorLoad (b.castLE (by decide)) = if m.moves then (s.barrierCfg b).motorKw else 0 := by
  rw [barrierGo, gsqReadiness_lau, summaryReport_lau, aspectJudge_lau]
  exact Tab.get_put_self ..

theorem withdraw_queue (d : Device) (s : State) : ∀ r ∈ (withdraw d s).lau.queue, r.device ≠ d := by
  unfold withdraw
  split
  · simp
  · rename_i h
    simpa using h

theorem withdraw_now (d : Device) (s : State) : (withdraw d s).now = s.now := by
  unfold withdraw
  split <;> rfl

/-! ## Faults -/

theorem raiseNotice_upp_congr {code : Nat} {data : List Word} (h : t.upp = s.upp) :
    (raiseNotice code data t).upp = (raiseNotice code data s).upp := by
  simp only [raiseNotice, State.modUpp, h]

theorem pumpGo_pump_self (p : PumpId) (m : PumpMode) (s : State) : (pumpGo p m s).pump p = PumpState.goto s.now m (s.pump p) := by
  rw [pumpGo, State.pump_congr (pscReadiness_psc _)]
  exact State.pump_modPump_self ..

/-- A pump fault leaves the pump FAULTED with its cause (R139). -/
theorem pumpFault_status (p : PumpId) (c : Nat) (s : State) :
    ((pumpFault p c s).status (.pump p)).condition = .fault PumpMode.faulted.code c := by
  have hpump : (pumpFault p c s).pump p = PumpState.goto s.now .faulted { s.pump p with
      fault := c, stopReason := .fault, startTimer := .stopped, stopTimer := .stopped, offTimer := .stopped } := by
    unfold pumpFault
    simp only
    rw [apply_ite (State.pump · p), commandPoint_pump, ite_self, State.pump_congr (raiseNotice_psc ..), pumpGo_pump_self,
      withdraw_pump, State.pump_modPump_self, withdraw_now]
    rfl
  rw [State.status, hpump]
  rfl

theorem barrierFault_enters {b : BarrierId} (m : BarrierMode) (c : Nat) (hd : (s.barrier b).mode ≠ .disabled)
    (hu : (s.barrier b).mode ≠ .unknown) (hf : (s.barrier b).mode.isFault = false) :
    barrierFault b m c s = barrierFaultEnter b m c s := by
  unfold barrierFault
  split
  all_goals simp_all [BarrierMode.isFault]

theorem barrierFault_stays {b : BarrierId} (m : BarrierMode) (c : Nat)
    (h : (s.barrier b).mode = .disabled ∨ (s.barrier b).mode = .unknown ∨ (s.barrier b).mode.isFault = true) :
    barrierFault b m c s = s := by
  unfold barrierFault
  split
  all_goals simp_all [BarrierMode.isFault]

/-- A barrier that enters a fault (R156): the record with its cause, the timers stopped and no post standing. -/
theorem barrierFaultEnter_barrier_self (b : BarrierId) (m : BarrierMode) (c : Nat) (s : State) : ∃ x y,
    (barrierFaultEnter b m c s).barrier b = { s.barrier b with
      mode := m, fault := c, warnTimer := .stopped, clearTimer := .stopped, travelTimer := .stopped, postDeferred := false
      aspect := x, aspectSent := y } := by
  obtain ⟨x, y, h⟩ := barrierGo_barrier_self b m (commandPoint (s.barrierCfg b).drive driveStop
    (withdraw (.barrier b) (s.modBarrier b fun t =>
      { t with fault := c, warnTimer := .stopped, clearTimer := .stopped, travelTimer := .stopped, postDeferred := false })))
  refine ⟨x, y, ?_⟩
  rw [barrierFaultEnter, State.barrier_congr (raiseNotice_gsq ..), h, commandPoint_barrier, withdraw_barrier,
    State.barrier_modBarrier_self]

theorem barrierFaultEnter_barrier_ne {b o : BarrierId} (h : o ≠ b) (m : BarrierMode) (c : Nat) (s : State) :
    (barrierFaultEnter b m c s).barrier o = s.barrier o := by
  rw [barrierFaultEnter, State.barrier_congr (raiseNotice_gsq ..), barrierGo_barrier_ne h, commandPoint_barrier, withdraw_barrier,
    State.barrier_modBarrier_ne h]

theorem barrierFaultEnter_upp (b : BarrierId) (m : BarrierMode) (c : Nat) (s : State) : (barrierFaultEnter b m c s).upp =
    (raiseNotice 14 [word (b.val + 1), word c, word (s.barrier b).mode.code] s).upp := by
  refine raiseNotice_upp_congr ?_
  rw [barrierGo_upp, commandPoint_upp, withdraw_upp]
  rfl

theorem barrierFaultEnter_queue (b : BarrierId) (m : BarrierMode) (c : Nat) (s : State) :
    ∀ r ∈ (barrierFaultEnter b m c s).lau.queue, r.device ≠ .barrier b := by
  rw [barrierFaultEnter, raiseNotice_lau, barrierGo_queue, commandPoint_lau]
  exact withdraw_queue _ _

theorem barrierFaultEnter_motorLoad (b : BarrierId) {m : BarrierMode} (hm : m.moves = false) (c : Nat) (s : State) :
    Tab.get (barrierFaultEnter b m c s).lau.motorLoad (b.castLE (by decide)) = 0 := by
  rw [barrierFaultEnter, raiseNotice_lau, barrierGo_motorLoad, hm]
  rfl

theorem gateFault_enters (c : Nat) (hd : s.gsq.gate.mode ≠ .disabled) (hu : s.gsq.gate.mode ≠ .unknown)
    (hf : s.gsq.gate.mode ≠ .fault) : gateFault c s = gateFaultEnter c s := by
  unfold gateFault
  split
  all_goals simp_all

theorem gateFault_stays (c : Nat) (h : s.gsq.gate.mode = .disabled ∨ s.gsq.gate.mode = .unknown ∨ s.gsq.gate.mode = .fault) :
    gateFault c s = s := by
  unfold gateFault
  split
  all_goals simp_all

/-- A field that no step of a fold changes stays as it is. -/
theorem foldl_field {α β : Type} (f : State → β) {g : State → α → State} (h : ∀ s a, f (g s a) = f s) (l : List α) (s : State) :
    f (l.foldl g s) = f s := by
  induction l generalizing s with
  | nil => rfl
  | cons a l ih => exact (ih _).trans (h s a)

theorem gateLeftClosed_gsq (s : State) : (gateLeftClosed s).gsq = s.gsq := foldl_field State.gsq (fun _ _ => by split <;> rfl) _ s
theorem gateLeftClosed_lau (s : State) : (gateLeftClosed s).lau = s.lau := foldl_field State.lau (fun _ _ => by split <;> rfl) _ s
theorem gateLeftClosed_flc (s : State) : (gateLeftClosed s).flc = s.flc := foldl_field State.flc (fun _ _ => by split <;> rfl) _ s
theorem gateLeftClosed_upp (s : State) : (gateLeftClosed s).upp = s.upp := foldl_field State.upp (fun _ _ => by split <;> rfl) _ s

theorem gateGo_gate (m : GateMode) (s : State) : (gateGo m s).gsq.gate = { s.gsq.gate with mode := m } := by
  rw [gateGo, gsqReadiness_gsq, apply_ite State.gsq, gateLeftClosed_gsq, ite_self]
  rfl

theorem gateGo_lau (m : GateMode) (s : State) :
    (gateGo m s).lau = (reportMotor 4 (if m.moves then s.cfg.gate.motorKw else 0) s).lau := by
  rw [gateGo, gsqReadiness_lau, apply_ite State.lau, gateLeftClosed_lau, ite_self]
  rfl

theorem gateGo_flc (m : GateMode) (s : State) : (gateGo m s).flc = s.flc := by
  rw [gateGo, gsqReadiness_flc, apply_ite State.flc, gateLeftClosed_flc, ite_self]
  rfl

theorem gateGo_upp (m : GateMode) (s : State) : (gateGo m s).upp = s.upp := by
  rw [gateGo, gsqReadiness_upp, apply_ite State.upp, gateLeftClosed_upp, ite_self]
  rfl

/-- The gate in a fault (R161). -/
theorem gateFaultEnter_gate (c : Nat) (s : State) : (gateFaultEnter c s).gsq.gate =
    { s.gsq.gate with mode := .fault, fault := c, dwellTimer := .stopped, travelTimer := .stopped, postDeferred := false } := by
  rw [gateFaultEnter, raiseNotice_gsq, gateGo_gate, commandPoint_gsq, withdraw_gsq]
  rfl

theorem gateFaultEnter_upp (c : Nat) (s : State) :
    (gateFaultEnter c s).upp = (raiseNotice 14 [0, word c, word s.gsq.gate.mode.code] s).upp := by
  refine raiseNotice_upp_congr ?_
  rw [gateGo_upp, commandPoint_upp, withdraw_upp]
  rfl

theorem gateFaultEnter_queue (c : Nat) (s : State) : ∀ r ∈ (gateFaultEnter c s).lau.queue, r.device ≠ .gate := by
  rw [gateFaultEnter, raiseNotice_lau, gateGo_lau]
  simp only [reportMotor, takeReport, State.modLau_lau, commandPoint_lau]
  exact withdraw_queue _ _

theorem gateFaultEnter_motorLoad (c : Nat) (s : State) : Tab.get (gateFaultEnter c s).lau.motorLoad 4 = 0 := by
  rw [gateFaultEnter, raiseNotice_lau, gateGo_lau]
  exact Tab.get_put_self ..

theorem commandPoint_flc_congr {o : Option PointId} {v : Word} (h : t.flc = s.flc) :
    (commandPoint o v t).flc = (commandPoint o v s).flc := by
  unfold commandPoint
  split
  · unfold requestCommand
    simp only [h]
    split
    · exact h
    · simp only [State.modPoint, State.modPim_flc, State.modFlc_flc, h]
  · exact h

theorem gateFaultEnter_flc (c : Nat) (s : State) : (gateFaultEnter c s).flc = (commandPoint s.cfg.gate.drive driveStop s).flc := by
  rw [gateFaultEnter, raiseNotice_flc, gateGo_flc]
  refine commandPoint_flc_congr ?_
  rw [withdraw_flc]
  rfl

/-! ## The outcome of a command -/

/-- An outcome that is no CONFIRMED at the value commanded. -/
theorem wrong_iff {failed : Bool} {sent got : Word} : (failed || !(sent == got)) = true ↔ failed = true ∨ sent ≠ got := by simp

theorem commandOutcome_atRest {p : PointId} {failed : Bool} (hk : (s.pcfg p).kind = .command) :
    (commandOutcome p failed s).AtRest := by
  rw [commandOutcome, if_pos hk]
  exact quiesce_atRest _

/-- What the owner of a point does with an outcome (R57), in the state in which the command has its state already. -/
def ownerOutcome (o : Owner) (failed : Bool) (sent got : Word) (s : State) : State :=
  match o with
  | .nobody => s
  | .pump i => pumpOutcome i failed sent got s
  | .barrier b => barrierOutcome b failed sent got s
  | .signal b => headOutcome b failed sent got s
  | .gate => gateOutcome failed sent got s
  | .zone z => zoneOutcome z failed got s

theorem commandOutcome_eq {p : PointId} (failed : Bool) (hk : (s.pcfg p).kind = .command) : commandOutcome p failed s =
    quiesce (ownerOutcome (ownerOf s.cfg p) failed (s.point p).commanded (s.point p).confirmed
      (setCommandState p (if failed = true then .failed else .confirmed) s)) := by
  rw [commandOutcome, if_pos hk, deliverOutcome, setCommandState, point_modPoint, if_pos rfl]
  rfl

theorem ownerOutcome_effects {failed : Bool} (hk : k ≠ .delivery) (ho : k.clears = true ∨ failed = true) (o : Owner)
    (sent got : Word) : Effects k s (ownerOutcome o failed sent got s) := by
  cases o with
  | nobody => exact .refl k s
  | pump i => exact pumpOutcome_effects hk _ _ _ _
  | barrier b => exact barrierOutcome_effects _ _ _ _
  | signal b => exact headOutcome_effects ho _ _ _
  | gate => exact gateOutcome_effects _ _ _
  | zone z => exact zoneOutcome_effects ho _ _

theorem pumpOutcome_wrong {i : PumpId} {failed : Bool} {sent got : Word} (h : failed = true ∨ sent ≠ got)
    (hd : (s.pump i).mode ≠ .disabled) (hf : (s.pump i).mode ≠ .faulted) : pumpOutcome i failed sent got s = pumpFault i 4 s := by
  unfold pumpOutcome
  split
  · contradiction
  · contradiction
  · exact if_pos (wrong_iff.mpr h)

theorem barrierOutcome_wrong {failed : Bool} {sent got : Word} (h : failed = true ∨ sent ≠ got) (b : BarrierId) (s : State) :
    barrierOutcome b failed sent got s = barrierFault b .faultTravel 5 s := if_pos (wrong_iff.mpr h)

theorem headOutcome_wrong {failed : Bool} {sent got : Word} (h : failed = true ∨ sent ≠ got) (b : BarrierId) (s : State) :
    headOutcome b failed sent got s =
      raiseNotice 14 [word (b.val + 1), 6, word (s.barrier b).mode.code] (s.modBarrier b fun t => { t with headFault := true }) :=
  if_pos (wrong_iff.mpr h)

theorem gateOutcome_wrong {failed : Bool} {sent got : Word} (h : failed = true ∨ sent ≠ got) (s : State) :
    gateOutcome failed sent got s = gateFault 5 s := if_pos (wrong_iff.mpr h)

/-- What the zone makes of an outcome that is FAILED or CONFIRMED at another level (R170). -/
theorem zoneOutcome_amiss {z : ZoneId} {failed : Bool} {got : Word} (h : failed = true ∨ got ≠ BitVec.ofNat 16 (s.zone z).level) :
    zoneOutcome z failed got s =
      if (s.zone z).dimmerFault = true then s.modZone z fun y => { y with dimmerFault := true }
      else raiseNotice 15 [word (z.val + 1), 2, word (s.zone z).level, got] (s.modZone z fun y => { y with dimmerFault := true }) :=
  if_pos (wrong_iff.mpr h)

/-- The owner of a point shows a FAILED command in its record (R139, R156, R157, R161, R170). -/
theorem ownerOutcome_shows (p : PointId) (sent got : Word) (u : State) :
    ShowsFailure p u (ownerOutcome (ownerOf u.cfg p) true sent got (setCommandState p .failed u)) where
  command := by
    refine (ownerOutcome_effects Scope.noConfusion (.inr rfl) _ _ _).keepsFailures.command p (.inl ?_)
    rw [setCommandState, point_modPoint, if_pos rfl]
  pump i ho hd hf := by
    rw [ho, ownerOutcome, pumpOutcome_wrong (s := setCommandState p .failed u) (.inl rfl) hd hf]
    exact pumpFault_status ..
  barrier b ho hd hu hf := by
    rw [ho, ownerOutcome, barrierOutcome_wrong (.inl rfl),
      barrierFault_enters (s := setCommandState p .failed u) _ _ hd hu hf, State.status]
    obtain ⟨x, y, h⟩ := barrierFaultEnter_barrier_self b .faultTravel 5 (setCommandState p .failed u)
    rw [h]
    rfl
  gate ho hd hu hf := by
    rw [ho, ownerOutcome, gateOutcome_wrong (.inl rfl), gateFault_enters (s := setCommandState p .failed u) _ hd hu hf,
      State.status, gateFaultEnter_gate]
    rfl
  head b ho := by
    rw [ho, ownerOutcome, headOutcome_wrong (.inl rfl), State.status, State.barrier_congr (raiseNotice_gsq ..),
      State.barrier_modBarrier_self]
    rfl
  zone z ho := by
    rw [ho, ownerOutcome, zoneOutcome_amiss (.inl rfl), State.status, apply_ite (State.zone · z),
      State.zone_congr (raiseNotice_ltu ..), ite_self, State.zone_modZone_self]
    rfl

theorem commandOutcome_shows {p : PointId} (hk : (u.pcfg p).kind = .command) : ShowsFailure p u (commandOutcome p true u) := by
  rw [commandOutcome_eq true hk]
  exact (ownerOutcome_shows p _ _ u).keeps (quiesce_effects (k := .failure)).keepsFailures

theorem commandOutcome_nobody {p : PointId} (hs : u.AtRest) (hk : (u.pcfg p).kind = .command) (ho : ownerOf u.cfg p = .nobody)
    (failed : Bool) : commandOutcome p failed u = setCommandState p (if failed = true then .failed else .confirmed) u := by
  rw [commandOutcome_eq failed hk, ho]
  exact quiesce_of_rest hs

/-- A command that FAILS, the blocks at rest afterwards (R19, R57). -/
theorem commandFails_outcome {p : PointId} {o : Host.Outcome State Fault Refusal} (hs : u.AtRest) (hk : (u.pcfg p).kind = .command)
    (ho : o = .next (commandOutcome p true u)) : commandFails p u o :=
  commandFails_of_shows ho (commandOutcome_shows hk) fun hn => commandOutcome_nobody hs hk hn true

end Sys2Proof.Machine
end

section
/-! PROOFS. The end of a field transaction by its origin and outcome (R14 to R16, R19, R20). -/

set_option Elab.async false

namespace Sys2Proof.Machine

variable {s t u : State}

/-- The state with no transaction in flight. -/
def State.freed (s : State) : State := { s with flc := { s.flc with transaction := none } }

/-! ## Sending -/

theorem fieldSendEnds_sending {x : Transaction} (hx : s.flc.transaction = some x) (hp : x.phase = .sending) :
    fieldSendEnds s =
      { s with flc := { s.flc with
          transaction := some (if x.frame.dst = 0 then { x with phase := .guard, timer := .running (s.now + 2) }
            else { x with phase := .awaiting, timer := .running (s.now + x.window) }) } } := by
  rw [fieldSendEnds, hx]
  exact if_pos hp

theorem fieldSendEnds_idle (h : ∀ x : Transaction, s.flc.transaction = some x → x.phase ≠ .sending) : fieldSendEnds s = s := by
  unfold fieldSendEnds
  split
  · exact if_neg (h _ ‹_›)
  · rfl

/-! ## Replies -/

theorem Transaction.isReply_iff (x : Transaction) (f : Frame) :
    x.isReply f = true ↔ f.src = x.frame.dst ∧ f.tag = x.frame.tag ∧ f.dst = x.frame.src := by
  simp [Transaction.isReply, and_assoc]

/-- The acceptable replies (R14). -/
theorem Transaction.accepts_iff (x : Transaction) (f : Frame) : x.accepts f = true ↔ f.reserved = 0 ∧
    (f.kind = 4 ∧ f.payload.length = 1 ∨
      x.frame.kind = 0 ∧ f.kind = 1 ∧ f.channel = x.frame.channel ∧ f.payload.length = x.frame.span + 1 ∨
      x.frame.kind ≠ 0 ∧ f.kind = 3 ∧ f.channel = x.frame.channel ∧ 1 ≤ f.payload.length ∧
        f.payload.length ≤ x.frame.payload.length) := by
  simp only [Transaction.accepts, Bool.and_eq_true, Bool.or_eq_true, beq_iff_eq, kindRefuse, kindValue, kindEcho]
  refine and_congr_right fun _ => or_congr_right ?_
  by_cases h : x.frame.kind = kindRead
  · have h0 : kindRead = 0#3 := rfl
    simp [h, h0, and_assoc]
  · have h0 : ¬ x.frame.kind = 0#3 := h
    simp [if_neg h, h0, and_assoc]

theorem fieldArrival_discards (h : (∀ x : Transaction, s.flc.transaction = some x → x.phase ≠ .awaiting) ∨ s.flc.line = .quenched)
    (ws : List Word) : fieldArrival ws s = s := by
  unfold fieldArrival
  split
  · rename_i x hx
    refine if_neg fun ⟨hp, hl⟩ => ?_
    exact h.elim (fun h => h x hx hp) hl
  · rfl

/-- The outcome that a frame on the field port has for a transaction, none when it is not its reply (R14). -/
def Transaction.outcome (x : Transaction) (ws : List Word) : Option FieldOutcome :=
  match Frame.decode ws with
  | none => some .corrupt
  | some f => if x.isReply f then some (if x.accepts f then .reply f else .corrupt) else none

theorem fieldArrival_awaiting {x : Transaction} (hx : s.flc.transaction = some x) (hp : x.phase = .awaiting)
    (hl : s.flc.line ≠ .quenched) (ws : List Word) : fieldArrival ws s =
      match x.outcome ws with
      | some o => endTransaction x o s
      | none => s := by
  rw [fieldArrival, hx, Transaction.outcome]
  simp only [hp, hl, ne_eq, not_false_eq_true, and_self, if_true]
  cases Frame.decode ws with
  | none => rfl
  | some f =>
    simp only
    split
    · rfl
    · rfl

/-- The end of a transaction on a RUNNING line. -/
theorem endTransaction_running (hl : s.flc.line = .running) (x : Transaction) (o : FieldOutcome) :
    endTransaction x o s = endOrigin x o s.freed := by
  rw [endTransaction_eq, endOrigin_line, if_neg (by simp [hl])]
  rfl

theorem endOrigin_supervisory {x : Transaction} {w : Frame} (h : x.origin = .supervisory w) (o : FieldOutcome) (s : State) :
    endOrigin x o s = endSupervisory w o s := by
  unfold endOrigin
  rw [h]

theorem endOrigin_command {x : Transaction} {p : PointId} {v : Word} {n : Nat} (h : x.origin = .command p v n) (o : FieldOutcome)
    (s : State) : endOrigin x o s = endCommand p v n o s := by
  unfold endOrigin
  rw [h]

/-- The end of a scan observes a VALUE, and does nothing otherwise (R20). -/
theorem endOrigin_scan {x : Transaction} {e : ScanId} (h : x.origin = .scan e) (f : Frame) (s : State) :
    endOrigin x (.reply f) s = if f.kind = 1 then observeValue f s else s := by
  unfold endOrigin
  rw [h]
  rfl

theorem endOrigin_scan_noReply {x : Transaction} {e : ScanId} (h : x.origin = .scan e) {o : FieldOutcome} (ho : ∀ f, o ≠ .reply f)
    (s : State) : endOrigin x o s = s := by
  unfold endOrigin
  rw [h]
  cases o with
  | reply f => exact absurd rfl (ho f)
  | corrupt | noReply | guardEnd => rfl

/-- A frame ends the transaction on a RUNNING line. -/
theorem exec_fieldArrival {x : Transaction} {ws : List Word} {o : FieldOutcome} (hx : s.flc.transaction = some x)
    (hp : x.phase = .awaiting) (hl : s.flc.line = .running) (ho : x.outcome ws = some o) :
    exec (.fieldFrameArrival ws) s = .next (quiesce (endOrigin x o s.freed)) := by
  have harrive : fieldArrival ws s = endOrigin x o s.freed := by
    rw [fieldArrival_awaiting hx hp (by simp [hl]), ho]
    exact endTransaction_running hl x o
  exact congrArg (fun t => Host.Outcome.next (quiesce t)) harrive

theorem Transaction.outcome_of_check {x : Transaction} {ws : List Word}
    (h : Frame.decode ws = none) : x.outcome ws = some .corrupt := by
  rw [Transaction.outcome, h]

theorem Transaction.outcome_of_reply {x : Transaction} {ws : List Word} {f : Frame} (h : Frame.decode ws = some f)
    (hr : x.isReply f = true) : x.outcome ws = some (if x.accepts f = true then .reply f else .corrupt) := by
  rw [Transaction.outcome, h]
  exact if_pos hr

theorem refuse_atRest (hs : s.AtRest) (w : Frame) (n : Nat) : (refuse w n s).AtRest :=
    hs.of_same (refuse_signals ..) (refuse_lau ..)

theorem offerUp_atRest (hs : s.AtRest) (e : UpEntry) : (offerUp e s).AtRest := hs.of_same (offerUp_signals ..) (offerUp_lau ..)

/-- Settles O15: the end of a request, the acceptable replies, and the frames on the field port by their outcome. -/
theorem fieldSendAndArrival : Obligations.FieldSendAndArrival := by
  refine ⟨fun x f => x.accepts_iff f, fun s hs => ⟨fun x hx hp => ?_, fun h => ?_⟩, fun ws s hs => ⟨fun h => ?_, fun x hx hp hl =>
      ⟨?_, ?_⟩⟩⟩
  · exact exec_of_rest (congrArg (fun t => Host.Outcome.next (quiesce t)) (fieldSendEnds_sending hx hp)) hs
  · exact exec_of_rest (congrArg (fun t => Host.Outcome.next (quiesce t)) (fieldSendEnds_idle h)) hs
  · exact exec_of_rest (congrArg (fun t => Host.Outcome.next (quiesce t)) (fieldArrival_discards h ws)) hs
  · intro f hf hother
    have hout : x.outcome ws = none := by
      rw [Transaction.outcome, hf]
      refine if_neg fun hr => ?_
      obtain ⟨hsrc, htag, hdst⟩ := (x.isReply_iff f).mp hr
      simp [hsrc, htag, hdst] at hother
    refine exec_of_rest (congrArg (fun t => Host.Outcome.next (quiesce t)) (?_ : fieldArrival ws s = s)) hs
    rw [fieldArrival_awaiting hx hp (by simp [hl]), hout]
  · intro w hw
    have hcorrupt : x.outcome ws = some .corrupt → exec (.fieldFrameArrival ws) s = .next (refuse w 3 s.freed) := fun ho =>
      (exec_fieldArrival hx hp hl ho).trans ((congrArg (fun t => Host.Outcome.next (quiesce t))
        (endOrigin_supervisory hw _ _)).trans
        (next_quiesce_of_rest (refuse_atRest (s := s.freed) hs w 3)))
    refine ⟨fun hnone => hcorrupt (Transaction.outcome_of_check hnone), fun f hf hsrc htag hdst => ?_⟩
    have hout := Transaction.outcome_of_reply hf ((x.isReply_iff f).mpr ⟨hsrc, htag, hdst⟩)
    refine ⟨fun hacc => hcorrupt (by rw [hout, hacc]; rfl), fun hkind hlen hres => ?_⟩
    rw [(x.accepts_iff f).mpr ⟨hres, .inl ⟨hkind, hlen⟩⟩, if_pos rfl] at hout
    rw [exec_fieldArrival hx hp hl hout, endOrigin_supervisory hw, endSupervisory, hkind]
    exact next_quiesce_of_rest (offerUp_atRest (s := s.freed) hs _)

end Sys2Proof.Machine
end

section
/-! PROOFS. Expiries of a transaction (R15, R19), the replies observed (R24, R50, R58, R59) and the outcomes of commands (R57). -/

set_option Elab.async false

namespace Sys2Proof.Machine

variable {s t u : State}

/-! ## Expiries -/

theorem fieldExpiry_idle {phase : Phase} (h : ∀ x : Transaction, s.flc.transaction = some x → x.phase ≠ phase) (o : FieldOutcome) :
    fieldExpiry phase o s = s := by
  unfold fieldExpiry
  split
  · exact if_neg (h _ ‹_›)
  · rfl

/-- The expiry of the timer of a transaction in a phase, on a RUNNING line. -/
theorem fieldExpiry_running {x : Transaction} {d : Nat} (hx : s.flc.transaction = some x) (hd : x.timer = .running d)
    (hl : s.flc.line = .running) {phase : Phase} (hp : x.phase = phase) (o : FieldOutcome) :
    fieldExpiry phase o s = endOrigin x o (s.advance d).freed := by
  rw [fieldExpiry, hx]
  simp only [hp, if_true]
  rw [onExpiry_running hd]
  exact endTransaction_running (s := s.advance d) hl x o

theorem queued_iff (s : State) (p : PointId) : s.queued p = true ↔ ∃ e ∈ s.flc.commandQueue, e.point = p := by
  simp [State.queued]

theorem not_queued_iff (s : State) (p : PointId) : s.queued p = false ↔ ∀ e ∈ s.flc.commandQueue, e.point ≠ p := by
  simp [State.queued]

/-- A newer entry for the point waits: the end of the command without a usable reply does nothing (R19). -/
theorem endCommand_superseded {p : PointId} {v : Word} {n : Nat} {o : FieldOutcome} (ho : ∀ f, o ≠ .reply f)
    (hq : s.queued p = true) : endCommand p v n o s = s := by
  rw [endCommand_noReply p v n ho, if_pos hq]

/-- The first attempt of an owned command is put back (R19). -/
theorem endCommand_putBack {p : PointId} {v : Word} {o : FieldOutcome} (ho : ∀ f, o ≠ .reply f) (hq : s.queued p = false)
    (hn : ownerOf s.cfg p ≠ .nobody) : endCommand p v 1 o s =
      s.modFlc fun f => { f with commandQueue := f.commandQueue ++ [{ point := p, value := v, attempt := 2 }] } := by
  rw [endCommand_noReply p v 1 ho, hq, if_neg Bool.false_ne_true, retryCommand, if_pos ⟨rfl, hn⟩]

/-- A command that is not tried again FAILS (R19). -/
theorem endCommand_fails {p : PointId} {v : Word} {n : Nat} {o : FieldOutcome} (ho : ∀ f, o ≠ .reply f) (hq : s.queued p = false)
    (hn : n ≠ 1 ∨ ownerOf s.cfg p = .nobody) : endCommand p v n o s = commandOutcome p true s := by
  rw [endCommand_noReply p v n ho, hq, if_neg Bool.false_ne_true, retryCommand, if_neg fun h => hn.elim (· h.1) h.2]

/-- Settles O17: the expiries by the phase and the origin of the transaction. -/
theorem transactionExpiries : Obligations.TransactionExpiries := by
  intro s hs
  refine ⟨fun h => exec_of_rest (congrArg (fun t => Host.Outcome.next (quiesce t)) (fieldExpiry_idle h .noReply)) hs,
    fun h => exec_of_rest (congrArg (fun t => Host.Outcome.next (quiesce t)) (fieldExpiry_idle h .guardEnd)) hs,
    fun x d hx hd hl => ⟨fun hp => ?_, fun hp w hw => ?_⟩⟩
  · have hend : ∀ t : State, endOrigin x .noReply (s.advance d).freed = t → t.AtRest → exec .replyWindowExpiry s = .next t :=
      fun t ht hrest => exec_of_rest
        (congrArg (fun t => Host.Outcome.next (quiesce t)) ((fieldExpiry_running hx hd hl hp .noReply).trans ht)) hrest
    refine ⟨fun w hw => hend _ (endOrigin_supervisory hw _ _) (refuse_atRest (s := (s.advance d).freed) hs w 2),
      fun e he => hend _ (endOrigin_scan_noReply (o := .noReply) he nofun _) hs, fun p v n hc hq => ?_, fun p v hc hq hn => ?_,
        fun p v n hc hq hn hk => ?_⟩
    · exact hend _ ((endOrigin_command hc _ _).trans (endCommand_superseded nofun ((queued_iff _ p).mpr hq))) hs
    · exact hend _ ((endOrigin_command hc _ _).trans (endCommand_putBack nofun ((not_queued_iff _ p).mpr hq) hn)) hs
    · exact commandFails_outcome hs hk (hend _
        ((endOrigin_command hc _ _).trans (endCommand_fails nofun ((not_queued_iff _ p).mpr hq) hn)) (commandOutcome_atRest hk))
  · exact exec_of_rest (congrArg (fun t => Host.Outcome.next (quiesce t))
      ((fieldExpiry_running hx hd hl hp .guardEnd).trans (endOrigin_supervisory hw _ _))) hs

end Sys2Proof.Machine
end

section
/-! PROOFS. The replies observed (R24, R50, R58, R59) and the outcomes of commands (R57). -/

set_option Elab.async false

namespace Sys2Proof.Machine

variable {k : Scope} {s t u : State}

/-! ## Samples and echoes -/

/-- The samples of a VALUE are applied one by one, each with its bit of the quality word (R24, R50). -/
theorem applyValues_eq_foldl (quality : Word) (l : List (Lookup × Word)) (i : Nat) (s : State) :
    applyValues quality i l s = (l.zipIdx i).foldl (fun t x => match x.1.1.result with
      | .hit p => applySample p x.1.2 (quality.getLsbD x.2) t
      | _ => t) s := by
  induction l generalizing i s with
  | nil => rfl
  | cons x l ih =>
    rw [applyValues, ih]
    rfl

theorem observeValue_eq {f : Frame} {ws : List Word} {quality : Word} (h : f.payload = ws ++ [quality]) (s : State) :
    observeValue f s = applyValues quality 0
      ((lookups s.planInForce f.src .sample 1 f.channel.toNat ws.length s).1.zip ws)
      (lookups s.planInForce f.src .sample 1 f.channel.toNat ws.length s).2 := by
  rw [observeValue, h, List.dropLast_concat, List.getLast?_concat]
  rfl

theorem modPoint_congr {p : PointId} {f g : PointState → PointState} (h : f (s.point p) = g (s.point p)) :
    s.modPoint p f = s.modPoint p g := by
  simp only [State.point] at h
  simp only [State.modPoint, State.modPim, h]

theorem modPoint_modPoint (s : State) (p : PointId) (f g : PointState → PointState) :
    (s.modPoint p f).modPoint p g = s.modPoint p fun x => g (f x) := by
  simp [State.modPoint, State.modPim, Tab.put, Tab.get]

/-- An echo gives a COMMAND point its confirmed value, quality GOOD and a fresh age (R58). -/
theorem applyEcho_command {p : PointId} (hk : (s.pcfg p).kind = .command) (w : Word) : applyEcho p w s = s.modPoint p fun x =>
    { x with
      confirmed := w, quality := .good, since := s.now
      freshTimer := if (s.pcfg p).freshness = 0 then .stopped else .running (s.now + 100 * (s.pcfg p).freshness)
      changed := x.changed || !(x.quality == .good) || !(x.confirmed == w) } := by
  have hk' : ((restartAge p s).pcfg p).kind = .command := hk
  have hold : (restartAge p s).point p = { s.point p with
      since := s.now
      freshTimer := if (s.pcfg p).freshness = 0 then .stopped else .running (s.now + 100 * (s.pcfg p).freshness) } := by
    rw [restartAge, point_modPoint, if_pos rfl]
    rfl
  rw [applyEcho, if_pos hk, observe]
  simp only [hk', hold, beq_self_eq_true, Bool.not_true, Bool.and_false, Bool.false_eq_true, if_false, Bool.or_false]
  rw [restartAge, modPoint_modPoint]
  refine modPoint_congr ?_
  simp [Timer.start, BEq.comm (a := Quality.good), BEq.comm (a := w)]

theorem applyEcho_other {p : PointId} (hk : (s.pcfg p).kind ≠ .command) (w : Word) : applyEcho p w s = s := if_neg hk

/-! ## Observations end at rest -/

theorem observe_atRest (hs : s.AtRest) (p : PointId) (v : Bool) (f : PointState → PointState) : (observe p v f s).AtRest := by
  unfold observe
  simp only
  split
  · exact quiesce_atRest _
  · exact hs

theorem restartAge_atRest (hs : s.AtRest) (p : PointId) : (restartAge p s).AtRest := hs.of_same rfl rfl

theorem applySample_atRest (hs : s.AtRest) (p : PointId) (w : Word) (invalid : Bool) : (applySample p w invalid s).AtRest := by
  unfold applySample
  simp only
  split
  · exact hs
  · exact hs
  · refine observe_atRest ?_ _ _ _
    split
    · exact (restartAge_atRest hs p).of_same rfl rfl
    · exact restartAge_atRest hs p
  · exact observe_atRest (restartAge_atRest hs p) _ _ _
  · split
    · exact observe_atRest (restartAge_atRest hs p) _ _ _
    · exact observe_atRest (restartAge_atRest hs p) _ _ _
  · exact observe_atRest (restartAge_atRest hs p) _ _ _

theorem applyEcho_atRest (hs : s.AtRest) (p : PointId) (w : Word) : (applyEcho p w s).AtRest := by
  unfold applyEcho
  split
  · exact observe_atRest (restartAge_atRest hs p) _ _ _
  · exact hs

theorem foldl_atRest {α : Type} {f : State → α → State} (hf : ∀ s a, s.AtRest → (f s a).AtRest) (l : List α) (hs : s.AtRest) :
    (l.foldl f s).AtRest := by
  induction l generalizing s with
  | nil => exact hs
  | cons a l ih => exact ih (hf s a hs)

theorem applyValues_atRest (quality : Word) (l : List (Lookup × Word)) (i : Nat) (hs : s.AtRest) :
    (applyValues quality i l s).AtRest := by
  induction l generalizing i s with
  | nil => exact hs
  | cons x l ih =>
    refine ih _ ?_
    split
    · exact applySample_atRest hs _ _ _
    · exact hs

theorem observeValue_atRest (hs : s.AtRest) (f : Frame) : (observeValue f s).AtRest :=
  applyValues_atRest _ _ _ ((lookups_traces ..).atRest hs)

theorem observeEcho_atRest (hs : s.AtRest) (f : Frame) : (observeEcho f s).AtRest := by
  refine foldl_atRest (fun s x hs => ?_) _ ((lookups_traces ..).atRest hs)
  split
  · exact applyEcho_atRest hs _ _
  · exact hs

/-! ## What an outcome leaves of the state -/

/-- The steady part of the state less the duty lists, which the confirmed stop of a pump turns (R131). -/
def State.core (s : State) : State := { s.steady with psc := {} }

theorem core_of_steady (h : t.steady = s.steady) : t.core = s.core := congrArg (fun x : State => { x with psc := {} }) h

theorem pumpConfirm_core (p : PumpId) (s : State) : (pumpConfirm p s).core = s.core := by
  unfold pumpConfirm pumpStopped
  simp only
  repeat' split
  · exact core_of_steady (by simp)
  · rfl
  · exact (core_of_steady (pumpSettle_steady ..)).trans rfl
  · exact core_of_steady (pumpSettle_steady ..)
  · rfl
  · rfl

theorem ownerOutcome_core (o : Owner) (failed : Bool) (sent got : Word) (s : State) :
    (ownerOutcome o failed sent got s).core = s.core := by
  cases o with
  | nobody => rfl
  | pump i =>
    unfold ownerOutcome pumpOutcome
    simp only
    repeat' split
    · rfl
    · rfl
    · exact core_of_steady (pumpFault_steady ..)
    · exact pumpConfirm_core ..
  | barrier b =>
    unfold ownerOutcome barrierOutcome
    simp only
    split
    · exact core_of_steady (barrierFault_steady ..)
    · rfl
  | signal b =>
    unfold ownerOutcome headOutcome
    simp only
    split <;> rfl
  | gate =>
    unfold ownerOutcome gateOutcome
    simp only
    split
    · exact core_of_steady (gateFault_steady ..)
    · rfl
  | zone z =>
    unfold ownerOutcome zoneOutcome
    simp only
    repeat' split
    all_goals rfl

theorem setCommandState_steady (p : PointId) (c : CommandState) (s : State) : (setCommandState p c s).steady = s.steady :=
  modPoint_steady s p _ fun _ => rfl

theorem commandOutcome_core {p : PointId} (failed : Bool) (hk : (s.pcfg p).kind = .command) :
    (commandOutcome p failed s).core = s.core := by
  rw [commandOutcome_eq failed hk, core_of_steady (quiesce_steady _), ownerOutcome_core, core_of_steady (setCommandState_steady ..)]

/-- The fields of a point that no request and no outcome changes. -/
theorem point_of_core (h : t.core = s.core) (p : PointId) :
    { t.point p with changed := false, commanded := 0, command := .idle } =
      { s.point p with changed := false, commanded := 0, command := .idle } := by
  have hmap := congrArg (fun x : State => Tab.get x.pim.points p) h
  simpa [State.core, State.steady, Tab.get, State.point] using hmap

/-- A CONFIRMED command stays CONFIRMED until it is commanded anew. -/
theorem commandOutcome_confirmed {p : PointId} (hk : (s.pcfg p).kind = .command) :
    ((commandOutcome p false s).point p).command = .confirmed ∨ ((commandOutcome p false s).point p).command = .pending := by
  have hwork : Effects .confirmation (setCommandState p .confirmed s) (commandOutcome p false s) := by
    rw [commandOutcome_eq false hk]
    exact .after quiesce_effects (ownerOutcome_effects Scope.noConfusion (.inl rfl) _ _ _)
  refine hwork.keeps (P := fun u => (u.point p).command = .confirmed ∨ (u.point p).command = .pending) (fun e hu => ?_) (.inl ?_)
  · obtain h | h | ⟨h, -⟩ := e.command rfl p
    · rwa [h]
    · exact .inr h
    · cases h
  · rw [setCommandState, point_modPoint, if_pos rfl]

/-! ## The outcomes of a command by owner, and the replies -/

/-- The outcome for a barrier, a head, the gate and a zone (R156, R157, R161, R170). -/
theorem barrierOutcome_idle {b : BarrierId} {failed : Bool} {sent got : Word} (h : ¬ (failed = true ∨ sent ≠ got) ∨
    ((s.barrier b).mode = .disabled ∨ (s.barrier b).mode = .unknown ∨ (s.barrier b).mode.isFault = true)) :
    barrierOutcome b failed sent got s = s := by
  unfold barrierOutcome
  split
  · rename_i hw
    exact barrierFault_stays _ _ (h.resolve_left (not_not_intro (wrong_iff.mp hw)))
  · rfl

theorem gateOutcome_idle {failed : Bool} {sent got : Word} (h : ¬ (failed = true ∨ sent ≠ got) ∨
    (s.gsq.gate.mode = .disabled ∨ s.gsq.gate.mode = .unknown ∨ s.gsq.gate.mode = .fault)) :
    gateOutcome failed sent got s = s := by
  unfold gateOutcome
  split
  · rename_i hw
    exact gateFault_stays _ (h.resolve_left (not_not_intro (wrong_iff.mp hw)))
  · rfl

/-- A barrier that takes a FAILED or wrong outcome out of its fault states (R156). -/
theorem barrierOutcome_faults {b : BarrierId} {failed : Bool} {sent got : Word} (hw : failed = true ∨ sent ≠ got)
    (hd : (s.barrier b).mode ≠ .disabled) (hu : (s.barrier b).mode ≠ .unknown) (hf : (s.barrier b).mode.isFault = false) :
    barrierOutcome b failed sent got s = barrierFaultEnter b .faultTravel 5 s :=
  (barrierOutcome_wrong hw b s).trans (barrierFault_enters _ _ hd hu hf)

theorem gateOutcome_faults {failed : Bool} {sent got : Word} (hw : failed = true ∨ sent ≠ got)
    (hd : s.gsq.gate.mode ≠ .disabled) (hu : s.gsq.gate.mode ≠ .unknown) (hf : s.gsq.gate.mode ≠ .fault) :
    gateOutcome failed sent got s = gateFaultEnter 5 s :=
  (gateOutcome_wrong hw s).trans (gateFault_enters _ hd hu hf)

theorem headOutcome_right {failed : Bool} {sent got : Word} (h : ¬ (failed = true ∨ sent ≠ got)) (b : BarrierId) (s : State) :
    headOutcome b failed sent got s = s.modBarrier b fun t => { t with headFault := false } :=
  if_neg fun hw => h (wrong_iff.mp hw)

theorem zoneOutcome_right {z : ZoneId} {failed : Bool} {got : Word}
    (h : ¬ (failed = true ∨ got ≠ BitVec.ofNat 16 (s.zone z).level)) :
    zoneOutcome z failed got s = s.modZone z fun y => { y with dimmerFault := false, retry := 0 } :=
  if_neg fun hw => h (wrong_iff.mp hw)

theorem queued_applyEcho (p q : PointId) (w : Word) (hk : (s.pcfg p).kind = .command) :
    (applyEcho p w s).queued q = s.queued q := by
  rw [applyEcho_command hk]
  rfl

/-- The ECHO of a command: the point takes the confirmed value, and the outcome follows unless a newer entry waits (R58). -/
theorem endCommand_echo {p : PointId} {f : Frame} {w : Word} {more : List Word} (hk : (s.pcfg p).kind = .command)
    (hkind : f.kind = 3) (hw : f.payload = w :: more) (v : Word) (n : Nat) : endCommand p v n (.reply f) s =
      if s.queued p then applyEcho p w s else commandOutcome p false (applyEcho p w s) := by
  have he : f.kind = kindEcho := hkind
  rw [endCommand_reply, hw, if_pos he, he]
  exact congrArg (fun c : Bool => if c then applyEcho p w s else commandOutcome p false (applyEcho p w s))
    (queued_applyEcho p p w hk)

/-- The REFUSE of a command (R20). -/
theorem endCommand_refuse {p : PointId} {f : Frame} (hkind : f.kind = 4) (v : Word) (n : Nat) : endCommand p v n (.reply f) s =
      if s.queued p then s else commandOutcome p true s := by
  rw [endCommand_reply, hkind, if_neg (by decide : ¬ (4 : BitVec 3) = kindEcho)]
  rfl

/-- What the ECHO of a command leaves of the points and of the rest of the state. -/
theorem echo_core {p : PointId} {w : Word} (hk : (s.pcfg p).kind = .command) (h : t.core = (applyEcho p w s).core) :
    (t.point p).confirmed = w ∧ (t.point p).quality = .good ∧ (t.point p).since = s.now ∧
      (t.point p).freshTimer = (if (s.pcfg p).freshness = 0 then .stopped else .running (s.now + 100 * (s.pcfg p).freshness)) ∧
      (∀ r, r ≠ p → (t.point r).quality = (s.point r).quality ∧ (t.point r).confirmed = (s.point r).confirmed) ∧
      t.flc.transaction = s.flc.transaction ∧ t.cfg = s.cfg ∧ t.now = s.now ∧ t.pmu.sets = s.pmu.sets ∧
      t.pmu.pinned = s.pmu.pinned := by
  rw [applyEcho_command hk] at h
  have hself := point_of_core h p
  rw [point_modPoint, if_pos rfl] at hself
  have hother : ∀ r, r ≠ p → _ := fun r hr => by
    have hr' := point_of_core h r
    rw [point_modPoint, if_neg hr] at hr'
    exact hr'
  exact ⟨(congrArg PointState.confirmed hself :), (congrArg PointState.quality hself :), (congrArg PointState.since hself :),
    (congrArg PointState.freshTimer hself :),
    fun r hr => ⟨(congrArg PointState.quality (hother r hr) :), (congrArg PointState.confirmed (hother r hr) :)⟩,
    (congrArg (fun x : State => x.flc.transaction) h :), (congrArg State.cfg h :), (congrArg State.now h :),
    (congrArg (fun x : State => x.pmu.sets) h :), (congrArg (fun x : State => x.pmu.pinned) h :)⟩

/-- A frame on the field port that ends the transaction, the blocks at rest afterwards. -/
theorem exec_fieldArrival_of_rest {x : Transaction} {ws : List Word} {o : FieldOutcome} (hx : s.flc.transaction = some x)
    (hp : x.phase = .awaiting) (hl : s.flc.line = .running) (ho : x.outcome ws = some o) (ht : endOrigin x o s.freed = t)
    (hrest : t.AtRest) : exec (.fieldFrameArrival ws) s = .next t :=
  (exec_fieldArrival hx hp hl ho).trans ((congrArg (fun t => Host.Outcome.next (quiesce t)) ht).trans (next_quiesce_of_rest hrest))

/-- Settles O16: what is observed of a reply, the outcome of a command by owner, and the end of a scan, of a supervisory frame and
of a command by the reply. -/
theorem repliesObserved : Obligations.RepliesObserved := by
  refine ⟨fun _ _ _ _ _ _ _ => ⟨rfl, rfl⟩, fun f ws quality s h => (observeValue_eq h s).trans (applyValues_eq_foldl ..),
    fun _ _ => rfl, fun p w s => ⟨fun h => applyEcho_other h w, fun h => applyEcho_command h w⟩,
    fun p failed s => ⟨fun h => if_neg h, fun h => (commandOutcome_eq failed h).trans ?_⟩,
    fun failed sent got s => ⟨fun b => ⟨barrierOutcome_idle, fun hw hi => ?_, fun hw => headOutcome_wrong hw b s,
      fun hw => headOutcome_right hw b s⟩, ⟨gateOutcome_idle, fun hw hi => ?_⟩, fun z => ⟨zoneOutcome_right, fun hw => ?_⟩⟩,
    fun ws x s hs hx hp hl => ?_⟩
  · cases ownerOf s.cfg p <;> rfl
  · obtain ⟨hd, hu, hf⟩ : _ ∧ _ ∧ _ := by simpa only [not_or, Bool.not_eq_true] using hi
    rw [barrierOutcome_faults hw hd hu hf]
    obtain ⟨_, _, hself⟩ := barrierFaultEnter_barrier_self b .faultTravel 5 s
    rw [hself]
    exact ⟨rfl, rfl, rfl, rfl, rfl, rfl, barrierFaultEnter_queue b _ _ _, fun o ho => barrierFaultEnter_barrier_ne ho ..,
      barrierFaultEnter_motorLoad b rfl .., barrierFaultEnter_upp ..⟩
  · obtain ⟨hd, hu, hf⟩ : _ ∧ _ ∧ _ := by simpa only [not_or] using hi
    rw [gateOutcome_faults hw hd hu hf]
    exact ⟨gateFaultEnter_gate .., gateFaultEnter_queue _ _, gateFaultEnter_motorLoad .., gateFaultEnter_flc ..,
        gateFaultEnter_upp ..⟩
  · exact zoneOutcome_amiss hw
  · have hend : ∀ {o : FieldOutcome} {t : State}, x.outcome ws = some o → endOrigin x o s.freed = t → t.AtRest →
        exec (.fieldFrameArrival ws) s = .next t := exec_fieldArrival_of_rest hx hp hl
    have hfree : s.freed.AtRest := hs
    refine ⟨fun f hf hsrc htag hdst hacc => ?_, ?_⟩
    · have hout : x.outcome ws = some (.reply f) := by
        rw [Transaction.outcome_of_reply hf ((x.isReply_iff f).mpr ⟨hsrc, htag, hdst⟩), if_pos hacc]
      refine ⟨fun e he => ⟨fun hv => ?_, fun hv => ?_⟩, fun w hw => ⟨fun hv => ?_, fun hv => ?_⟩, fun p v n hc hk =>
        ⟨fun w more hkind hpay => ?_, fun hkind => ?_⟩⟩
      · exact hend hout ((endOrigin_scan he f _).trans (if_pos hv)) (observeValue_atRest hfree f)
      · exact hend hout ((endOrigin_scan he f _).trans (if_neg hv)) hfree
      · refine hend hout ((endOrigin_supervisory hw _ _).trans ?_) (offerUp_atRest (observeValue_atRest hfree f) _)
        rw [endSupervisory, hv]
        rfl
      · refine hend hout ((endOrigin_supervisory hw _ _).trans ?_) (offerUp_atRest (observeEcho_atRest hfree f) _)
        rw [endSupervisory, hv]
        rfl
      · have hcfg : (applyEcho p w s.freed).cfg = s.cfg := (congrArg State.cfg (applyEcho_command (s := s.freed) hk w) :)
        have hk' : ((applyEcho p w s.freed).pcfg p).kind = .command := by
          rw [State.pcfg, hcfg]
          exact hk
        have hecho := (endOrigin_command hc (.reply f) s.freed).trans (endCommand_echo (s := s.freed) hk hkind hpay v n)
        have hwaiting : (∃ e ∈ s.flc.commandQueue, e.point = p) → exec (.fieldFrameArrival ws) s = .next (applyEcho p w s.freed) :=
          fun hq => hend hout (hecho.trans (if_pos ((queued_iff s p).mpr hq))) (applyEcho_atRest hfree p w)
        refine ⟨?_, hwaiting⟩
        by_cases hq : ∃ e ∈ s.flc.commandQueue, e.point = p
        · obtain ⟨h1, h2, h3, h4, h5⟩ := echo_core (s := s.freed) (t := applyEcho p w s.freed) hk rfl
          have hnot : ¬ ∀ e ∈ s.flc.commandQueue, e.point ≠ p := fun h => hq.elim fun e he => h e he.1 he.2
          exact ⟨_, hwaiting hq, h1, h2, h3, h4, fun h => absurd h hnot, fun h => absurd h hnot, h5⟩
        · have hq' : s.freed.queued p = false := (not_queued_iff s p).mpr fun e he hep => hq ⟨e, he, hep⟩
          rw [hq', if_neg Bool.false_ne_true] at hecho
          obtain ⟨h1, h2, h3, h4, h5⟩ := echo_core (s := s.freed) hk (commandOutcome_core false hk')
          refine ⟨_, hend hout hecho (commandOutcome_atRest hk'), h1, h2, h3, h4, fun _ => ⟨fun hn => ?_, ?_⟩, fun _ => rfl, h5⟩
          · rw [← hcfg] at hn
            rw [commandOutcome_nobody (applyEcho_atRest hfree p w) hk' hn, setCommandState, point_modPoint, if_pos rfl]
            rfl
          · exact commandOutcome_confirmed hk'
      · have hrefuse := (endOrigin_command hc (.reply f) s.freed).trans (endCommand_refuse (s := s.freed) hkind v n)
        refine ⟨fun hq => hend hout (hrefuse.trans (if_pos ((queued_iff s p).mpr hq))) hfree, fun hq => ?_⟩
        have hfail : exec (.fieldFrameArrival ws) s = .next (commandOutcome p true s.freed) := by
          refine hend hout (hrefuse.trans ?_) (commandOutcome_atRest hk)
          rw [(not_queued_iff s.freed p).mpr hq]
          rfl
        exact ⟨hfail, commandFails_outcome hfree hk hfail⟩
    · have hout : (match Frame.decode ws with
          | none => True
          | some f => f.src = x.frame.dst ∧ f.tag = x.frame.tag ∧ f.dst = x.frame.src ∧ x.accepts f = false) →
          x.outcome ws = some .corrupt := by
        intro hc
        cases hf : Frame.decode ws with
        | none => exact Transaction.outcome_of_check hf
        | some f =>
          rw [hf] at hc
          obtain ⟨hsrc, htag, hdst, hacc⟩ := hc
          rw [Transaction.outcome_of_reply hf ((x.isReply_iff f).mpr ⟨hsrc, htag, hdst⟩), hacc]
          rfl
      refine ⟨fun hc e he => hend (hout hc) (endOrigin_scan_noReply (o := .corrupt) he nofun _) hfree,
        fun hc p v n ho hk => ⟨fun hq => ?_, fun hq => ⟨fun hn howned => ?_, fun hn => ?_⟩⟩⟩
      · exact hend (hout hc) ((endOrigin_command ho _ _).trans (endCommand_superseded nofun ((queued_iff _ p).mpr hq))) hfree
      · subst hn
        exact hend (hout hc) ((endOrigin_command ho _ _).trans
            (endCommand_putBack nofun ((not_queued_iff _ p).mpr hq) howned)) hfree
      · exact commandFails_outcome hfree hk (hend (hout hc)
          ((endOrigin_command ho _ _).trans (endCommand_fails nofun ((not_queued_iff _ p).mpr hq) hn)) (commandOutcome_atRest hk))

end Sys2Proof.Machine
end

section
/-! PROOFS. The grants of the Field Arbiter (R11 to R13, R18, R20). -/

set_option Elab.async false

namespace Sys2Proof.Machine

variable {s t u : State}

/-! ## One grant, and the grants at once after it -/

/-- The arbiter grants nothing on a line that is not RUNNING or not free, and without work (R12). -/
theorem grantLine_none (h : s.flc.line ≠ .running ∨ s.flc.transaction.isSome = true ∨
    (s.flc.commandQueue = [] ∧ s.upp.downstream = [] ∧ s.flc.scanPending = [])) : grantLine s = none := by
  unfold grantLine
  split
  · rename_i hfree
    obtain ⟨hl, htx⟩ := hfree
    rcases h with h | h | ⟨hq, hd, hp⟩
    · exact absurd hl h
    · simp [htx] at h
    · simp [hq, hd, hp]
  · rfl

/-- The Command Queue goes first (R12). -/
theorem grantLine_command {e : CommandEntry} {rest : List CommandEntry} (hl : s.flc.line = .running)
    (htx : s.flc.transaction = none) (hq : s.flc.commandQueue = e :: rest) :
    grantLine s = some (takeCommand e (s.modFlc fun f => { f with commandQueue := rest })) := by
  rw [grantLine, if_pos ⟨hl, htx⟩, hq]

theorem grantLine_downstream {w : Frame} {ws : List Frame} (hl : s.flc.line = .running) (htx : s.flc.transaction = none)
    (hq : s.flc.commandQueue = []) (hd : s.upp.downstream = w :: ws) (hturn : s.flc.scanPending = [] ∨
      s.flc.pairTurn = .downstream) :
    grantLine s = some (takeSupervisory w
      ((s.modUpp fun u => { u with downstream := ws }).modFlc fun f => { f with pairTurn := .scan })) := by
  rw [grantLine, if_pos ⟨hl, htx⟩, hq, hd]
  cases hp : s.flc.scanPending with
  | nil => rfl
  | cons e es => exact if_pos (hturn.resolve_left (by simp [hp]))

theorem grantLine_scan {e : ScanId} {es : List ScanId} (hl : s.flc.line = .running) (htx : s.flc.transaction = none)
    (hq : s.flc.commandQueue = []) (hp : s.flc.scanPending = e :: es) (hturn : s.upp.downstream = [] ∨ s.flc.pairTurn = .scan) :
    grantLine s = some (takeScan e (s.modFlc fun f => { f with scanPending := es, pairTurn := .downstream })) := by
  rw [grantLine, if_pos ⟨hl, htx⟩, hq, hp]
  cases hd : s.upp.downstream with
  | nil => rfl
  | cons w ws => exact if_neg (by simp [hturn.resolve_left (by simp [hd])])

theorem grantLoop_none (h : grantLine s = none) (n : Nat) : grantLoop n s = s := by
  cases n with
  | zero => rfl
  | succ n => rw [grantLoop, h]

theorem grantLoop_some (h : grantLine s = some t) (n : Nat) : grantLoop (n + 1) s = grantLoop n t := by
  rw [grantLoop, h]

theorem exec_grant_idle (hs : s.AtRest) (h : grantLine s = none) : exec .fieldArbiterGrant s = .next s :=
  exec_of_rest (congrArg (fun t => Host.Outcome.next (quiesce t)) (grantLoop_none h 256)) hs

theorem exec_grant_some (h : grantLine s = some t) : exec .fieldArbiterGrant s = .next (quiesce (grantLoop 255 t)) :=
  congrArg (fun t => Host.Outcome.next (quiesce t)) (grantLoop_some h 255)

/-- A grant after which nothing more is granted. -/
theorem exec_grant_once (h : grantLine s = some t) (hstop : grantLine t = none) (ht : t.AtRest) :
    exec .fieldArbiterGrant s = .next t := by
  rw [exec_grant_some h, grantLoop_none hstop]
  exact next_quiesce_of_rest ht

/-- A grant that starts a transaction. -/
theorem exec_grant_sends (h : grantLine s = some t) (htx : t.flc.transaction.isSome = true) (ht : t.AtRest) :
    exec .fieldArbiterGrant s = .next t := exec_grant_once h (grantLine_none (.inr (.inl htx))) ht

/-! ## Commands -/

theorem takeCommand_found {e : CommandEntry} {station : Station} {channel : Channel}
    (h : commandSearch e.point s = (some (station, channel), u)) : takeCommand e s =
      { u with flc :=
        { s.flc with
          ownTag := s.flc.ownTag + 1
          transaction := some
            { origin := .command e.point e.value e.attempt
              frame := { kind := 2, tag := s.flc.ownTag, dst := station, src := 63, channel := channel, payload := [e.value] }
              phase := .sending, window := s.cfg.line.replyWindow, timer := .stopped } } } := by
  have hu : Traces s u := by simpa [h] using commandSearch_traces (s := s) e.point
  rw [takeCommand, h, ← hu.flc, ← hu.cfg]
  rfl

theorem takeCommand_missing {e : CommandEntry} (h : commandSearch e.point s = (none, u)) :
    takeCommand e s = commandOutcome e.point true u := by
  rw [takeCommand, h]

theorem modFlc_keepsFailures (f : Flc → Flc) (s : State) : KeepsFailures s (s.modFlc f) := ⟨fun _ => .refl _ _, fun _ => id⟩

theorem takeCommand_keepsFailures (e : CommandEntry) (s : State) : KeepsFailures s (takeCommand e s) := by
  have hsearch := (commandSearch_effects (k := .failure) (s := s) e.point).keepsFailures
  unfold takeCommand
  split
  · next h =>
    rw [h] at hsearch
    exact .after (modFlc_keepsFailures _ _) (.after (modFlc_keepsFailures _ _) hsearch)
  · next h =>
    rw [h] at hsearch
    exact .after (commandOutcome_effects (.inr ⟨rfl, rfl⟩) _).keepsFailures hsearch

/-- The taking of a command leaves the two other sources of work as they are. -/
theorem takeCommand_sources (e : CommandEntry) (s : State) : (takeCommand e s).upp.downstream = s.upp.downstream ∧
    (takeCommand e s).flc.scanPending = s.flc.scanPending := by
  have hsearch := commandSearch_effects (k := .failure) (s := s) e.point
  unfold takeCommand
  split
  · next h =>
    rw [h] at hsearch
    exact ⟨hsearch.downstream, hsearch.scanPending⟩
  · next h =>
    rw [h] at hsearch
    have hwork := Effects.after (commandOutcome_effects (k := .failure) (.inr ⟨rfl, rfl⟩) e.point) hsearch
    exact ⟨hwork.downstream, hwork.scanPending⟩

/-- With the Command Queue as the only source of work, the grants keep what a FAILED command shows. -/
theorem grantLoop_keepsFailures (n : Nat) (hd : s.upp.downstream = []) (hp : s.flc.scanPending = []) :
    KeepsFailures s (grantLoop n s) := by
  induction n generalizing s with
  | zero => exact .refl s
  | succ n ih =>
    cases hg : grantLine s with
    | none => rw [grantLoop_none hg]; exact .refl s
    | some t =>
      rw [grantLoop_some hg]
      have hbusy : ¬ (s.flc.line ≠ .running ∨ s.flc.transaction.isSome = true ∨
          (s.flc.commandQueue = [] ∧ s.upp.downstream = [] ∧ s.flc.scanPending = [])) := fun h => by
        simp [grantLine_none h] at hg
      simp only [hd, hp, and_true, not_or, ne_eq, not_not, Bool.not_eq_true, Option.isSome_eq_false_iff,
        Option.isNone_iff_eq_none] at hbusy
      obtain ⟨hl, htx, hq⟩ := hbusy
      obtain ⟨e, rest, hq⟩ := List.exists_cons_of_ne_nil hq
      obtain rfl : _ = t := Option.some.inj ((grantLine_command hl htx hq).symm.trans hg)
      obtain ⟨hd', hp'⟩ := takeCommand_sources e (s.modFlc fun f => { f with commandQueue := rest })
      exact .after (ih (hd'.trans hd) (hp'.trans hp)) (.after (takeCommand_keepsFailures e _) (modFlc_keepsFailures _ s))

/-- The command search finds no entry for the only command: the command FAILS (R19). -/
theorem grant_commandFails {e : CommandEntry} (hs : s.AtRest) (hl : s.flc.line = .running) (htx : s.flc.transaction = none)
    (hq : s.flc.commandQueue = [e]) (hd : s.upp.downstream = []) (hp : s.flc.scanPending = [])
    (hsearch : commandSearch e.point { s with flc := { s.flc with commandQueue := [] } } = (none, u))
    (hk : (s.pcfg e.point).kind = .command) : commandFails e.point u (exec .fieldArbiterGrant s) := by
  have hu : Traces { s with flc := { s.flc with commandQueue := [] } } u := by
    simpa [hsearch] using commandSearch_traces (s := { s with flc := { s.flc with commandQueue := [] } }) e.point
  have hku : (u.pcfg e.point).kind = .command := by
    rw [State.pcfg, hu.cfg]
    exact hk
  have hgrant : grantLine s = some (commandOutcome e.point true u) :=
    (grantLine_command hl htx hq).trans (congrArg some (takeCommand_missing hsearch))
  obtain ⟨hd', hp'⟩ := takeCommand_sources e { s with flc := { s.flc with commandQueue := [] } }
  rw [takeCommand_missing hsearch] at hd' hp'
  refine commandFails_of_shows (exec_grant_some hgrant) (((commandOutcome_shows hku).keeps
    (grantLoop_keepsFailures 255 (hd'.trans hd) (hp'.trans hp))).keeps quiesce_effects.keepsFailures) fun hn => ?_
  have hrest : u.AtRest := hu.atRest hs
  have hempty : u.flc.commandQueue = [] := by rw [hu.flc]
  have hout : commandOutcome e.point true u = setCommandState e.point .failed u := commandOutcome_nobody hrest hku hn true
  rw [hout] at hd' hp' ⊢
  have hstop : grantLine (setCommandState e.point .failed u) = none :=
    grantLine_none (.inr (.inr ⟨hempty, hd'.trans hd, hp'.trans hp⟩))
  rw [grantLoop_none hstop]
  exact quiesce_of_rest (hrest.of_same rfl rfl)

/-- Settles O12: the grants by the source of work. -/
theorem arbiterGrants : Obligations.ArbiterGrants := by
  refine fun s hs => ⟨fun h => exec_grant_idle hs (grantLine_none h), fun hl htx =>
    ⟨fun e rest station channel u hq hsearch => ?_, fun w ws hq hd hk hturn => ?_, fun e es hq hp hen hspan hturn => ?_,
      fun e hq hd hp hen => ?_, fun e u hq hd hp hsearch hk => grant_commandFails hs hl htx hq hd hp hsearch hk⟩⟩
  · have hu := commandSearch_traces (s := { s with flc := { s.flc with commandQueue := rest } }) e.point
    rw [hsearch] at hu
    exact exec_grant_sends ((grantLine_command hl htx hq).trans (congrArg some (takeCommand_found hsearch))) rfl (hu.atRest hs)
  · refine exec_grant_sends ((grantLine_downstream hl htx hq hd hturn).trans (congrArg some ?_)) rfl hs
    have hread : w.kind = kindRead := hk
    rw [takeSupervisory, if_pos hread]
    rfl
  · refine exec_grant_sends ((grantLine_scan hl htx hq hp hturn).trans (congrArg some ?_)) rfl hs
    rw [takeScan]
    refine (if_pos hen).trans ?_
    have hword : word (s.scanCfg e).span = BitVec.ofNat 16 (s.scanCfg e).span := word_of_lt (by omega)
    rw [← hword]
    rfl
  · refine exec_grant_once ((grantLine_scan hl htx hq hp (.inl hd)).trans (congrArg some ?_))
      (grantLine_none (.inr (.inr ⟨hq, hd, rfl⟩))) hs
    rw [takeScan]
    exact if_neg (by rw [Bool.not_eq_true]; exact hen)

end Sys2Proof.Machine
end

section
/-! PROOFS. The judgement of a supervisory WRITE (R13, R30, R103 to R106), and its taking by the Field Arbiter. -/

set_option Elab.async false

namespace Sys2Proof.Machine

variable {s t u : State}

/-! ## The Override Table -/

theorem find?_insertOverride_self (e : Override) (l : List Override) :
    (insertOverride e l).find? (fun x => x.point == e.point) = some e := by
  induction l with
  | nil => simp [insertOverride]
  | cons x l ih =>
    unfold insertOverride
    split
    · simp
    · split
      · simp
      · rename_i hne
        rw [List.find?_cons_of_neg (by simpa using Ne.symm hne), ih]

theorem find?_insertOverride_ne {e : Override} {q : PointId} (h : e.point ≠ q) (l : List Override) :
    (insertOverride e l).find? (fun x => x.point == q) = l.find? (fun x => x.point == q) := by
  induction l with
  | nil => simp [insertOverride, h]
  | cons x l ih =>
    unfold insertOverride
    split
    · rw [List.find?_cons_of_neg (by simpa using h)]
    · split
      · rename_i heq
        rw [List.find?_cons_of_neg (by simpa using h), List.find?_cons_of_neg (by simpa [← heq] using h)]
      · simp only [List.find?_cons, ih]

/-! ## What the lookups of a WRITE meet -/

theorem lookups_length (plan : Plan) (station : Station) (dir : Direction) (kind : BitVec 3) (c n : Nat) (s : State) :
    (lookups plan station dir kind c n s).1.length = n := by
  induction n generalizing c s with
  | zero => rfl
  | succ n ih => exact congrArg Nat.succ (ih _ _)

theorem lookups_one (plan : Plan) (station : Station) (dir : Direction) (kind : BitVec 3) (channel : Channel) (s : State) :
    lookups plan station dir kind channel.toNat 1 s =
      ([(lookup { plan := plan, station := station, channel := channel } dir kind s).1],
        (lookup { plan := plan, station := station, channel := channel } dir kind s).2) := by
  simp [lookups]

/-- The first channel of a WRITE that reaches an OWNED COMMAND POINT, with its value (R103). -/
def ownedHit (t : Tables) (l : List (Lookup × Word)) : Option (PointId × Word) :=
  l.findSome? fun x => match x.1.result with
    | .hit p => if ownerOf t p = .nobody then none else some (p, x.2)
    | _ => none

/-- The lookups that a WRITE makes (R13). -/
def writeLookups (w : Frame) (s : State) : List Lookup × State :=
  lookups s.planInForce w.dst .command kindWrite w.channel.toNat w.payload.length s

theorem writeLookups_traces (w : Frame) (s : State) : Traces s (writeLookups w s).2 := lookups_traces ..

theorem ownedHit_none_of {t : Tables} {l : List (Lookup × Word)}
    (h : ∀ x ∈ l, ∀ p, x.1.result = .hit p → ownerOf t p = .nobody) : ownedHit t l = none := by
  refine List.findSome?_eq_none_iff.mpr fun x hx => ?_
  split
  · next p hp => exact if_pos (h x hx p hp)
  · rfl

theorem ownedHit_ne_none {t : Tables} {l : List (Lookup × Word)} {x : Lookup × Word} {p : PointId} (hx : x ∈ l)
    (hp : x.1.result = .hit p) (ho : ownerOf t p ≠ .nobody) : ownedHit t l ≠ none := by
  intro h
  have hnone := List.findSome?_eq_none_iff.mp h x hx
  simp [hp, ho] at hnone

theorem exists_mem_zip {l : List Lookup} {ws : List Word} (h : l.length = ws.length) {x : Lookup} (hx : x ∈ l) :
    ∃ y ∈ l.zip ws, y.1 = x := by
  rw [← List.map_fst_zip (l₁ := l) (l₂ := ws) h.le] at hx
  exact List.mem_map.mp hx

/-! ## The judgement by case -/

/-- The judgement of a WRITE whose lookups meet no failing check and no multi-hit. -/
def judgeGood (w : Frame) (s : State) : State :=
  let r := writeLookups w s
  match ownedHit s.cfg (r.1.zip w.payload) with
  | some (p, v) =>
    match s.authority w.payload.length (ownerOf s.cfg p) v with
    | .forward => sendField (.supervisory w) w r.2
    | .refuse reason => refuseAuthority w reason (some (s.writeKey w)) r.2
    | .adopt => quiesce (adopt w p v r.2)
  | none =>
    match r.1.find? (fun l => l.result == .miss) with
    | some l =>
      if s.cfg.line.refuseUnmapped = true then
        logFault { cls := .map, detail := 9, key := some l.key, kind := 2 } (refuse w 9 r.2)
      else sendField (.supervisory w) w r.2
    | none => sendField (.supervisory w) w r.2

theorem authority_of_traces (h : Traces s t) : t.authority = s.authority := h.field State.authority fun _ _ _ => rfl

theorem judgeWrite_eq (w : Frame) (s : State) : judgeWrite w s =
    if (writeLookups w s).1.any (fun l => l.parityFault || l.result == .multiHit) then refuse w 10 (writeLookups w s).2
    else judgeGood w s := by
  unfold judgeGood
  rw [← authority_of_traces (writeLookups_traces w s)]
  rfl

theorem judgeWrite_bad {w : Frame} (h : ∃ l ∈ (writeLookups w s).1, l.parityFault = true ∨ l.result = .multiHit) :
    judgeWrite w s = refuse w 10 (writeLookups w s).2 := by
  rw [judgeWrite_eq]
  exact if_pos (by simpa using h)

theorem judgeWrite_good {w : Frame} (h : ∀ l ∈ (writeLookups w s).1, l.parityFault = false ∧ l.result ≠ .multiHit) :
    judgeWrite w s = judgeGood w s := by
  rw [judgeWrite_eq]
  exact if_neg (by simpa using h)

theorem refuseAuthority_atRest (hs : s.AtRest) (w : Frame) (reason : Nat) (key : Option Key) :
    (refuseAuthority w reason key s).AtRest := (refuse_atRest hs w reason).of_same (logFault_signals ..) (logFault_lau ..)

/-- A judgement sends the WRITE, or it works on the ports, the records and the Override Table alone. -/
theorem judgeWrite_cases (w : Frame) (s : State) : judgeWrite w s = sendField (.supervisory w) w (writeLookups w s).2 ∨
    (Effects .operation s (judgeWrite w s) ∧ (s.AtRest → (judgeWrite w s).AtRest)) := by
  have hlook := writeLookups_traces w s
  have hrefused : ∀ reason key, Effects .operation s (refuseAuthority w reason key (writeLookups w s).2) ∧
      (s.AtRest → (refuseAuthority w reason key (writeLookups w s).2).AtRest) := fun reason key =>
    ⟨.after (refuseAuthority_effects ..) hlook.effects, fun hs => refuseAuthority_atRest (hlook.atRest hs) w reason key⟩
  rw [judgeWrite_eq]
  split
  · exact .inr ⟨.after (refuse_effects w 10) hlook.effects, fun hs => refuse_atRest (hlook.atRest hs) w 10⟩
  · unfold judgeGood
    simp only
    split
    · split
      · exact .inl rfl
      · exact .inr (hrefused _ _)
      · exact .inr ⟨.after quiesce_effects (.after (adopt_effects ..) hlook.effects), fun _ => quiesce_atRest _⟩
    · split
      · split
        · exact .inr ⟨.after (logFault_effects _) (.after (refuse_effects w 9) hlook.effects), fun hs =>
            (refuse_atRest (hlook.atRest hs) w 9).of_same (logFault_signals ..) (logFault_lau ..)⟩
        · exact .inl rfl
      · exact .inl rfl

/-- The transaction that a WRITE of the supervisory system starts (R11). -/
def supervisoryTransaction (w : Frame) (s : State) : Transaction :=
  { origin := .supervisory w, frame := w, phase := .sending, window := s.cfg.line.replyWindow, timer := .stopped }

theorem sendField_supervisory {w : Frame} (h : t.cfg = s.cfg) :
    sendField (.supervisory w) w t = { t with flc := { t.flc with transaction := some (supervisoryTransaction w s) } } := by
  rw [supervisoryTransaction, ← h]
  rfl

/-! ## A WRITE of one value to an OWNED COMMAND POINT -/

theorem writeLookups_one {w : Frame} {v : Word} (hw : w.payload = [v]) : writeLookups w s =
    ([(lookup (s.writeKey w) .command kindWrite s).1], (lookup (s.writeKey w) .command kindWrite s).2) := by
  rw [writeLookups, hw]
  exact lookups_one ..

theorem judgeGood_owned {w : Frame} {p : PointId} {v : Word}
    (h : ownedHit s.cfg ((writeLookups w s).1.zip w.payload) = some (p, v)) : judgeGood w s =
      match s.authority w.payload.length (ownerOf s.cfg p) v with
      | .forward => sendField (.supervisory w) w (writeLookups w s).2
      | .refuse reason => refuseAuthority w reason (some (s.writeKey w)) (writeLookups w s).2
      | .adopt => quiesce (adopt w p v (writeLookups w s).2) := by
  rw [judgeGood]
  simp only [h]

/-- The judgement of a WRITE of one word that hits an owned point (R104). -/
theorem judgeWrite_owned {w : Frame} {v : Word} {p : PointId} (hw : w.payload = [v])
    (hhit : (lookup (s.writeKey w) .command kindWrite s).1.result = .hit p)
    (hpar : (lookup (s.writeKey w) .command kindWrite s).1.parityFault = false) (ho : ownerOf s.cfg p ≠ .nobody) :
    judgeWrite w s = match s.authority 1 (ownerOf s.cfg p) v with
      | .forward => sendField (.supervisory w) w (writeLookups w s).2
      | .refuse reason => refuseAuthority w reason (some (s.writeKey w)) (writeLookups w s).2
      | .adopt => quiesce (adopt w p v (writeLookups w s).2) := by
  have hgood : ∀ l ∈ (writeLookups w s).1, l.parityFault = false ∧ l.result ≠ .multiHit := by
    simp [writeLookups_one hw, hhit, hpar]
  have howned : ownedHit s.cfg ((writeLookups w s).1.zip w.payload) = some (p, v) := by
    simp [writeLookups_one hw, hw, ownedHit, hhit, ho]
  have hlen : w.payload.length = 1 := by rw [hw]; rfl
  rw [judgeWrite_good hgood, judgeGood_owned howned, hlen]

theorem authority_one (s : State) (o : Owner) (v : Word) : s.authority 1 o v =
    if s.stc.hold = .held then .forward
    else if s.cau.keyLocal = true then .refuse 7
    else if Stage.alert.code ≤ s.stc.stage.code then .refuse 6
    else if o.accepts v = false then .refuse 4
    else .adopt := by
  rw [State.authority, if_neg (by decide)]
  simp only [Bool.not_eq_true']

/-- The TAKEN frame of an adoption (R106). -/
def takenEntry (w : Frame) (s : State) : UpEntry := { frame := replyFor w kindTaken (word s.cfg.supply.lifetime) }

/-- The entry of an adoption (R106). -/
def newOverride (w : Frame) (p : PointId) (v : Word) (s : State) : Override :=
  { point := p, value := v, expiry := s.now + 60000 * s.cfg.supply.lifetime, tag := w.tag }

theorem logFault_modCau (u : FaultUpdate) (f : Cau → Cau) (s : State) : logFault u (s.modCau f) = (logFault u s).modCau f := by
  unfold logFault
  simp only [State.modCau_pmu]
  split
  · rfl
  · rfl

theorem offerUp_modCau (e : UpEntry) (f : Cau → Cau) (s : State) : offerUp e (s.modCau f) = (offerUp e s).modCau f := by
  unfold offerUp
  by_cases hroom : s.upp.upstream.length < 16
  · rw [if_pos hroom]
    exact if_pos hroom
  · rw [if_neg hroom]
    refine (if_neg hroom).trans ?_
    rw [State.modCau_upp]
    cases dropOldestNotice s.upp.upstream with
    | some q => rfl
    | none =>
      refine Eq.trans ?_ (logFault_modCau ..)
      cases e.restartAnswer with
      | false => rfl
      | true => rfl

theorem adopt_full {w : Frame} {p : PointId} {v : Word} (h : s.override (some p) = none ∧ 16 ≤ s.cau.overrides.length) :
    adopt w p v s = refuseAuthority w 8 (some (s.writeKey w)) s := if_pos (by simpa using h)

/-- The adoption of an override: TAKEN, the entry, and the event for its owner (R106). -/
theorem adopt_adopts {w : Frame} {p : PointId} {v : Word} (h : ¬ (s.override (some p) = none ∧ 16 ≤ s.cau.overrides.length)) :
    adopt w p v s =
      ((offerUp (takenEntry w s) s).modCau fun c =>
        { c with overrides := insertOverride (newOverride w p v s) c.overrides }).tellOwner p
      (ownerOf s.cfg p) (some v) (if (s.override (some p)).isSome then .renewed else .adopted) := by
  rw [← offerUp_modCau]
  exact if_neg (by simpa using h)

theorem override_congr (h : t.cau = s.cau) (o : Option PointId) : t.override o = s.override o := by
  unfold State.override
  rw [h]

/-- What the adoption leaves: the entry in the Override Table, the other entries, the field line, and TAKEN in the Upstream
Queue. -/
theorem quiesce_adopt {w : Frame} {p : PointId} {v : Word} (h : ¬ (s.override (some p) = none ∧ 16 ≤ s.cau.overrides.length)) :
    (quiesce (adopt w p v s)).override (some p) = some (newOverride w p v s) ∧
    (∀ q : PointId, q ≠ p → (quiesce (adopt w p v s)).override (some q) = s.override (some q)) ∧
    (quiesce (adopt w p v s)).flc.transaction = s.flc.transaction ∧
    (offerUp (takenEntry w s) s).upp.upstream <+: (quiesce (adopt w p v s)).upp.upstream := by
  rw [adopt_adopts h]
  set e := newOverride w p v s with he
  set x := ((offerUp (takenEntry w s) s).modCau fun c => { c with overrides := insertOverride e c.overrides }).tellOwner p
      (ownerOf s.cfg p) (some v) (if (s.override (some p)).isSome then .renewed else .adopted) with hx
  have hcau : (quiesce x).cau = { s.cau with overrides := insertOverride e s.cau.overrides } :=
    (congrArg State.cau (quiesce_steady x) :).trans (by rw [hx, ← offerUp_cau s (takenEntry w s)]; rfl)
  have hflc : (quiesce x).flc.transaction = x.flc.transaction :=
      (congrArg (fun y : State => y.flc.transaction) (quiesce_steady x) :)
  have hup : x.upp.upstream <+: (quiesce x).upp.upstream := (quiesce_effects (k := .delivery)).upstream_prefix Scope.noConfusion
  refine ⟨?_, fun q hq => ?_, hflc.trans ?_, hup⟩
  · rw [State.override, hcau]
    exact find?_insertOverride_self e _
  · rw [State.override, hcau]
    exact find?_insertOverride_ne (Ne.symm hq) _
  · exact congrArg Flc.transaction (offerUp_flc s (takenEntry w s))

/-- The judgement of a WRITE of one value to an owned point, by the reasons of R104 and R106. -/
theorem judgeWrite_authority {w : Frame} {v : Word} {p : PointId} (hs : s.AtRest) (hw : w.payload = [v])
    (hhit : (lookup (s.writeKey w) .command kindWrite s).1.result = .hit p)
    (hpar : (lookup (s.writeKey w) .command kindWrite s).1.parityFault = false) (ho : ownerOf s.cfg p ≠ .nobody) :
    judgeWrite w s =
      if s.stc.hold = .held then sendField (.supervisory w) w (writeLookups w s).2
      else if s.cau.keyLocal = true then refuseAuthority w 7 (some (s.writeKey w)) (writeLookups w s).2
      else if Stage.alert.code ≤ s.stc.stage.code then refuseAuthority w 6 (some (s.writeKey w)) (writeLookups w s).2
      else if (ownerOf s.cfg p).accepts v = false then refuseAuthority w 4 (some (s.writeKey w)) (writeLookups w s).2
      else if s.override (some p) = none ∧ 16 ≤ s.cau.overrides.length then
        refuseAuthority w 8 (some (s.writeKey w)) (writeLookups w s).2
      else quiesce (adopt w p v (writeLookups w s).2) := by
  have hlook := writeLookups_traces w s
  have hrest : (refuseAuthority w 8 (some (s.writeKey w)) (writeLookups w s).2).AtRest :=
    refuseAuthority_atRest (hlook.atRest hs) ..
  have hcau : (writeLookups w s).2.cau = s.cau := hlook.field State.cau fun _ _ _ => rfl
  have hkey : (writeLookups w s).2.writeKey = s.writeKey := hlook.field State.writeKey fun _ _ _ => rfl
  rw [judgeWrite_owned hw hhit hpar ho, authority_one]
  simp only [apply_ite (f := fun a : Authority => match a with
    | .forward => sendField (.supervisory w) w (writeLookups w s).2
    | .refuse reason => refuseAuthority w reason (some (s.writeKey w)) (writeLookups w s).2
    | .adopt => quiesce (adopt w p v (writeLookups w s).2))]
  split
  · rfl
  split
  · rfl
  split
  · rfl
  split
  · rfl
  split
  · next h =>
    rw [← hcau, ← override_congr hcau] at h
    rw [adopt_full h, hkey]
    exact quiesce_of_rest hrest
  · rfl

/-! ## A WRITE that reaches no OWNED COMMAND POINT -/

theorem judgeGood_free {w : Frame} (h : ownedHit s.cfg ((writeLookups w s).1.zip w.payload) = none) : judgeGood w s =
    match (writeLookups w s).1.find? (fun l => l.result == .miss) with
    | some l =>
      if s.cfg.line.refuseUnmapped = true then
        logFault { cls := .map, detail := 9, key := some l.key, kind := 2 } (refuse w 9 (writeLookups w s).2)
      else sendField (.supervisory w) w (writeLookups w s).2
    | none => sendField (.supervisory w) w (writeLookups w s).2 := by
  rw [judgeGood]
  simp only [h]

theorem ownedHit_zip_none {w : Frame} (h : ∀ l ∈ (writeLookups w s).1, ∀ p, l.result = .hit p → ownerOf s.cfg p = .nobody) :
    ownedHit s.cfg ((writeLookups w s).1.zip w.payload) = none :=
  ownedHit_none_of fun _ hx => h _ (List.of_mem_zip hx).1

theorem judgeGood_forwards {w : Frame} (h : ownedHit s.cfg ((writeLookups w s).1.zip w.payload) = none)
    (hmiss : (∀ l ∈ (writeLookups w s).1, l.result ≠ .miss) ∨ s.cfg.line.refuseUnmapped = false) :
    judgeGood w s = sendField (.supervisory w) w (writeLookups w s).2 := by
  rw [judgeGood_free h]
  split
  · next l hl =>
    have hfound : l.result = .miss := by simpa using List.find?_some hl
    exact if_neg (by simp [hmiss.resolve_left fun hall => hall l (List.mem_of_find?_eq_some hl) hfound])
  · rfl

/-! ## The taking by the Field Arbiter -/

theorem takeSupervisory_broadcast {w : Frame} (hk : w.kind = 2) (hd : w.dst = 0) (s : State) : takeSupervisory w s =
    if s.stc.hold = .held then sendField (.supervisory w) w s else refuseAuthority w 6 none s := by
  have hread : ¬ w.kind = kindRead := by
    rw [hk]
    decide
  rw [takeSupervisory, if_neg hread, if_pos hd]

theorem takeSupervisory_unicast {w : Frame} (hk : w.kind = 2) (hd : w.dst ≠ 0) (s : State) :
    takeSupervisory w s = judgeWrite w s := by
  have hread : ¬ w.kind = kindRead := by
    rw [hk]
    decide
  rw [takeSupervisory, if_neg hread, if_neg hd]

/-- Nothing more is granted after the judgement of the last frame, with no command and no scan entry waiting. -/
theorem grantLine_judgeWrite {w : Frame} (hd : s.upp.downstream = []) (hp : s.flc.scanPending = [])
    (hq : (judgeWrite w s).flc.commandQueue = []) : grantLine (judgeWrite w s) = none := by
  obtain h | ⟨h, -⟩ := judgeWrite_cases w s
  · exact grantLine_none (.inr (.inl (by rw [h]; rfl)))
  · exact grantLine_none (.inr (.inr ⟨hq, h.downstream.trans hd, h.scanPending.trans hp⟩))

theorem grantLine_refuseAuthority (hq : s.flc.commandQueue = []) (hd : s.upp.downstream = []) (hp : s.flc.scanPending = [])
    (w : Frame) (reason : Nat) (key : Option Key) : grantLine (refuseAuthority w reason key s) = none := by
  have hwork := refuseAuthority_effects (s := s) w reason key
  refine grantLine_none (.inr (.inr ⟨?_, hwork.downstream.trans hd, hwork.scanPending.trans hp⟩))
  rw [refuseAuthority, logFault_flc, refuse_flc, hq]

theorem judgeWrite_atRest (w : Frame) (hs : s.AtRest) : (judgeWrite w s).AtRest := by
  obtain h | ⟨-, h⟩ := judgeWrite_cases w s
  · rw [h]
    exact (writeLookups_traces w s).atRest hs
  · exact h hs

/-- Settles O14: the judgement of a WRITE to an owned point and otherwise, the values accepted, and the taking of a WRITE. -/
theorem supervisoryWriteAuthority : Obligations.SupervisoryWriteAuthority := by
  refine ⟨fun w s hlen => ?_, fun w v p s hs hw => ?_, fun v i b z => ?_, fun w s => ⟨judgeWrite_bad, fun hgood hfree => ⟨?_, ?_⟩⟩,
    fun w s hs hl htx hq hp hd hk => ⟨fun hdst => ?_, fun hdst hempty => ?_⟩⟩
  · intro k r hgood ⟨l, hl, p, hp, ho⟩
    obtain ⟨x, hx, rfl⟩ := exists_mem_zip (lookups_length _ _ _ _ _ _ s) hl
    obtain ⟨⟨q, v⟩, hqv⟩ := Option.ne_none_iff_exists'.mp (ownedHit_ne_none hx hp ho)
    have hauth : s.authority w.payload.length (ownerOf s.cfg q) v = .refuse 11 := if_pos hlen
    refine (judgeWrite_good hgood).trans ((judgeGood_owned hqv).trans ?_)
    rw [hauth]
    rfl
  · intro k r sent hhit hpar ho refused
    have hjudge := judgeWrite_authority hs hw hhit hpar ho
    have hr : (writeLookups w s).2 = r.2 := congrArg Prod.snd (writeLookups_one hw)
    have hlook := writeLookups_traces w s
    rw [hr] at hjudge hlook
    split
    · next h => exact (hjudge.trans (if_pos h)).trans (sendField_supervisory hlook.cfg)
    next h =>
    rw [if_neg h] at hjudge
    split
    · next h => exact hjudge.trans (if_pos h)
    next h =>
    rw [if_neg h] at hjudge
    split
    · next h => exact hjudge.trans (if_pos h)
    next h =>
    rw [if_neg h] at hjudge
    split
    · next h => exact hjudge.trans (if_pos h)
    next h =>
    rw [if_neg h] at hjudge
    split
    · next h => exact hjudge.trans (if_pos h)
    next h =>
    rw [if_neg h] at hjudge
    have hcau : r.2.cau = s.cau := hlook.field State.cau fun _ _ _ => rfl
    have hnow : r.2.now = s.now := hlook.field State.now fun _ _ _ => rfl
    rw [← override_congr hcau, ← hcau] at h
    obtain ⟨hself, hothers, hflc, hup⟩ := quiesce_adopt (w := w) (v := v) h
    rw [← hjudge] at hself hothers hflc hup
    simp only [override_congr hcau, hlook.flc] at hothers hflc
    simp only [takenEntry, newOverride, hlook.cfg, hnow] at hself hup
    exact ⟨hself, hothers, hflc, hup⟩
  · simp [Owner.accepts]
  · exact fun hmiss => (judgeWrite_good hgood).trans ((judgeGood_forwards (ownedHit_zip_none hfree) hmiss).trans
      (sendField_supervisory (writeLookups_traces w s).cfg))
  · intro l hl hpolicy
    refine (judgeWrite_good hgood).trans ((judgeGood_free (ownedHit_zip_none hfree)).trans ?_)
    have hmiss : (writeLookups w s).1.find? (fun x => x.result == .miss) = some l := hl
    rw [hmiss]
    exact if_pos hpolicy
  · have hgrant := (grantLine_downstream hl htx hq hd (.inl hp)).trans (congrArg some (takeSupervisory_broadcast hk hdst _))
    split
    · next hheld => exact exec_grant_sends (hgrant.trans (congrArg some (if_pos hheld))) rfl hs
    · next hheld =>
      refine exec_grant_once (hgrant.trans (congrArg some (if_neg hheld))) (grantLine_refuseAuthority ?_ rfl ?_ w 6 none)
        (refuseAuthority_atRest ?_ w 6 none)
      · exact hq
      · exact hp
      · exact hs
  · have hgrant := (grantLine_downstream hl htx hq hd (.inl hp)).trans (congrArg some (takeSupervisory_unicast hk hdst _))
    exact exec_grant_once hgrant (grantLine_judgeWrite rfl hp hempty) (judgeWrite_atRest w hs)

end Sys2Proof.Machine
end

section
/-! PROOFS. The entry into QUENCHED (R21, R128, R144, R164, R174). -/

set_option Elab.async false

namespace Sys2Proof.Machine

variable {k : Scope} {s t u : State}

/-! ## Frames offered in a row -/

/-- A queue that holds notices loses the oldest, and no other frame (R8). -/
theorem dropOldestNotice_frames {l : List UpEntry} (h : (l.filter fun e => !e.frame.isNotice).length < l.length) :
    ∃ q, dropOldestNotice l = some q ∧ (q.filter fun e => !e.frame.isNotice) = l.filter fun e => !e.frame.isNotice := by
  induction l with
  | nil => simp at h
  | cons e l ih =>
    unfold dropOldestNotice
    by_cases he : e.frame.isNotice = true
    · exact ⟨l, if_pos he, by simp [he]⟩
    · obtain ⟨q, hq, hf⟩ := ih (by simpa [he] using h)
      refine ⟨e :: q, ?_, by simp [he, hf]⟩
      rw [if_neg he, hq]

/-- A frame that is no notice joins the frames while they are fewer than 16. -/
theorem offerUp_frames {e : UpEntry} (he : e.frame.isNotice = false) (h : s.frames.length < 16) :
    (offerUp e s).frames = s.frames ++ [e] := by
  unfold offerUp
  split
  · simp [State.frames, he]
  · rename_i hfull
    obtain ⟨q, hq, hf⟩ := dropOldestNotice_frames (l := s.upp.upstream) (by simp only [State.frames] at h; omega)
    rw [hq]
    simp [State.frames, he, hf]

/-- Offers entries in a row. -/
def offerAll (l : List UpEntry) (s : State) : State := l.foldl (fun s e => offerUp e s) s

theorem offerAll_frames {l : List UpEntry} (hl : ∀ e ∈ l, e.frame.isNotice = false) (h : s.frames.length + l.length ≤ 16) :
    (offerAll l s).frames = s.frames ++ l := by
  induction l generalizing s with
  | nil => simp [offerAll]
  | cons e l ih =>
    rw [List.length_cons] at h
    have hoffer := offerUp_frames (hl e List.mem_cons_self) (s := s) (by omega)
    have hrest := ih (s := offerUp e s) (fun x hx => hl x (List.mem_cons_of_mem _ hx)) (by
      rw [hoffer, List.length_append, List.length_singleton]
      omega)
    rw [offerAll, List.foldl_cons, ← offerAll, hrest, hoffer, List.append_assoc, List.singleton_append]

theorem offerAll_flc (l : List UpEntry) (s : State) : (offerAll l s).flc = s.flc :=
    foldl_field State.flc (fun _ _ => offerUp_flc ..) l s
theorem offerAll_pim (l : List UpEntry) (s : State) : (offerAll l s).pim = s.pim :=
    foldl_field State.pim (fun _ _ => offerUp_pim ..) l s
theorem offerAll_status (l : List UpEntry) (s : State) (d : Device) : (offerAll l s).status d = s.status d :=
  foldl_field (State.status · d) (fun s e => status_congr (offerUp_psc s e) (offerUp_gsq s e) (offerUp_ltu s e) d) l s
theorem offerAll_atRest (l : List UpEntry) (hs : s.AtRest) : (offerAll l s).AtRest :=
  foldl_atRest (fun _ e hs => offerUp_atRest hs e) l hs

/-- The REFUSE of a supervisory frame (R3). -/
def refusal (reason : Word) (w : Frame) : UpEntry :=
  { frame := { kind := 4, tag := w.tag, reserved := 0, dst := 62, src := w.dst, channel := w.channel, payload := [reason] }
    restartAnswer := false }

/-- The ANSWER DONE of a QUENCH (R21). -/
def quenchDone (tag : Tag) : UpEntry :=
  { frame := { kind := 7, tag := tag, reserved := 0, dst := 62, src := 63, channel := 0, payload := [52, 0] }
    restartAnswer := false }

theorem refusal_not_notice (reason : Word) (w : Frame) : (refusal reason w).frame.isNotice = false := rfl
theorem quenchDone_not_notice (tag : Tag) : (quenchDone tag).frame.isNotice = false := rfl

/-! ## The line stops -/

/-- The Field Line Controller with its work dropped (R21). -/
def Flc.stopped (f : Flc) : Flc := { f with line := .quenched, scanPending := [], quenchWaiting := [] }

theorem stopLine_eq (s : State) : stopLine s = offerAll (s.upp.downstream.map (refusal 5))
    ((s.modFlc Flc.stopped).modUpp fun u => { u with downstream := [] }) := by
  have h : (fun (s : State) w => refuse w 5 s) = fun s w => offerUp (refusal 5 w) s :=
    funext fun s => funext fun w => refuse_eq_offerUp w (by decide) s
  rw [stopLine, h, offerAll, List.foldl_map]
  rfl

theorem enterQuenched_offers (s : State) :
    enterQuenched s = offerAll (s.flc.quenchWaiting.map quenchDone) (quenchJobs (purgeWork s)) := by
  have h : (fun (s : State) tag => answer tag 52 stDone [] s) = fun s tag => offerUp (quenchDone tag) s :=
    funext fun s => funext fun tag => answer_eq_offerUp tag (by decide) _ _ s
  rw [enterQuenched_eq, h, offerAll, List.foldl_map]

theorem stopLine_flc (s : State) : (stopLine s).flc = s.flc.stopped := by
  rw [stopLine_eq, offerAll_flc]
  rfl

/-- The points of dropped commands become IDLE (R21). -/
def purgePoints (l : List CommandEntry) (s : State) : State := l.foldl (fun s e => setCommandState e.point .idle s) s

theorem purgeWork_eq (s : State) : purgeWork s =
    lauQuench (purgePoints (stopLine s).flc.commandQueue ((stopLine s).modFlc fun f => { f with commandQueue := [] })) := rfl

theorem purgePoints_flc (l : List CommandEntry) (s : State) : (purgePoints l s).flc = s.flc :=
  foldl_field State.flc (g := fun s (e : CommandEntry) => setCommandState e.point .idle s) (fun _ _ => rfl) l s
theorem purgePoints_upp (l : List CommandEntry) (s : State) : (purgePoints l s).upp = s.upp :=
  foldl_field State.upp (g := fun s (e : CommandEntry) => setCommandState e.point .idle s) (fun _ _ => rfl) l s
theorem purgePoints_status (l : List CommandEntry) (s : State) (d : Device) : (purgePoints l s).status d = s.status d :=
  foldl_field (State.status · d) (g := fun s (e : CommandEntry) => setCommandState e.point .idle s)
    (fun _ _ => status_congr rfl rfl rfl d) l s

/-- The command states after a purge: IDLE for a purged point (R21). -/
theorem purgePoints_command (l : List CommandEntry) (s : State) (p : PointId) : ((purgePoints l s).point p).command =
    if l.any (fun e => e.point == p) then .idle else (s.point p).command := by
  induction l generalizing s with
  | nil => rfl
  | cons e l ih =>
    rw [purgePoints, List.foldl_cons, ← purgePoints, ih, setCommandState, point_modPoint, List.any_cons]
    by_cases hp : p = e.point
    · simp [hp]
    · simp [hp, Ne.symm hp]

theorem purgeWork_flc (s : State) : (purgeWork s).flc = { s.flc.stopped with commandQueue := [] } := by
  rw [purgeWork_eq]
  refine (purgePoints_flc ..).trans ?_
  rw [State.modFlc_flc, stopLine_flc]

theorem purgeWork_status (s : State) (d : Device) : (purgeWork s).status d = s.status d := by
  have hstop : (stopLine s).status d = s.status d := by
    rw [stopLine_eq, offerAll_status]
    exact status_congr rfl rfl rfl d
  have hfree : ((stopLine s).modFlc fun f => { f with commandQueue := [] }).status d = (stopLine s).status d :=
    status_congr rfl rfl rfl d
  rw [purgeWork_eq]
  exact (status_congr rfl rfl rfl d).trans ((purgePoints_status _ _ d).trans (hfree.trans hstop))

theorem purgeWork_frames (s : State) : (purgeWork s).frames = (stopLine s).frames := by
  have hupp : (purgeWork s).upp = (stopLine s).upp := purgePoints_upp ..
  rw [State.frames, hupp]
  rfl

theorem purgeWork_command {p : PointId} (h : s.queued p = true) : ((purgeWork s).point p).command = .idle := by
  have hqueue : (stopLine s).flc.commandQueue.any (fun e => e.point == p) = true := by
    rw [stopLine_flc]
    exact h
  exact (purgePoints_command ..).trans (if_pos hqueue)

/-! ## The devices -/

/-- The condition that an entry into QUENCHED leaves. -/
def Condition.quenched : Condition → Condition
  | .disabled => .disabled
  | _ => .unknown

theorem Condition.quenched_quenched (c : Condition) : c.quenched.quenched = c.quenched := by
  cases c with
  | disabled => rfl
  | _ => rfl

theorem Condition.quenched_of_disabled {c : Condition} (h : c = .disabled) : c.quenched = c := by rw [h]; rfl

theorem Condition.quenched_of_enabled {c : Condition} (h : c ≠ .disabled) : c.quenched = .unknown := by
  cases c with
  | disabled => exact absurd rfl h
  | _ => rfl

/-- A change that takes one device to the condition of a QUENCHED line, and leaves the condition of every other. -/
structure QuenchesDevice (d : Device) (s t : State) : Prop where
  self : (t.status d).condition = (s.status d).condition.quenched
  other : ∀ o, o ≠ d → (t.status o).condition = (s.status o).condition

theorem QuenchesDevice.refl_of_disabled {d : Device} (h : (s.status d).condition = .disabled) : QuenchesDevice d s s :=
  ⟨(Condition.quenched_of_disabled h).symm, fun _ _ => rfl⟩

theorem foldl_quenches {α : Type} {f : State → α → State} {dev : α → Device} (h : ∀ s a, QuenchesDevice (dev a) s (f s a))
    (l : List α) (s : State) (d : Device) : ((l.foldl f s).status d).condition =
      if d ∈ l.map dev then (s.status d).condition.quenched else (s.status d).condition := by
  induction l generalizing s with
  | nil => rfl
  | cons a l ih =>
    rw [List.foldl_cons, ih, List.map_cons]
    by_cases hd : d = dev a
    · subst hd
      rw [(h s a).self, Condition.quenched_quenched, ite_self, if_pos List.mem_cons_self]
    · rw [(h s a).other d hd]
      simp only [List.mem_cons, hd, false_or]

@[simp] theorem pscReadiness_gsq (s : State) : (pscReadiness s).gsq = s.gsq := by
  unfold pscReadiness
  split <;> rfl
@[simp] theorem pscReadiness_ltu (s : State) : (pscReadiness s).ltu = s.ltu := by
  unfold pscReadiness
  split <;> rfl
@[simp] theorem pscReadiness_pim (s : State) : (pscReadiness s).pim = s.pim := by
  unfold pscReadiness
  split <;> rfl
@[simp] theorem gsqReadiness_psc (s : State) : (gsqReadiness s).psc = s.psc := by
  unfold gsqReadiness
  split <;> rfl
@[simp] theorem gsqReadiness_ltu (s : State) : (gsqReadiness s).ltu = s.ltu := by
  unfold gsqReadiness
  split <;> rfl
@[simp] theorem gsqReadiness_pim (s : State) : (gsqReadiness s).pim = s.pim := by
  unfold gsqReadiness
  split <;> rfl
@[simp] theorem summaryReport_psc (s : State) : (summaryReport s).psc = s.psc := by
  unfold summaryReport
  simp only
  split <;> split <;> rfl
@[simp] theorem summaryReport_ltu (s : State) : (summaryReport s).ltu = s.ltu := by
  unfold summaryReport
  simp only
  split <;> split <;> rfl
@[simp] theorem summaryReport_pim (s : State) : (summaryReport s).pim = s.pim := by
  unfold summaryReport
  simp only
  split <;> split <;> rfl
@[simp] theorem summaryReport_gate (s : State) : (summaryReport s).gsq.gate = s.gsq.gate := by
  unfold summaryReport
  simp only
  split <;> split <;> rfl
@[simp] theorem aspectJudge_psc (a : Bool) (b : BarrierId) (s : State) : (aspectJudge a b s).psc = s.psc := by
  unfold aspectJudge
  simp only
  repeat' split
  all_goals simp [State.modBarrier]
@[simp] theorem aspectJudge_ltu (a : Bool) (b : BarrierId) (s : State) : (aspectJudge a b s).ltu = s.ltu := by
  unfold aspectJudge
  simp only
  repeat' split
  all_goals simp [State.modBarrier]
@[simp] theorem aspectJudge_gate (a : Bool) (b : BarrierId) (s : State) : (aspectJudge a b s).gsq.gate = s.gsq.gate := by
  unfold aspectJudge
  simp only
  repeat' split
  all_goals simp [State.modBarrier]

/-- A QUENCHED line takes no aspect command (R157). -/
theorem aspectJudge_pim (hl : s.flc.line = .quenched) (a : Bool) (b : BarrierId) : (aspectJudge a b s).pim = s.pim := by
  unfold aspectJudge
  simp only [hl, beq_self_eq_true, Bool.not_true, Bool.and_false, Bool.false_eq_true, if_false]
  split
  · rfl
  · rfl

theorem pumpQuench_quenches (s : State) (p : PumpId) : QuenchesDevice (.pump p) s (pumpQuench p s) := by
  unfold pumpQuench
  split
  · next h => exact .refl_of_disabled (PumpMode.condition_eq_disabled.mpr h)
  · next h =>
    have henabled : (s.status (.pump p)).condition ≠ .disabled := fun hc => h (PumpMode.condition_eq_disabled.mp hc)
    refine ⟨?_, fun o ho => congrArg Status.condition ?_⟩
    · rw [Condition.quenched_of_enabled henabled, State.status, pumpGo_pump_self]
      rfl
    · cases o with
      | pump q =>
        have hq : q ≠ p := fun hq => ho (congrArg Device.pump hq)
        rw [State.status, pumpGo, State.pump_congr (pscReadiness_psc _)]
        exact congrArg PumpState.status ((State.pump_modPump_ne hq _ _).trans (State.pump_modPump_ne hq _ _))
      | barrier b => exact congrArg BarrierState.status (State.barrier_congr (pscReadiness_gsq _) b)
      | gate => exact congrArg (fun g : Gsq => g.gate.status) (pscReadiness_gsq _)
      | zone z => exact congrArg ZoneState.status (State.zone_congr (pscReadiness_ltu _) z)

theorem barrierQuench_quenches (s : State) (b : BarrierId) : QuenchesDevice (.barrier b) s (barrierQuench b s) := by
  unfold barrierQuench
  split
  · next h => exact .refl_of_disabled (BarrierMode.condition_eq_disabled.mpr h)
  · next h =>
    have henabled : (s.status (.barrier b)).condition ≠ .disabled := fun hc => h (BarrierMode.condition_eq_disabled.mp hc)
    refine ⟨?_, fun o ho => congrArg Status.condition ?_⟩
    · obtain ⟨x, y, hself⟩ := barrierGo_barrier_self b .unknown (s.modBarrier b fun t =>
        { t with warnTimer := .stopped, clearTimer := .stopped, travelTimer := .stopped, postDeferred := false, reversals := 0 })
      rw [Condition.quenched_of_enabled henabled, State.status, hself]
      rfl
    · cases o with
      | pump p =>
        refine congrArg PumpState.status (State.pump_congr ?_ p)
        rw [barrierGo, gsqReadiness_psc, summaryReport_psc, aspectJudge_psc]
        rfl
      | barrier c =>
        have hc : c ≠ b := fun hc => ho (congrArg Device.barrier hc)
        exact congrArg BarrierState.status ((barrierGo_barrier_ne hc _ _).trans (State.barrier_modBarrier_ne hc _ _))
      | gate =>
        rw [State.status, barrierGo, gsqReadiness_gsq, summaryReport_gate, aspectJudge_gate]
        rfl
      | zone z =>
        refine congrArg ZoneState.status (State.zone_congr ?_ z)
        rw [barrierGo, gsqReadiness_ltu, summaryReport_ltu, aspectJudge_ltu]
        rfl

theorem gateQuench_quenches (s : State) : QuenchesDevice .gate s (gateQuench s) := by
  unfold gateQuench
  split
  · next h => exact .refl_of_disabled (GateMode.condition_eq_disabled.mpr h)
  · next h =>
    have henabled : (s.status .gate).condition ≠ .disabled := fun hc => h (GateMode.condition_eq_disabled.mp hc)
    refine ⟨?_, fun o ho => congrArg Status.condition ?_⟩
    · rw [Condition.quenched_of_enabled henabled, State.status, gateGo_gate]
      rfl
    · cases o with
      | pump p =>
        refine congrArg PumpState.status (State.pump_congr ?_ p)
        rw [gateGo, gsqReadiness_psc, apply_ite State.psc, gateLeftClosed, foldl_field State.psc fun _ _ => by split <;> rfl,
            ite_self]
        rfl
      | barrier b =>
        refine congrArg BarrierState.status ?_
        rw [gateGo, gsqReadiness_barrier, apply_ite (State.barrier · b), State.barrier_congr (gateLeftClosed_gsq _), ite_self]
        rfl
      | gate => exact absurd rfl ho
      | zone z =>
        refine congrArg ZoneState.status (State.zone_congr ?_ z)
        rw [gateGo, gsqReadiness_ltu, apply_ite State.ltu, gateLeftClosed, foldl_field State.ltu fun _ _ => by split <;> rfl,
            ite_self]
        rfl

theorem zoneReport_ltu (z : ZoneId) (s : State) : (zoneReport z s).ltu = s.ltu := rfl

theorem zoneQuench_quenches (s : State) (z : ZoneId) : QuenchesDevice (.zone z) s (zoneQuench z s) := by
  unfold zoneQuench
  split
  · next h => exact .refl_of_disabled (ZoneMode.condition_eq_disabled.mpr h)
  · next h =>
    have henabled : (s.status (.zone z)).condition ≠ .disabled := fun hc => h (ZoneMode.condition_eq_disabled.mp hc)
    refine ⟨?_, fun o ho => congrArg Status.condition ?_⟩
    · rw [Condition.quenched_of_enabled henabled]
      rw [State.status, State.zone_congr (zoneReport_ltu z _), State.zone_modZone_self]
      rfl
    · cases o with
      | pump p => rfl
      | barrier b => rfl
      | gate => rfl
      | zone y =>
        have hy : y ≠ z := fun hy => ho (congrArg Device.zone hy)
        exact congrArg ZoneState.status ((State.zone_congr (zoneReport_ltu z _) y).trans (State.zone_modZone_ne hy _ _))

theorem mem_pumpIds : ∀ p : PumpId, p ∈ pumpIds := by decide
theorem mem_fourIds : ∀ i : Fin 4, i ∈ fourIds := by decide
theorem mem_zoneIds : ∀ z : ZoneId, z ∈ zoneIds := by decide

/-- The JOBS take every device to the condition of a QUENCHED line (R144, R164, R174). -/
theorem jobs_quench (s : State) (d : Device) :
    ((ltuQuench (gsqQuench (pscQuench s))).status d).condition = (s.status d).condition.quenched := by
  have hltu := foldl_quenches zoneQuench_quenches zoneIds (gsqQuench (pscQuench s)) d
  have hgate := gateQuench_quenches (fourIds.foldl (fun s b => barrierQuench b s) (pscQuench s))
  have hbar := foldl_quenches barrierQuench_quenches fourIds (pscQuench s) d
  have hpsc := foldl_quenches pumpQuench_quenches pumpIds s d
  refine hltu.trans ?_
  cases d with
  | pump p =>
    rw [if_neg (by simp), gsqQuench, hgate.other (.pump p) nofun, hbar, if_neg (by simp), pscQuench, hpsc,
      if_pos (List.mem_map_of_mem (mem_pumpIds p))]
  | barrier b =>
    rw [if_neg (by simp), gsqQuench, hgate.other (.barrier b) nofun, hbar, if_pos (List.mem_map_of_mem (mem_fourIds b)),
        pscQuench, hpsc,
      if_neg (by simp)]
  | gate => rw [if_neg (by simp), gsqQuench, hgate.self, hbar, if_neg (by simp), pscQuench, hpsc, if_neg (by simp)]
  | zone z =>
    rw [if_pos (List.mem_map_of_mem (mem_zoneIds z)), gsqQuench, hgate.other (.zone z) nofun, hbar, if_neg (by simp),
        pscQuench, hpsc,
      if_neg (by simp)]

/-- A delivery of events leaves a quenched condition as it is. -/
theorem Status.Keeps.quenched {a b : Status} (h : a.Keeps .delivery b) {c : Condition} (ha : a.condition = c.quenched) :
    b.condition = c.quenched := by
  cases c with
  | disabled => exact h.disabled.mpr ha
  | _ => exact h.unknown rfl ha

theorem quenchJobs_status (s : State) (d : Device) :
    ((quenchJobs s).status d).condition = (s.status d).condition.quenched :=
  ((quiesce_effects (k := .delivery)).status d rfl).quenched (jobs_quench s d)

/-! ## The points -/

/-- The line is QUENCHED, and the points are those of a state. -/
def State.Still (s u : State) : Prop := u.flc.line = .quenched ∧ u.pim = s.pim

theorem foldl_keeps {α : Type} {P : State → Prop} {f : State → α → State} (hf : ∀ s a, P s → P (f s a)) (l : List α) (hs : P s) :
    P (l.foldl f s) := by
  induction l generalizing s with
  | nil => exact hs
  | cons a l ih => exact ih (hf s a hs)

theorem pumpQuench_still (p : PumpId) (h : s.Still u) : s.Still (pumpQuench p u) := by
  refine ⟨((pumpQuench_effects (k := .setting) rfl p).line).trans h.1, ?_⟩
  unfold pumpQuench
  split
  · exact h.2
  · exact (pscReadiness_pim _).trans h.2

theorem barrierQuench_still (b : BarrierId) (h : s.Still u) : s.Still (barrierQuench b u) := by
  refine ⟨((barrierQuench_effects (k := .setting) rfl b).line).trans h.1, ?_⟩
  unfold barrierQuench
  split
  · exact h.2
  · rw [barrierGo, gsqReadiness_pim, summaryReport_pim]
    exact (aspectJudge_pim (by exact h.1) _ _).trans h.2

theorem gateQuench_still (h : s.Still u) : s.Still (gateQuench u) := by
  refine ⟨((gateQuench_effects (k := .setting) rfl).line).trans h.1, ?_⟩
  unfold gateQuench
  split
  · exact h.2
  · rw [gateGo, gsqReadiness_pim, apply_ite State.pim, gateLeftClosed, foldl_field State.pim fun _ _ => by split <;> rfl, ite_self]
    exact h.2

theorem zoneQuench_still (z : ZoneId) (h : s.Still u) : s.Still (zoneQuench z u) := by
  unfold zoneQuench
  split
  · exact h
  · exact h

/-- A delivery of events on a QUENCHED line leaves the points: a request is not taken (R17). -/
theorem Effect.still (g : Effect .delivery t u) (h : s.Still t) : s.Still u := by
  refine ⟨g.line.trans h.1, Eq.trans ?_ h.2⟩
  cases g with
  | request p v => rw [requestCommand, if_pos h.1]
  | failed p hf => cases hf
  | pim f hf => cases hf
  | offer e hf | cfg f hf | mgu f hf | clock n m hf | purge p hf => cases hf
  | _ => rfl

theorem quenchJobs_pim (hl : s.flc.line = .quenched) : (quenchJobs s).pim = s.pim := by
  have hpsc : s.Still (pscQuench s) := foldl_keeps (P := s.Still) (fun _ p => pumpQuench_still p) pumpIds ⟨hl, rfl⟩
  have hgsq : s.Still (gsqQuench (pscQuench s)) :=
    gateQuench_still (foldl_keeps (P := s.Still) (fun _ b => barrierQuench_still b) fourIds hpsc)
  have hltu : s.Still (ltuQuench (gsqQuench (pscQuench s))) :=
      foldl_keeps (P := s.Still) (fun _ z => zoneQuench_still z) zoneIds hgsq
  exact ((quiesce_effects (k := .delivery)).keeps Effect.still hltu).2

/-! ## The entry -/

/-- What an entry into QUENCHED leaves of a state with no transaction (R21, R128, R144, R164, R174). -/
structure EntersQuenched (s t : State) : Prop where
  line : t.flc.line = .quenched
  waiting : t.flc.quenchWaiting = []
  idle : t.QuenchedIdle
  condition : ∀ d, (t.status d).condition = (s.status d).condition.quenched
  command : ∀ p, s.queued p = true → (t.point p).command = .idle
  frames : s.frames.length + s.upp.downstream.length + s.flc.quenchWaiting.length ≤ 16 →
    t.frames = s.frames ++ s.upp.downstream.map (refusal 5) ++ s.flc.quenchWaiting.map quenchDone

theorem enterQuenched_enters (h : s.flc.transaction = none) : EntersQuenched s (enterQuenched s) := by
  have hjobs := quenchJobs_effects (k := .setting) (s := purgeWork s) rfl
  have hflc : (enterQuenched s).flc = (quenchJobs (purgeWork s)).flc := by rw [enterQuenched_offers, offerAll_flc]
  refine ⟨?_, ?_, ?_, fun d => ?_, fun p hp => ?_, fun hroom => ?_⟩
  · rw [hflc, hjobs.line, purgeWork_flc]
    rfl
  · rw [hflc, hjobs.quenchWaiting, purgeWork_flc]
    rfl
  · rw [enterQuenched_eq]
    exact (foldl_effects (k := .operation) _ _ (fun _ g => answer_effects g 52 stDone []) _).quenchedIdle
      (hjobs.quenchedIdle (purgeWork_idle h))
  · rw [enterQuenched_offers, offerAll_status, quenchJobs_status, purgeWork_status]
  · have hline : (purgeWork s).flc.line = .quenched := by rw [purgeWork_flc]; rfl
    rw [enterQuenched_offers, State.point, offerAll_pim, quenchJobs_pim hline]
    exact purgeWork_command hp
  · have hstop : (stopLine s).frames = s.frames ++ s.upp.downstream.map (refusal 5) := by
      rw [stopLine_eq]
      refine offerAll_frames ?_ ?_
      · simp [refusal_not_notice]
      · rw [List.length_map]
        exact (Nat.le_add_right _ _).trans hroom
    have hbefore : (quenchJobs (purgeWork s)).frames = s.frames ++ s.upp.downstream.map (refusal 5) := by
      rw [hjobs.frames Scope.noConfusion, purgeWork_frames, hstop]
    rw [enterQuenched_offers, offerAll_frames, hbefore]
    · simp [quenchDone_not_notice]
    · rw [hbefore, List.length_append, List.length_map, List.length_map]
      exact hroom

theorem enterQuenched_atRest (s : State) : (enterQuenched s).AtRest := by
  rw [enterQuenched_offers]
  exact offerAll_atRest _ (quiesce_atRest _)

end Sys2Proof.Machine
end

section
/-! PROOFS. QUENCH and UNQUENCH by line state (R21, R22), and the end of a transaction in QUENCH_PENDING (R15, R16). -/

set_option Elab.async false

namespace Sys2Proof.Machine

variable {k : Scope} {s t u : State}

/-! ## The end of a transaction before an entry into QUENCHED -/

theorem queued_putCommand {p q : PointId} {v : Word} {l : List CommandEntry} (h : l.any (fun e => e.point == q) = true) :
    (putCommand p v l).any (fun e => e.point == q) = true := by
  unfold putCommand
  split
  · rw [List.any_map]
    refine (List.any_eq_true.mp h).elim fun e he => List.any_eq_true.mpr ⟨e, he.1, ?_⟩
    simp only [Function.comp_apply]
    split
    · exact he.2
    · exact he.2
  · rw [List.any_append, h, Bool.true_or]

/-- Below the operations a command that waits goes on waiting. -/
theorem Effect.queued (hk : k ≠ .operation) (g : Effect k s t) {p : PointId} (h : s.queued p = true) : t.queued p = true := by
  cases g with
  | request q v =>
    rw [State.queued, requestCommand_queue]
    split
    · exact h
    · exact queued_putCommand h
  | offer e hf | purge q hf => exact absurd hf hk
  | _ => exact h

/-- What the work before an entry into QUENCHED leaves for it: no transaction, the frames that it has offered behind the others, no
command taken off the queue, and the same devices DISABLED. -/
structure EndsWith (first : List UpEntry) (s u : State) : Prop where
  transaction : u.flc.transaction = none
  downstream : u.upp.downstream = s.upp.downstream
  condition : ∀ d, (u.status d).condition.quenched = (s.status d).condition.quenched
  queued : ∀ p, s.queued p = true → u.queued p = true
  frames : s.frames.length + first.length ≤ 16 → u.frames = s.frames ++ first

theorem Condition.quenched_congr {a b : Condition} (h : b = .disabled ↔ a = .disabled) : b.quenched = a.quenched := by
  by_cases ha : a = .disabled
  · rw [ha, h.mpr ha]
  · rw [quenched_of_enabled ha, quenched_of_enabled fun hb => ha (h.mp hb)]

/-- Observations of the field before an entry into QUENCHED. -/
theorem Effects.endsWith (g : Effects .observation s u) (h : s.flc.transaction = none) : EndsWith [] s u where
  transaction := g.transaction.trans h
  downstream := g.downstream
  condition d := Condition.quenched_congr (g.status d rfl).disabled
  queued p := g.keeps (P := fun u => u.queued p = true) fun e => e.queued Scope.noConfusion
  frames _ := by rw [g.frames Scope.noConfusion, List.append_nil]

/-- A frame offered after observations of the field. -/
theorem EndsWith.offerUp (g : EndsWith [] s u) {e : UpEntry} (he : e.frame.isNotice = false) : EndsWith [e] s (offerUp e u) where
  transaction := by rw [offerUp_flc, g.transaction]
  downstream := ((offerUp_effects e).downstream).trans g.downstream
  condition d := by rw [status_congr (offerUp_psc ..) (offerUp_gsq ..) (offerUp_ltu ..) d, g.condition d]
  queued p hp := by
    rw [State.queued, offerUp_flc]
    exact g.queued p hp
  frames hroom := by
    rw [List.length_singleton] at hroom
    have hbefore : u.frames = s.frames := by simpa using g.frames (by simp only [List.length_nil]; omega)
    rw [offerUp_frames he (by rw [hbefore]; omega), hbefore]

theorem freed_endsWith (s : State) : EndsWith [] s.freed s.freed := (Effects.refl .observation s.freed).endsWith rfl

theorem endCommand_endsWith (p : PointId) (v : Word) (n : Nat) (o : FieldOutcome) (s : State) :
    EndsWith [] s.freed (endCommand p v n o s.freed) := by
  obtain h | ⟨-, h⟩ := endCommand_cases p v n o s.freed
  · exact h.endsWith rfl
  · rw [h]
    refine ⟨rfl, rfl, fun d => congrArg (fun x : Status => x.condition.quenched) (status_congr rfl rfl rfl d), fun q hq => ?_,
      fun _ => (List.append_nil _).symm⟩
    refine List.any_append.trans ?_
    rw [Bool.or_eq_true]
    exact .inl hq

/-- The frame that the end of a supervisory transaction offers upstream (R14, R15, R16). -/
def supervisoryEnd (o : FieldOutcome) (w : Frame) : List UpEntry :=
  match o with
  | .reply f => [{ frame := f }]
  | .corrupt => [refusal 3 w]
  | .noReply => [refusal 2 w]
  | .guardEnd => []

theorem endSupervisory_endsWith (w : Frame) {o : FieldOutcome} (ho : ∀ f, o = .reply f → f.isNotice = false) (s : State) :
    EndsWith (supervisoryEnd o w) s.freed (endSupervisory w o s.freed) := by
  cases o with
  | reply f =>
    refine EndsWith.offerUp ?_ (ho f rfl)
    split
    · exact (observeValue_effects rfl f).endsWith rfl
    · split
      · exact (observeEcho_effects rfl f).endsWith rfl
      · exact freed_endsWith s
  | corrupt =>
    rw [endSupervisory, refuse_eq_offerUp w (by decide)]
    exact (freed_endsWith s).offerUp rfl
  | noReply =>
    rw [endSupervisory, refuse_eq_offerUp w (by decide)]
    exact (freed_endsWith s).offerUp rfl
  | guardEnd => exact freed_endsWith s

/-- The frame that the end of a transaction offers upstream, by its origin. -/
def Origin.endFrames (x : Origin) (o : FieldOutcome) : List UpEntry :=
  match x with
  | .supervisory w => supervisoryEnd o w
  | _ => []

theorem endOrigin_endsWith (x : Transaction) {o : FieldOutcome} (ho : ∀ f, o = .reply f → f.isNotice = false) (s : State) :
    EndsWith (x.origin.endFrames o) s.freed (endOrigin x o s.freed) := by
  cases h : x.origin with
  | supervisory w =>
    rw [endOrigin_supervisory h]
    exact endSupervisory_endsWith w ho s
  | command p v n =>
    rw [endOrigin_command h]
    exact endCommand_endsWith ..
  | scan e =>
    cases o with
    | reply f =>
      rw [endOrigin_scan h]
      split
      · exact (observeValue_effects rfl f).endsWith rfl
      · exact freed_endsWith s
    | corrupt =>
      rw [endOrigin_scan_noReply (o := .corrupt) h nofun]
      exact freed_endsWith s
    | noReply =>
      rw [endOrigin_scan_noReply (o := .noReply) h nofun]
      exact freed_endsWith s
    | guardEnd =>
      rw [endOrigin_scan_noReply (o := .guardEnd) h nofun]
      exact freed_endsWith s

/-- The end of a transaction in QUENCH_PENDING enters QUENCHED. -/
theorem endTransaction_pending (hl : s.flc.line = .quenchPending) (x : Transaction) (o : FieldOutcome) :
    endTransaction x o s = enterQuenched (endOrigin x o s.freed) := by
  rw [endTransaction_eq, endOrigin_line, if_pos (by exact hl)]
  rfl

/-! ## What the statement says of an entry -/

/-- The mode of a device whose condition is the quenched one. -/
theorem mode_of_quenched {M : Type} [DecidableEq M] {disabled unknown m n : M} {a b : Condition}
    (ha : a = .disabled ↔ m = disabled) (hu : a = .unknown ↔ m = unknown) (hb : b = .disabled ↔ n = disabled) (h : a = b.quenched) :
    m = if n = disabled then disabled else unknown := by
  split
  · next hn => exact ha.mp (h.trans (by rw [hb.mpr hn]; rfl))
  · next hn => exact hu.mp (h.trans (Condition.quenched_of_enabled fun hc => hn (hb.mp hc)))

/-- An entry into QUENCHED as the statement gives it, from the state before the work that led to it. -/
def Entered (s : State) (first : List UpEntry) (waiting : List Tag) (t : State) : Prop :=
  t.flc.line = .quenched ∧ t.flc.quenchWaiting = [] ∧ t.QuenchedIdle ∧
  (∀ p : PumpId, (t.pump p).mode = if (s.pump p).mode = .disabled then .disabled else .unknown) ∧
  (∀ b : BarrierId, (t.barrier b).mode = if (s.barrier b).mode = .disabled then .disabled else .unknown) ∧
  t.gsq.gate.mode = (if s.gsq.gate.mode = .disabled then .disabled else .unknown) ∧
  (∀ z : ZoneId, (t.zone z).mode = if (s.zone z).mode = .disabled then .disabled else .unknown) ∧
  (∀ e ∈ s.flc.commandQueue, (t.point e.point).command = .idle) ∧
  (s.frames.length + first.length + s.upp.downstream.length + waiting.length ≤ 16 →
    t.frames = s.frames ++ first ++ s.upp.downstream.map (refusal 5) ++ waiting.map quenchDone)

theorem EntersQuenched.entered {first : List UpEntry} {waiting : List Tag} (h : EntersQuenched u t) (g : EndsWith first s u)
    (hw : u.flc.quenchWaiting = waiting) : Entered s first waiting t := by
  have hcond : ∀ d, (t.status d).condition = (s.status d).condition.quenched := fun d => (h.condition d).trans (g.condition d)
  refine ⟨h.line, h.waiting, h.idle, fun p => mode_of_quenched PumpMode.condition_eq_disabled PumpMode.condition_eq_unknown
      PumpMode.condition_eq_disabled (hcond (.pump p)),
    fun b => mode_of_quenched BarrierMode.condition_eq_disabled BarrierMode.condition_eq_unknown
      BarrierMode.condition_eq_disabled (hcond (.barrier b)),
        mode_of_quenched GateMode.condition_eq_disabled GateMode.condition_eq_unknown
      GateMode.condition_eq_disabled (hcond .gate),
    fun z => mode_of_quenched ZoneMode.condition_eq_disabled ZoneMode.condition_eq_unknown
      ZoneMode.condition_eq_disabled (hcond (.zone z)),
    fun e he => h.command _ (g.queued _ ((queued_iff s e.point).mpr ⟨e, he, rfl⟩)), fun hroom => ?_⟩
  have hframes := g.frames (by omega)
  have hlen : u.frames.length + u.upp.downstream.length + u.flc.quenchWaiting.length ≤ 16 := by
    rw [hframes, List.length_append, g.downstream, hw]
    exact hroom
  rw [h.frames hlen, hframes, g.downstream, hw]

/-- A transaction that ends in QUENCH_PENDING, in a state with the clock moved at most. -/
theorem endTransaction_entered (hl : s.flc.line = .quenchPending) (x : Transaction) {o : FieldOutcome}
    (ho : ∀ f, o = .reply f → f.isNotice = false) :
    Entered s (x.origin.endFrames o) s.flc.quenchWaiting (endTransaction x o s) ∧ (endTransaction x o s).AtRest := by
  have hend := endOrigin_endsWith x ho s
  rw [endTransaction_pending hl]
  have hwaiting : (endOrigin x o s.freed).flc.quenchWaiting = s.flc.quenchWaiting :=
    (congrArg Flc.quenchWaiting (endOrigin_flc_rest x o s.freed) :)
  have hentered : Entered s.freed (x.origin.endFrames o) s.flc.quenchWaiting (enterQuenched (endOrigin x o s.freed)) :=
    (enterQuenched_enters hend.transaction).entered hend hwaiting
  exact ⟨hentered, enterQuenched_atRest _⟩

/-- The expiry of the timer of a transaction in QUENCH_PENDING. -/
theorem expiry_entered {x : Transaction} {d : Nat} {phase : Phase} {o : FieldOutcome} {i : Instr} (hl : s.flc.line = .quenchPending)
    (hx : s.flc.transaction = some x) (hd : x.timer = .running d) (hp : x.phase = phase)
      (ho : ∀ f, o = .reply f → f.isNotice = false)
    (hi : exec i s = .next (quiesce (fieldExpiry phase o s))) :
    ∃ t, exec i s = .next t ∧ Entered s (x.origin.endFrames o) s.flc.quenchWaiting t := by
  have hend : fieldExpiry phase o s = endTransaction x o (s.advance d) := by
    rw [fieldExpiry, hx]
    simp only [hp, if_true]
    exact onExpiry_running hd s _
  obtain ⟨hentered, hrest⟩ := endTransaction_entered (s := s.advance d) hl x ho
  rw [hend, quiesce_of_rest hrest] at hi
  exact ⟨_, hi, hentered⟩

/-- A frame that ends a transaction in QUENCH_PENDING. -/
theorem arrival_entered {x : Transaction} {ws : List Word} {o : FieldOutcome} (hl : s.flc.line = .quenchPending)
    (hx : s.flc.transaction = some x) (hp : x.phase = .awaiting) (hout : x.outcome ws = some o)
    (ho : ∀ f, o = .reply f → f.isNotice = false) :
    ∃ t, exec (.fieldFrameArrival ws) s = .next t ∧ Entered s (x.origin.endFrames o) s.flc.quenchWaiting t := by
  have harrive : fieldArrival ws s = endTransaction x o s := by
    rw [fieldArrival_awaiting hx hp (by simp [hl]), hout]
  obtain ⟨hentered, hrest⟩ := endTransaction_entered hl x ho
  exact ⟨_, exec_of_rest (congrArg (fun t => Host.Outcome.next (quiesce t)) harrive) hrest, hentered⟩

/-- An acceptable reply is no NOTICE (R14). -/
theorem Transaction.not_notice_of_accepts {x : Transaction} {f : Frame} (h : x.accepts f = true) : f.isNotice = false := by
  have hkind : f.kind ≠ kindReport := by
    obtain ⟨-, ⟨hk, -⟩ | ⟨-, hk, -⟩ | ⟨-, hk, -⟩⟩ := (x.accepts_iff f).mp h
    all_goals
      rw [hk]
      decide
  simp [Frame.isNotice, hkind]

/-! ## The operations -/

theorem takeOp_of_taking (hs : s.Taking) (tag : Tag) (code : Nat) (act : State → State) : takeOp tag code false act s = act s :=
  if_neg (by simp [hs.2])

theorem answer_atRest (hs : s.AtRest) (tag : Tag) (code status : Nat) (data : List Word) : (answer tag code status data s).AtRest :=
  hs.of_same (answer_signals ..) (answer_lau ..)

theorem exec_quench (hs : s.Taking) {tag : Tag} (h : quenchOp tag s = t) (ht : t.AtRest) : exec (.quench tag) s = .next t :=
  exec_of_rest (congrArg (fun t => Host.Outcome.next (quiesce t)) ((takeOp_of_taking hs tag 52 (quenchOp tag)).trans h)) ht

theorem exec_unquench (hs : s.Taking) {tag : Tag} (h : unquenchOp tag s = t) (ht : t.AtRest) : exec (.unquench tag) s = .next t :=
  exec_of_rest (congrArg (fun t => Host.Outcome.next (quiesce t)) ((takeOp_of_taking hs tag 53 (unquenchOp tag)).trans h)) ht

theorem quenchOp_quenched (h : s.flc.line = .quenched) (tag : Tag) : quenchOp tag s = answer tag 52 stDone [] s := by
  rw [quenchOp, h]

theorem quenchOp_pending (h : s.flc.line = .quenchPending) (tag : Tag) :
    quenchOp tag s = s.modFlc fun f => { f with quenchWaiting := f.quenchWaiting ++ [tag] } := by
  rw [quenchOp, h]

theorem quenchOp_busy (h : s.flc.line = .running) (htx : s.flc.transaction.isSome = true) (tag : Tag) : quenchOp tag s =
    s.modFlc fun f => { f with line := .quenchPending, quenchWaiting := f.quenchWaiting ++ [tag] } := by
  rw [quenchOp, h]
  exact if_neg (by simpa [Option.isNone_iff_eq_none, Option.isSome_iff_ne_none] using htx)

theorem quenchOp_free (h : s.flc.line = .running) (htx : s.flc.transaction = none) (tag : Tag) : quenchOp tag s =
    enterQuenched (s.modFlc fun f => { f with quenchWaiting := f.quenchWaiting ++ [tag] }) := by
  rw [quenchOp, h]
  exact if_pos (by rw [htx]; rfl)

/-- What the JOBS do after UNQUENCH (R22, R144, R164, R174). -/
def unquenchJobs (s : State) : State := quiesce (ltuUnquench (gsqUnquench (pscUnquench s)))

theorem unquenchJobs_effects : Effects .observation s (unquenchJobs s) :=
  .after quiesce_effects (.after (ltuUnquench_effects Scope.noConfusion) (.after (gsqUnquench_effects Scope.noConfusion)
    (pscUnquench_effects Scope.noConfusion)))

theorem unquenchJobs_steady (s : State) : (unquenchJobs s).steady = s.steady := by
  rw [unquenchJobs, quiesce_steady, ltuUnquench_steady, gsqUnquench_steady, pscUnquench_steady]

theorem unquenchOp_quenched (h : s.flc.line = .quenched) (tag : Tag) :
    unquenchOp tag s = unquenchJobs (answer tag 53 stDone [] (s.modFlc fun f => { f with line := .running })) := if_pos h

/-- Settles O18: QUENCH by line state, the entry into QUENCHED, the ends of a transaction in QUENCH_PENDING, and UNQUENCH. -/
theorem quenchAndUnquench : Obligations.QuenchAndUnquench := by
  intro tag s hs
  refine ⟨fun hl => ?_, fun hl => ?_, fun hl htx => ?_, fun hl htx => ?_, fun hl x hx => ⟨fun d hd => ⟨fun hp => ?_, fun hp => ?_⟩,
    fun ws hp => ⟨fun hnone => ?_, fun f hf hreply hacc => ?_⟩⟩, fun hl => ?_, fun hl => ?_⟩
  · exact exec_quench hs (quenchOp_quenched hl tag) (answer_atRest hs.1 ..)
  · exact exec_quench hs (quenchOp_pending hl tag) hs.1
  · exact exec_quench hs (quenchOp_busy hl htx tag) hs.1
  · refine ⟨_, exec_quench hs (quenchOp_free hl htx tag) (enterQuenched_atRest _), ?_⟩
    have hwait : EndsWith [] s (s.modFlc fun f => { f with quenchWaiting := f.quenchWaiting ++ [tag] }) :=
      ⟨htx, rfl, fun d => congrArg (fun x : Status => x.condition.quenched) (status_congr rfl rfl rfl d), fun _ => id,
        fun _ => (List.append_nil _).symm⟩
    have hfree : (s.modFlc fun f => { f with quenchWaiting := f.quenchWaiting ++ [tag] }).flc.transaction = none := htx
    exact (enterQuenched_enters hfree).entered hwait rfl
  · exact expiry_entered (o := .noReply) hl hx hd hp nofun rfl
  · obtain ⟨t, ht, h⟩ := expiry_entered (o := .guardEnd) (i := .guardExpiry) hl hx hd hp nofun rfl
    refine ⟨t, ht, ?_⟩
    have hnone : x.origin.endFrames .guardEnd = [] := by
      cases x.origin with
      | _ => rfl
    rwa [hnone] at h
  · exact arrival_entered hl hx hp (Transaction.outcome_of_check hnone) nofun
  · have hout := Transaction.outcome_of_reply hf hreply
    rw [if_pos hacc] at hout
    exact arrival_entered hl hx hp hout fun g hg => FieldOutcome.reply.inj hg ▸ x.not_notice_of_accepts hacc
  · refine ⟨_, exec_unquench hs (unquenchOp_quenched hl tag) (quiesce_atRest _),
      unquenchJobs_effects.upstream_prefix Scope.noConfusion, unquenchJobs_steady _⟩
  · exact exec_unquench hs (if_neg hl) (answer_atRest hs.1 ..)

end Sys2Proof.Machine
end

section
/-! PROOFS. The Table Store, RESTART and the power-on reset (R183, R184, R185). -/

set_option Elab.async false

namespace Sys2Proof.Machine

variable {s t x : State}

/-! ## The first reports -/

theorem quiesceLoop_of_rest (n : Nat) (h : s.AtRest) : quiesceLoop n s = s := by
  have hsettle := lauSettle_of_judged h.2
  have hsignals : s.signals = [] := h.1
  cases n with
  | zero =>
    rw [quiesceLoop, hsettle, ← hsignals]
  | succ n =>
    unfold quiesceLoop
    rw [hsettle]
    simp only [hsignals]

/-- A summary report in CLEAR sets the two summary flags of the STC (R89). -/
theorem quiesce_summary {a o : Bool} (hj : s.lau.judgeDue = false) (hstage : s.stc.stage = .clear) (hsig : s.signals = []) :
    quiesce (s.emit (.summary a o)) = s.modStc fun c => { c with allClosed := a, allOpen := o } := by
  have hemit : s.emit (.summary a o) = { s with signals := [.summary a o] } := by rw [State.emit, hsig]; rfl
  have hsettle : lauSettle { s with signals := [.summary a o] } = { s with signals := [.summary a o] } := lauSettle_of_judged hj
  have hback : ({ s with signals := [] } : State) = s := by rw [← hsig]
  have htake : takeSummary a o s = s.modStc fun c => { c with allClosed := a, allOpen := o } := by simp [takeSummary, hstage]
  rw [quiesce, quiesceLoop, hemit, hsettle]
  simp only [handleSignal, hback, htake]
  exact quiesceLoop_of_rest 255 ⟨hsig, hj⟩

/-- What the first reports set: flags of the STC, and the summary that the GSQ has reported (R144, R158). -/
def Reported (x t : State) : Prop := ∃ a o p g r, t =
  { x with
    stc := { x.stc with allClosed := a, allOpen := o, pscReady := p, gsqReady := g }
    gsq := { x.gsq with reported := r } }

theorem Reported.refl (x : State) : Reported x x := ⟨x.stc.allClosed, x.stc.allOpen, x.stc.pscReady, x.stc.gsqReady,
    x.gsq.reported, rfl⟩

theorem Reported.after (g : Reported t s) (h : Reported x t) : Reported x s := by
  obtain ⟨_, _, _, _, _, rfl⟩ := h
  obtain ⟨a, o, p, g, r, rfl⟩ := g
  exact ⟨a, o, p, g, r, rfl⟩

theorem Reported.atRest (h : Reported x t) (hx : x.AtRest) : t.AtRest := by
  obtain ⟨_, _, _, _, _, rfl⟩ := h
  exact hx

theorem Reported.stage (h : Reported x t) : t.stc.stage = x.stc.stage := by
  obtain ⟨_, _, _, _, _, rfl⟩ := h
  rfl

theorem pscReadiness_reported (x : State) : Reported x (pscReadiness x) := by
  unfold pscReadiness
  split
  · exact ⟨x.stc.allClosed, x.stc.allOpen, true, x.stc.gsqReady, x.gsq.reported, rfl⟩
  · exact .refl x

theorem gsqReadiness_reported (x : State) : Reported x (gsqReadiness x) := by
  unfold gsqReadiness
  split
  · exact ⟨x.stc.allClosed, x.stc.allOpen, x.stc.pscReady, true, x.gsq.reported, rfl⟩
  · exact .refl x

theorem gsqReadiness_emit (e : Signal) (x : State) : gsqReadiness (x.emit e) = (gsqReadiness x).emit e := by
  unfold gsqReadiness
  rw [apply_ite (State.emit · e)]
  rfl

/-- The summary is reported, or it is not due. -/
theorem summaryReport_cases (x : State) : summaryReport x = x ∨
    ∃ y a o, Reported x y ∧ summaryReport x = y.emit (.summary a o) := by
  have hdue : Reported x (x.modGsq fun c => { c with reported := some x.barrierSummary }) :=
    ⟨x.stc.allClosed, x.stc.allOpen, x.stc.pscReady, x.stc.gsqReady, some x.barrierSummary, rfl⟩
  unfold summaryReport
  simp only
  split
  · split
    · exact .inr ⟨_, _, _, hdue, rfl⟩
    · exact .inl rfl
  · split
    · exact .inr ⟨_, _, _, hdue, rfl⟩
    · exact .inl rfl

theorem firstReports_reported (hx : x.AtRest) (hstage : x.stc.stage = .clear) : Reported x (firstReports x) := by
  have hpsc := pscReadiness_reported x
  unfold firstReports
  obtain h | ⟨y, a, o, hy, h⟩ := summaryReport_cases (pscReadiness x)
  · have hgsq : Reported x (gsqReadiness (pscReadiness x)) := .after (gsqReadiness_reported _) hpsc
    rw [h, quiesce_of_rest (hgsq.atRest hx)]
    exact hgsq
  · have hgsq : Reported x (gsqReadiness y) := .after (gsqReadiness_reported y) (.after hy hpsc)
    obtain ⟨hsig, hj⟩ := hgsq.atRest hx
    rw [h, gsqReadiness_emit, quiesce_summary hj (hgsq.stage.trans hstage) hsig]
    exact .after ⟨a, o, _, _, _, rfl⟩ hgsq

/-! ## Records set anew -/

theorem Tab.get_map {α β : Type} {n : Nat} (f : α → β) (v : Vector α n) (i : Fin n) : Tab.get (v.map f) i = f (Tab.get v i) := by
  simp [Tab.get]

theorem Tab.get_zip {α β : Type} {n : Nat} (v : Vector α n) (w : Vector β n) (i : Fin n) :
    Tab.get (v.zip w) i = (Tab.get v i, Tab.get w i) := by
  simp [Tab.get]

/-- A state whose running records are set anew from its tables and its clock (R10, R23, R63, R83, R101, R114, R128, R147, R166,
R176), before the first reports. -/
structure SetAnew (x : State) : Prop where
  signals : x.signals = []
  flc : x.flc = {}
  pim : x.pim = resetPim x.cfg x.now
  sau : x.sau = resetSau x.cfg x.now
  stc : x.stc = resetStc x.now
  cau : x.cau = resetCau x.cfg
  lau : x.lau = resetLau x.cfg
  gsq : x.gsq = resetGsq x.cfg
  ltu : x.ltu = resetLtu x.cfg x.now
  snapshot : x.mgu.snapshot = none
  restart : x.mgu.restart = .none
  scheduler : x.psc.startSeq = 0 ∧ x.psc.data = none ∧ ∀ k, Tab.get x.psc.step k = none
  pump : ∀ p, ∃ m n c r, x.pump p =
    { mode := pumpModeOf (x.pumpCfg p), hourWindow := m, startsInWindow := n, startCount := c, runMs := r }

/-- What the statement says of a state after POR or RESTART. -/
def Fresh (t : State) : Prop :=
  (∀ p : PumpId, (t.pump p).mode = if (t.pumpCfg p).enable = true then .unknown else .disabled) ∧
  (∀ b : BarrierId, (t.barrier b).mode = if (t.barrierCfg b).enable = true then .unknown else .disabled) ∧
  (t.gsq.gate.mode = if t.cfg.gate.enable = true then .unknown else .disabled) ∧
  (∀ z : ZoneId, (t.zone z).mode = if (t.zoneCfg z).enable = true then .unknown else .disabled) ∧
  (∀ p : PointId, (t.point p).quality = .never ∧ (t.point p).raw = 0 ∧ (t.point p).command = .idle) ∧
  (∀ q : QueueId, t.levelQueue q = {}) ∧ t.flc = {} ∧ t.lau.queue = [] ∧ t.lau.mode = .none ∧ t.sau.cycle = none ∧
  t.stc.stage = .clear ∧ t.stc.hold = .running ∧ t.stc.holdRequest = false ∧ t.stc.derivePending = true ∧
  t.cau = { keyLocal := t.cfg.supply.panelKey.isSome, keyChanged := false, overrides := [] } ∧
  t.mgu.snapshot = none ∧ t.mgu.restart = .none ∧
  t.sau.cycleTimer = .running (t.now + t.cfg.line.cyclePeriod) ∧ t.sau.timerPeriod = t.cfg.line.cyclePeriod ∧
  t.sau.deferred = [] ∧ t.ltu.timer = .running (t.now + 1000) ∧ t.stc.derive = .running (t.now + 10000) ∧
  (∀ e : ScanId, Tab.get t.pim.scanDue e =
    if (t.scanCfg e).enable = true then .running (t.now + 100 * (t.scanCfg e).interval) else .stopped) ∧
  t.psc.startSeq = 0 ∧ t.psc.data = none ∧ t.gsq.data = none ∧ t.stc.data = none ∧ (∀ k : SumpId, Tab.get t.psc.step k = none) ∧
  (∀ p : PumpId, (t.pump p).fault = 0 ∧ (t.pump p).lastStop = none ∧ (t.pump p).postDeferred = false ∧
    (t.pump p).startTimer = .stopped ∧ (t.pump p).stopTimer = .stopped ∧ (t.pump p).offTimer = .stopped) ∧
  ∀ z : ZoneId, t.zone z = { mode := (t.zone z).mode, level := 0, target := 100, curveValue := 100 }

theorem SetAnew.atRest (h : SetAnew x) : x.AtRest := ⟨h.signals, by rw [h.lau]; rfl⟩

theorem SetAnew.reported (h : SetAnew x) : Reported x (firstReports x) := firstReports_reported h.atRest (by rw [h.stc]; rfl)

theorem SetAnew.zone (h : SetAnew x) (z : ZoneId) :
    x.zone z = { mode := if (x.zoneCfg z).enable = true then .unknown else .disabled } := by
  rw [State.zone, h.ltu]
  exact Tab.get_map ..

theorem SetAnew.barrier (h : SetAnew x) (b : BarrierId) :
    x.barrier b = { mode := if (x.barrierCfg b).enable = true then .unknown else .disabled } := by
  rw [State.barrier, h.gsq]
  exact Tab.get_map ..

theorem SetAnew.point (h : SetAnew x) (p : PointId) : x.point p = {} := by
  rw [State.point, h.pim]
  exact Tab.get_replicate ..

theorem SetAnew.levelQueue (h : SetAnew x) (q : QueueId) : x.levelQueue q = {} := by
  rw [State.levelQueue, h.pim]
  exact Tab.get_replicate ..

theorem SetAnew.scanDue (h : SetAnew x) (e : ScanId) : Tab.get x.pim.scanDue e =
    if (x.scanCfg e).enable = true then .running (x.now + 100 * (x.scanCfg e).interval) else .stopped := by
  rw [h.pim]
  exact Tab.get_map ..

theorem SetAnew.fresh (h : SetAnew x) : Fresh (firstReports x) := by
  obtain ⟨a, o, p, g, r, ht⟩ := h.reported
  obtain ⟨hseq, hdata, hstep⟩ := h.scheduler
  rw [ht]
  refine ⟨fun p => ?_, fun b => congrArg BarrierState.mode (h.barrier b), ?_, fun z => congrArg ZoneState.mode (h.zone z),
    fun p => ?_, h.levelQueue, h.flc, ?_, ?_, ?_, ?_, ?_, ?_, ?_, h.cau, h.snapshot, h.restart, ?_, ?_, ?_, ?_, ?_, h.scanDue, hseq,
    hdata, ?_, ?_, hstep, fun p => ?_, fun z => ?_⟩
  · obtain ⟨_, _, _, _, hp⟩ := h.pump p
    exact congrArg PumpState.mode hp
  · simp only [h.gsq, resetGsq]
  · have hpoint := h.point p
    exact ⟨congrArg PointState.quality hpoint, congrArg PointState.raw hpoint, congrArg PointState.command hpoint⟩
  · simp only [h.lau, resetLau]
  · simp only [h.lau, resetLau]
  · simp only [h.sau, resetSau]
  · simp only [h.stc, resetStc]
  · simp only [h.stc, resetStc]
  · simp only [h.stc, resetStc]
  · simp only [h.stc, resetStc]
  · simp only [h.sau, resetSau, Timer.start]
  · simp only [h.sau, resetSau]
  · simp only [h.sau, resetSau]
  · simp only [h.ltu, resetLtu, Timer.start]
  · simp only [h.stc, resetStc, Timer.start]
  · simp only [h.gsq, resetGsq]
  · simp only [h.stc, resetStc]
  · obtain ⟨_, _, _, _, hp⟩ := h.pump p
    exact ⟨congrArg PumpState.fault hp, congrArg PumpState.lastStop hp, congrArg PumpState.postDeferred hp,
      congrArg PumpState.startTimer hp, congrArg PumpState.stopTimer hp, congrArg PumpState.offTimer hp⟩
  · have hzone : x.zone z = { mode := (x.zone z).mode, level := 0, target := 100, curveValue := 100 } := by rw [h.zone z]
    exact hzone

/-! ## RESTART -/

/-- The records that a RESTART sets anew (R185). -/
def restartRecords (s : State) : State :=
  { s with
    signals := [], upp := restartUpp s, flc := {}, pim := resetPim s.cfg s.now, sau := resetSau s.cfg s.now
    stc := resetStc s.now, cau := resetCau s.cfg, lau := resetLau s.cfg, psc := restartPsc s, gsq := resetGsq s.cfg
    ltu := resetLtu s.cfg s.now
    mgu := { s.mgu with snapshot := none, restart := .none } }

theorem restartPerformed_eq (s : State) : restartPerformed s = firstReports (restartRecords s) := rfl

/-- A pump after RESTART keeps its run time, its start count and its hour window (R147). -/
theorem restartRecords_pump (s : State) (p : PumpId) : (restartRecords s).pump p =
    { mode := pumpModeOf (s.pumpCfg p), hourWindow := (s.pump p).hourWindow, startsInWindow := (s.pump p).startsInWindow
      startCount := (s.pump p).startCount, runMs := s.runTime p } := by
  refine (Tab.get_map ..).trans ?_
  rw [Tab.get_zip]
  rfl

theorem restartRecords_anew (s : State) : SetAnew (restartRecords s) :=
  { signals := rfl, flc := rfl, pim := rfl, sau := rfl, stc := rfl, cau := rfl, lau := rfl, gsq := rfl, ltu := rfl
    snapshot := rfl, restart := rfl, scheduler := ⟨rfl, rfl, fun _ => Tab.get_replicate ..⟩
    pump := fun p => ⟨_, _, _, _, restartRecords_pump s p⟩ }

/-! ## The power-on reset -/

/-- The records that a reset sets anew from an image and the state of the pins (R184). -/
def loadedRecords (i : StoreImage) (s : State) : State :=
  { pending := s.pending, free := s.free, powerFail := s.powerFail, cfg := i.tables
    pmu := { pinned := i.pinned.map loadEntry, sets := i.sets.map loadEntry }
    pim := resetPim i.tables 0, sau := resetSau i.tables 0, stc := resetStc 0, cau := resetCau i.tables, lau := resetLau i.tables
    psc := resetPsc i.tables, gsq := resetGsq i.tables, ltu := resetLtu i.tables 0
    mgu := { store := some i, storeInvalid := false } }

theorem por_loaded {i : StoreImage} (h : s.mgu.store = some i) : por s = firstReports (loadedRecords i s) := by
  unfold por
  rw [h]
  rfl

theorem resetPsc_duty (t : Tables) : ∀ k : SumpId, Tab.get (resetPsc t).duty k = resetDuty t k
  | 0 | 1 | 2 | 3 => rfl

theorem loadedRecords_pump (i : StoreImage) (s : State) (p : PumpId) :
    (loadedRecords i s).pump p = { mode := pumpModeOf (Tab.get i.tables.pumps p) } := Tab.get_map ..

theorem loadedRecords_anew (i : StoreImage) (s : State) : SetAnew (loadedRecords i s) :=
  { signals := rfl, flc := rfl, pim := rfl, sau := rfl, stc := rfl, cau := rfl, lau := rfl, gsq := rfl, ltu := rfl
    snapshot := rfl, restart := rfl, scheduler := ⟨rfl, rfl, fun _ => Tab.get_replicate ..⟩
    pump := fun p => ⟨_, _, _, _, loadedRecords_pump i s p⟩ }

theorem loadEntry_checkGood (f : MapFields) : (loadEntry f).checkGood = true := beq_self_eq_true _

theorem resetPim_default : resetPim {} 0 = {} := by
  simp only [resetPim, Vector.map_replicate]
  rfl
theorem resetSau_default : resetSau {} 0 = {} := by
  simp only [resetSau, Vector.map_replicate]
  rfl
theorem resetLau_default : resetLau {} = {} := by
  simp only [resetLau, Vector.map_replicate]
  rfl
theorem resetPsc_default : resetPsc {} = {} := by
  simp only [resetPsc, Vector.map_replicate]
  decide
theorem resetGsq_default : resetGsq {} = { reported := none } := by
  simp only [resetGsq, Vector.map_replicate]
  rfl
theorem resetLtu_default : resetLtu {} 0 = {} := by
  simp only [resetLtu, Vector.map_replicate]
  rfl

theorem pscReadiness_of_known (h : ∀ p, (x.pump p).mode ≠ .unknown) :
    pscReadiness x = x.modStc fun c => { c with pscReady := true } := if_pos (by simp [h])

theorem gsqReadiness_of_known (hb : ∀ b, (x.barrier b).mode ≠ .unknown) (hg : x.gsq.gate.mode ≠ .unknown) :
    gsqReadiness x = x.modStc fun c => { c with gsqReady := true } := if_pos (by simp [hb, hg])

/-- With no barrier enabled, the first summary says that all are closed and all are open (R158). -/
theorem summaryReport_of_none_enabled (hb : x.enabledBarriers = []) (hr : x.gsq.reported = none) :
    summaryReport x = (x.modGsq fun c => { c with reported := some (true, true) }).emit (.summary true true) := by
  unfold summaryReport State.barrierSummary
  simp [hb, hr]

/-- The first reports of a part with no device enabled. -/
theorem firstReports_of_none_enabled (hx : x.AtRest) (hstage : x.stc.stage = .clear) (hp : ∀ p, (x.pump p).mode ≠ .unknown)
    (hb : ∀ b, (x.barrier b).mode ≠ .unknown) (hg : x.gsq.gate.mode ≠ .unknown) (he : x.enabledBarriers = [])
    (hr : x.gsq.reported = none) : firstReports x =
      { x with
        stc := { x.stc with allClosed := true, allOpen := true, pscReady := true, gsqReady := true }
        gsq := { x.gsq with reported := some (true, true) } } := by
  obtain ⟨hsig, hj⟩ := hx
  have hsummary := summaryReport_of_none_enabled (x := x.modStc fun c => { c with pscReady := true }) he hr
  have hgsq := gsqReadiness_of_known (x := (x.modStc fun c => { c with pscReady := true }).modGsq fun c =>
    { c with reported := some (true, true) }) hb hg
  rw [firstReports, pscReadiness_of_known hp, hsummary, gsqReadiness_emit, hgsq]
  exact quiesce_summary (by exact hj) (by exact hstage) (by exact hsig)

/-- The default records before the first reports. -/
def defaultRecords (s : State) : State :=
  { State.reset with
    pending := s.pending, free := s.free, powerFail := s.powerFail, stc := resetStc 0, gsq := { reported := none } }

theorem por_default (h : s.mgu.store = none) : por s = firstReports (defaultRecords s) := by
  unfold por
  rw [h]
  simp only [resetPim_default, resetSau_default, resetLau_default, resetPsc_default, resetGsq_default, resetLtu_default]
  rfl

/-- A reset with an invalid Table Store leaves every field at its default (R184). -/
theorem por_defaults (h : s.mgu.store = none) :
    por s = { State.reset with pending := s.pending, free := s.free, powerFail := s.powerFail } := by
  have hpump : ∀ p, (defaultRecords s).pump p = {} := fun p => Tab.get_replicate ..
  have hbarrier : ∀ b, (defaultRecords s).barrier b = {} := fun b => Tab.get_replicate ..
  have hgate : (defaultRecords s).gsq.gate = {} := rfl
  have henabled : (defaultRecords s).enabledBarriers = [] := reset_enabledBarriers
  have hreports := firstReports_of_none_enabled (x := defaultRecords s) ⟨rfl, rfl⟩ rfl (fun p => by simp [hpump])
    (fun b => by simp [hbarrier]) (by simp [hgate]) henabled rfl
  rw [por_default h, hreports]
  rfl

/-! ## The commands -/

theorem takeOp_of_altering (hs : s.Altering) (tag : Tag) (code : Nat)
    (act : State → State) : takeOp tag code true act s = act s := by
  obtain ⟨⟨-, hrestart⟩, hcommit⟩ := hs
  exact if_neg (by simp [hrestart, hcommit])

theorem exec_storeCommit (hs : s.Altering) {tag : Tag} (h : commitOp tag s = t) (ht : t.AtRest) :
    exec (.storeCommit tag) s = .next t :=
  exec_of_rest (congrArg (fun t => Host.Outcome.next (quiesce t)) ((takeOp_of_altering hs tag 57 (commitOp tag)).trans h)) ht

theorem exec_storeCommitComplete (h : commitCompletes s = t) (ht : t.AtRest) : exec .storeCommitComplete s = .next t :=
  exec_of_rest (congrArg (fun t => Host.Outcome.next (quiesce t)) h) ht

theorem commitCompletes_some {c : Commit} (h : s.mgu.commit = some c) : commitCompletes s = answer c.tag 57 0 []
    { s with mgu := { s.mgu with commit := none, store := some c.image, storeInvalid := false } } := by
  rw [commitCompletes, h]
  rfl

theorem commitCompletes_none (h : s.mgu.commit = none) : commitCompletes s = s := by rw [commitCompletes, h]

theorem commitCompletes_atRest (hs : s.AtRest) : (commitCompletes s).AtRest := by
  unfold commitCompletes
  split
  · refine answer_atRest ?_ ..
    exact hs
  · exact hs

theorem firstReports_atRest (s : State) : (firstReports s).AtRest := quiesce_atRest _

/-- A performed RESTART as the statement gives it. -/
theorem restart_performs (h : s.mgu.restart = .ready) : exec .restartPerform s = .next (firstReports (restartRecords s)) := by
  have hperform : (if s.mgu.restart = .ready then restartPerformed s else s) = firstReports (restartRecords s) := if_pos h
  exact exec_of_rest (congrArg (fun t => Host.Outcome.next (quiesce t)) hperform) (firstReports_atRest _)

/-- The power-on reset by either of its commands. -/
theorem exec_por {c : Instr} (hc : c ∈ [Instr.powerOn, .resetInput]) (h : por s = t) (ht : t.AtRest) : exec c s = .next t := by
  have hexec : exec c s = .next (quiesce (por s)) := by
    obtain rfl | rfl : c = .powerOn ∨ c = .resetInput := by simpa using hc
    · rfl
    · rfl
  rw [hexec, h]
  exact next_quiesce_of_rest ht

/-- Settles O60: the commit, RESTART and its performance, and the power-on reset without and with a stored image. -/
theorem storeAndResets : Obligations.StoreAndResets := by
  refine ⟨fun tag s hs => ⟨fun hp => ?_, fun hp => ?_, ?_⟩, fun s hs => ⟨fun c hc => ?_, fun hc => ?_, fun hr => ?_, fun hr => ?_,
    fun c hc => ⟨fun hstore => ?_, fun i hstore => ?_⟩⟩⟩
  · exact exec_storeCommit hs (if_pos hp) (answer_atRest hs.1.1 ..)
  · exact exec_storeCommit hs (if_neg (by simp [hp])) hs.1.1
  · exact exec_of_rest (congrArg (fun t => Host.Outcome.next (quiesce t)) (takeOp_of_altering hs tag 58 (restartOp tag)))
      (offerUp_atRest (s := s.modMgu fun m => { m with restart := .answering }) hs.1.1 _)
  · exact exec_storeCommitComplete (commitCompletes_some hc) (commitCompletes_some hc ▸ commitCompletes_atRest hs)
  · exact exec_storeCommitComplete (commitCompletes_none hc) hs
  · exact exec_of_rest (congrArg (fun t => Host.Outcome.next (quiesce t)) (if_neg hr)) hs
  · obtain ⟨a, o, p, g, r, ht⟩ := (restartRecords_anew s).reported
    refine ⟨_, restart_performs hr, (restartRecords_anew s).fresh, ?_⟩
    rw [ht]
    refine ⟨rfl, rfl, rfl, rfl, rfl, rfl, fun p => ?_, rfl⟩
    have hp := restartRecords_pump s p
    exact ⟨(congrArg PumpState.runMs hp :), (congrArg PumpState.runningSince hp :), (congrArg PumpState.startCount hp :),
      (congrArg PumpState.hourWindow hp :), (congrArg PumpState.startsInWindow hp :)⟩
  · exact exec_por hc (por_defaults hstore) ⟨rfl, rfl⟩
  · obtain ⟨a, o, p, g, r, ht⟩ := (loadedRecords_anew i s).reported
    refine ⟨_, exec_por hc (por_loaded hstore) (firstReports_atRest _), (loadedRecords_anew i s).fresh, ?_⟩
    rw [ht]
    refine ⟨rfl, fun k => ?_, fun p => ?_, rfl, rfl, rfl, rfl, fun j => ?_, fun j => ?_, rfl, rfl⟩
    · exact resetPsc_duty i.tables k
    · have hp := loadedRecords_pump i s p
      exact ⟨(congrArg PumpState.runMs hp :), (congrArg PumpState.startCount hp :), (congrArg PumpState.hourWindow hp :),
        (congrArg PumpState.startsInWindow hp :)⟩
    · have hj : Tab.get (loadedRecords i s).pmu.pinned j = loadEntry (Tab.get i.pinned j) := Tab.get_map ..
      exact ⟨congrArg MapEntry.fields hj, congrArg MapEntry.used hj, (congrArg MapEntry.checkGood hj).trans (loadEntry_checkGood _)⟩
    · have hj : Tab.get (loadedRecords i s).pmu.sets j = loadEntry (Tab.get i.sets j) := Tab.get_map ..
      exact ⟨congrArg MapEntry.fields hj, congrArg MapEntry.used hj, (congrArg MapEntry.checkGood hj).trans (loadEntry_checkGood _)⟩

end Sys2Proof.Machine
end

section
/-! PROOFS. The Path Fault Record (R43), check bits and storage faults (R26), the set index (R25) and the lookup (R27 to R29, R32). -/

namespace Sys2Proof.Machine

variable {s : State}

/-! ## The Path Fault Record -/

theorem logFault_fresh (h : s.pmu.fault.fv = false) (u : FaultUpdate) :
    let k := u.key.getD { plan := 0, station := 0, channel := 0 }
    logFault u s =
      raiseNotice 3 [word u.cls.code, word u.detail, k.plan.zeroExtend 16, k.station.zeroExtend 16, k.channel.zeroExtend 16]
        { s with pmu := { s.pmu with fault := { fv := true, ow := false, stored := u, writtenAt := s.now } } } := by
  rw [logFault, h]
  rfl

theorem logFault_standing (h : s.pmu.fault.fv = true) (u : FaultUpdate) :
    logFault u s = { s with pmu := { s.pmu with fault :=
      if s.pmu.fault.stored.cls.rank ≤ u.cls.rank then { fv := true, ow := true, stored := u, writtenAt := s.now }
      else { s.pmu.fault with ow := true } } } := by
  rw [logFault, if_pos h, State.modPmu, ← h]

/-- Settles O9: an update of an empty record (`logFault_fresh`) and of one that stands (`logFault_standing`), by rank. -/
theorem pathFaultRecordUpdate : Obligations.PathFaultRecordUpdate := by
  refine ⟨rfl, rfl, rfl, rfl, fun u s => ⟨fun hfv => logFault_fresh hfv u, fun hfv hrank => ?_, fun hfv hrank => ?_⟩⟩
  · rw [logFault_standing hfv, if_pos hrank]
  · rw [logFault_standing hfv, if_neg (Nat.not_le.mpr hrank)]

/-! ## Check bits and storage faults -/

theorem foldl_bne_xor {w : Nat} (a b : BitVec w) (l : List Nat) (p q : Bool) :
    l.foldl (fun p i => p != (a ^^^ b).getLsbD i) (p != q) =
      (l.foldl (fun p i => p != a.getLsbD i) p != l.foldl (fun p i => p != b.getLsbD i) q) := by
  induction l generalizing p q with
  | nil => rfl
  | cons i l ih =>
    have hbits : ((p != q) != (a ^^^ b).getLsbD i) = ((p != a.getLsbD i) != (q != b.getLsbD i)) := by
      rw [BitVec.getLsbD_xor]
      cases p <;> cases q <;> simp
    rw [List.foldl_cons, hbits, ih]
    rfl

theorem parity_xor (a b : BitVec 24) : parity (a ^^^ b) = (parity a != parity b) := foldl_bne_xor a b _ false false

theorem ofBool_getLsbD {w : Nat} (b : BitVec w) (i : Nat) : BitVec.ofBool (b.getLsbD i) = b.extractLsb' i 1 := by
  ext j hj
  simp [show j = 0 by omega]

/-- The stored fields spell the word of bits that they were read from. -/
theorem MapFields.bits_ofBits (b : BitVec 24) : (MapFields.ofBits b).bits = b := by
  have hdir : ((if b.getLsbD 20 = true then Direction.command else .sample) == .command) = b.getLsbD 20 := by
    cases b.getLsbD 20 <;> rfl
  rw [MapFields.bits, MapFields.ofBits, hdir]
  simp only [ofBool_getLsbD]
  rw [BitVec.extractLsb'_append_extractLsb'_eq_extractLsb' (show 23 = 22 + 1 from rfl),
    BitVec.extractLsb'_append_extractLsb'_eq_extractLsb' (show 22 = 21 + 1 from rfl),
    BitVec.extractLsb'_append_extractLsb'_eq_extractLsb' (show 21 = 20 + 1 from rfl),
    BitVec.extractLsb'_append_extractLsb'_eq_extractLsb' (show 20 = 18 + 2 from rfl),
    BitVec.extractLsb'_append_extractLsb'_eq_extractLsb' (show 18 = 12 + 6 from rfl),
    BitVec.extractLsb'_append_extractLsb'_eq_extractLsb' (show 12 = 8 + 4 from rfl),
    BitVec.extractLsb'_append_extractLsb'_eq_extractLsb' (show 8 = 0 + 8 from rfl)]
  exact BitVec.extractLsb'_eq_self

/-- A mask that leaves the global and the lock bit of the Set Map alone is not cut by the fault (Table 2-2). -/
theorem and_setMask {flips : BitVec 24} (hglobal : flips.getLsbD 22 = false) (hlock : flips.getLsbD 21 = false) :
    flips &&& 0x9FFFFF#24 = flips := by
  have hmask : ∀ i < 24, i ≠ 22 → i ≠ 21 → (0x9FFFFF#24).getLsbD i = true := by decide
  refine BitVec.eq_of_getLsbD_eq fun i hi => ?_
  rw [BitVec.getLsbD_and]
  by_cases h22 : i = 22
  · rw [h22, hglobal, Bool.false_and]
  · by_cases h21 : i = 21
    · rw [h21, hlock, Bool.false_and]
    · rw [hmask i hi h22 h21, Bool.and_true]

/-- The entry that a storage fault makes of an entry (R26). -/
def MapEntry.flipped (e : MapEntry) (flips : BitVec 24) : MapEntry := { e with fields := .ofBits (e.fields.bits ^^^ flips) }

theorem MapEntry.flipped_bits (e : MapEntry) (flips : BitVec 24) : (e.flipped flips).fields.bits = e.fields.bits ^^^ flips :=
  MapFields.bits_ofBits _

theorem MapEntry.flipped_checkGood (e : MapEntry) {flips : BitVec 24} (h : parity flips = true) :
    (e.flipped flips).checkGood = !e.checkGood := by
  rw [MapEntry.checkGood, e.flipped_bits, parity_xor, h, MapEntry.checkGood, MapEntry.flipped]
  cases e.check <;> simp

theorem storageFault_of_inSetMap {l : MapLoc} {flips : BitVec 24} (h : inSetMap l flips = true) (s : State) :
    storageFault l flips s = s.putEntry l ((s.mapEntry l).flipped flips) := by
  cases l with
  | pinned i => rfl
  | setMap i w =>
    have hbits : flips.getLsbD 22 = false ∧ flips.getLsbD 21 = false := by simpa [inSetMap] using h
    rw [storageFault, and_setMask hbits.1 hbits.2]
    rfl

/-- Settles O20: the altered entry is `MapEntry.flipped`, with an odd mask. -/
theorem storageFaultFailsCheck : Obligations.StorageFaultFailsCheck := by
  intro l flips s hs hwf
  obtain ⟨hodd, hset⟩ : oddFlips flips = true ∧ inSetMap l flips = true := by simpa [Instr.wellFormed] using hwf
  refine ⟨(s.mapEntry l).flipped flips, ?_, MapEntry.flipped_bits .., rfl, rfl, MapEntry.flipped_checkGood _ hodd⟩
  exact exec_of_rest (congrArg (fun t => Host.Outcome.next (quiesce t)) (storageFault_of_inSetMap hset s))
    ((putEntry_traces l _).atRest hs)

/-! ## The set index and the places of a lookup -/

theorem setIndex_val (plan : Plan) (station : Station) (channel : Channel) :
    (setIndex plan station channel).val = ((16 * station.toNat + channel.toNat) % 128) ^^^ (32 * plan.toNat) := by
  have hplan : 32 * plan.toNat % 2 ^ 7 = 32 * plan.toNat := by omega
  rw [setIndex, BitVec.val_toFin, BitVec.toNat_xor, BitVec.toNat_ofNat, BitVec.toNat_ofNat, hplan]
  rfl

theorem mem_pinnedSlots : ∀ i : Fin 16, i ∈ pinnedSlots := by decide

theorem mem_lookupPlaces (k : Key) (l : MapLoc) :
    l ∈ lookupPlaces k ↔ (∃ i, l = .pinned i) ∨ ∃ w, l = .setMap (setIndex k.plan k.station k.channel) w := by
  simp [lookupPlaces, mem_pinnedSlots, Fin.exists_fin_two, eq_comm]

/-- Settles O21. -/
theorem setIndexOfKey : Obligations.SetIndexOfKey := ⟨setIndex_val, mem_lookupPlaces⟩

/-! ## The lookup -/

/-- What a lookup does to the maps (R27, R28): it invalidates the failing matches, and on a HIT it sets the used flags of the good
ones. -/
def lookupMaps (bad good : List MapLoc) (r : LookupResult) (s : State) : State :=
  let t := bad.foldl (fun s l => invalidate l s) s
  match r with
  | .hit _ => good.foldl (fun s l => setUsed l s) t
  | _ => t

/-- What a lookup logs (R27, R29): the first failing match, else the place of a MULTI_HIT. -/
def lookupLog (k : Key) (kind : BitVec 3) (bad : List MapLoc) (multi : Option MapLoc) (t : State) : State :=
  match bad.head?, multi with
  | some l, _ => logFault { cls := .map, detail := parityDetail l, key := some k, loc := some l, kind := kind } t
  | none, some l => logFault { cls := .map, detail := 34, key := some k, loc := some l, kind := kind } t
  | none, none => t

/-- A lookup from its failing and its good matches. -/
theorem lookup_of_matches {k : Key} {dir : Direction} {bad good : List MapLoc} {r : LookupResult} {multi : Option MapLoc}
    (hbad : ((lookupPlaces k).filter fun l => (s.mapEntry l).fields.isMatch k).filter (fun l => !(s.mapEntry l).checkGood) = bad)
    (hgood : ((lookupPlaces k).filter fun l => (s.mapEntry l).fields.isMatch k).filter (fun l => (s.mapEntry l).checkGood) = good)
    (hr : resolve dir (good.map fun l => (l, (s.mapEntry l).fields)) = (r, multi)) (kind : BitVec 3) :
    lookup k dir kind s = ({ key := k, result := r, parityFault := !bad.isEmpty },
      if r = .miss then captureMiss k kind (lookupLog k kind bad multi (lookupMaps bad good r s))
      else lookupLog k kind bad multi (lookupMaps bad good r s)) := by
  subst hbad hgood
  rw [lookup, hr]
  rfl

theorem resolve_cons (dir : Direction) (f : MapLoc → MapFields) (g : MapLoc) (rest : List MapLoc) :
    resolve dir ((g :: rest).map fun l => (l, f l)) =
      if ∃ x ∈ rest, (f x).point ≠ (f g).point ∨ (f x).direction ≠ (f g).direction then (.multiHit, some g)
      else (if (f g).direction = dir then .hit (pointOf (f g).point) else .miss, none) := by
  have hall : ((rest.map fun l => (l, f l)).all fun x => x.2.point == (f g).point && x.2.direction == (f g).direction) = true ↔
      ¬ ∃ x ∈ rest, (f x).point ≠ (f g).point ∨ (f x).direction ≠ (f g).direction := by
    simp only [List.all_eq_true, List.forall_mem_map, Bool.and_eq_true, beq_iff_eq]
    grind
  rw [List.map_cons, resolve, ite_cond_congr (propext hall), ite_not]

theorem mapEntry_setUsedAll (ls : List MapLoc) (x : MapLoc) (s : State) :
    (ls.foldl (fun s l => setUsed l s) s).mapEntry x = if x ∈ ls then { s.mapEntry x with used := true } else s.mapEntry x := by
  induction ls generalizing s with
  | nil => simp
  | cons l ls ih =>
    rw [List.foldl_cons, ih, setUsed, mapEntry_putEntry]
    by_cases hx : x = l
    · simp [hx]
    · simp [hx]

theorem mapsFrom_setUsedAll (s : State) (ls : List MapLoc) (t : State) :
    s.mapsFrom (ls.foldl (fun s l => setUsed l s) t) = s.mapsFrom t := by
  induction ls generalizing t with
  | nil => rfl
  | cons l ls ih => exact (ih _).trans (mapsFrom_putEntry ..)

theorem mapEntry_lookupMaps {bad good : List MapLoc} (hdisj : ∀ x ∈ bad, x ∉ good) (r : LookupResult) (x : MapLoc) (s : State) :
    (lookupMaps bad good r s).mapEntry x =
      if x ∈ bad then (s.mapEntry x).invalidated
      else if x ∈ good ∧ r ≠ .miss ∧ r ≠ .multiHit then { s.mapEntry x with used := true } else s.mapEntry x := by
  cases r with
  | hit p =>
    rw [lookupMaps, mapEntry_setUsedAll, mapEntry_invalidateAll]
    by_cases hx : x ∈ bad
    · simp [hx, hdisj x hx]
    · simp [hx]
  | multiHit =>
    simp only [ne_eq, not_true_eq_false, and_false, if_false]
    exact mapEntry_invalidateAll bad x s
  | miss =>
    simp only [ne_eq, not_true_eq_false, false_and, and_false, if_false]
    exact mapEntry_invalidateAll bad x s

theorem mapsFrom_lookupMaps (bad good : List MapLoc) (r : LookupResult) (s : State) : s.mapsFrom (lookupMaps bad good r s) = s := by
  have hbad : s.mapsFrom (bad.foldl (fun s l => invalidate l s) s) = s := mapsFrom_invalidateAll ..
  cases r with
  | hit p => exact (mapsFrom_setUsedAll ..).trans hbad
  | multiHit => exact hbad
  | miss => exact hbad

/-- Of a lookup with failing matches the first of them is logged (R27, log entry 11). -/
theorem lookupLog_failing (k : Key) (kind : BitVec 3) (l : MapLoc) (others : List MapLoc) (multi : Option MapLoc) (t : State) :
    lookupLog k kind (l :: others) multi t =
      logFault { cls := .map, detail := parityDetail l, key := some k, loc := some l, kind := kind } t := rfl

theorem mapEntry_lookupLog (k : Key) (kind : BitVec 3) (bad : List MapLoc) (multi : Option MapLoc) (t : State) (x : MapLoc) :
    (lookupLog k kind bad multi t).mapEntry x = t.mapEntry x := by
  unfold lookupLog
  split
  · exact mapEntry_logFault ..
  · exact mapEntry_logFault ..
  · rfl

theorem mapEntry_captureMiss (k : Key) (kind : BitVec 3) (t : State) (x : MapLoc) :
    (captureMiss k kind t).mapEntry x = t.mapEntry x := by
  unfold captureMiss
  split
  · cases x <;> rfl
  · cases x <;> rfl

theorem mapsFrom_captureMiss (s : State) (k : Key) (kind : BitVec 3) (t : State) :
    s.mapsFrom (captureMiss k kind t) = captureMiss k kind (s.mapsFrom t) := by
  rw [captureMiss, apply_ite s.mapsFrom]
  rfl

/-- Settles O22: the result is `resolve` of the good matches; the maps, the log and Miss Capture follow it (`lookup_of_matches`). -/
theorem lookupResolves : Obligations.LookupResolves := by
  refine ⟨fun k dir kind s => ?_, fun k dir kind s => ?_⟩
  · intro found missed hsound
    have hbad : found.filter (fun l => !(s.mapEntry l).checkGood) = [] :=
      List.filter_eq_nil_iff.mpr fun l hl => by simp [hsound l hl]
    have hgood : found.filter (fun l => (s.mapEntry l).checkGood) = found := List.filter_eq_self.mpr hsound
    refine ⟨fun hnone => ?_, fun l rest hfound => ⟨fun hdiffer => ?_, fun hagree => ?_⟩⟩
    · exact lookup_of_matches hbad (hgood.trans hnone) rfl kind
    · exact lookup_of_matches hbad (hgood.trans hfound)
        ((resolve_cons dir (fun x => (s.mapEntry x).fields) l rest).trans (if_pos hdiffer)) kind
    · have hresolve := (resolve_cons dir (fun x => (s.mapEntry x).fields) l rest).trans (if_neg (by grind))
      refine ⟨fun hdir => ?_, fun hdir => ?_⟩
      · rw [if_neg hdir] at hresolve
        exact lookup_of_matches hbad (hgood.trans hfound) hresolve kind
      · rw [if_pos hdir] at hresolve
        rw [lookup_of_matches hbad hgood (hfound ▸ hresolve) kind]
        exact ⟨rfl, fun x => mapEntry_setUsedAll found x s, mapsFrom_setUsedAll s found s⟩
  · intro f found good look l others hbad detail logged missed
    obtain ⟨⟨r, multi⟩, hr⟩ : ∃ x, resolve dir (good.map fun l => (l, f l)) = x := ⟨_, rfl⟩
    have hlook : look = _ := lookup_of_matches hbad rfl hr kind
    have hdisj : ∀ x ∈ l :: others, x ∉ good := fun x hx hg => by
      rw [← hbad, List.mem_filter] at hx
      rw [List.mem_filter] at hg
      simp [hg.2] at hx
    rw [hlook]
    refine ⟨rfl, rfl, fun hnone => ?_, fun g rest hgood => ?_, fun x => ?_, ?_⟩
    · rw [hnone] at hr
      exact (congrArg Prod.fst hr).symm
    · rw [hgood, resolve_cons] at hr
      exact (congrArg Prod.fst hr).symm.trans (apply_ite Prod.fst _ _ _)
    · rw [← mapEntry_lookupMaps hdisj]
      dsimp only
      split
      · rw [mapEntry_captureMiss, mapEntry_lookupLog]
      · rw [mapEntry_lookupLog]
    · have hmaps : s.mapsFrom (lookupLog k kind (l :: others) multi (lookupMaps (l :: others) good r s)) = logged := by
        rw [lookupLog_failing, mapsFrom_logFault, mapsFrom_lookupMaps]
        rfl
      change s.mapsFrom (ite _ _ _) = _
      rw [apply_ite s.mapsFrom, mapsFrom_captureMiss, hmaps]
      rfl

end Sys2Proof.Machine
end

section
/-! PROOFS. Operand words (R178): each reader of an operand by the number of words and the range of its word, and the operand words
that MAP_WRITE (R34), POINT_SET (R46), SCAN_SET (R61), CURVE_SET (R168), PLAN_SET (R85), LINE_SET (R179) and SUPPLY_SET (R102, R115)
do not accept. -/

namespace Sys2Proof.Machine

variable {ops : List Word} {α β : Type}

/-! ## The readers -/

theorem ite_bind_eq_none {c : Prop} [Decidable c] {a : α} {f : α → Option β} :
    ((if c then some a else none) >>= f) = none ↔ (c → f a = none) := by
  split <;> simp_all

theorem dite_bind_eq_none {c : Prop} [Decidable c] {a : c → α} {f : α → Option β} :
    ((if h : c then some (a h) else none) >>= f) = none ↔ ∀ h : c, f (a h) = none := by
  split <;> simp_all

theorem getElem?_eq_ite (i : Nat) : ops[i]? = if i < ops.length then some (ops.getD i 0) else none := by
  split
  · rw [List.getElem?_eq_getElem ‹_›, List.getD_eq_getElem _ _ ‹_›]
  · exact List.getElem?_eq_none (Nat.not_lt.mp ‹_›)

theorem opIn_eq_ite (i lo hi : Nat) : opIn ops i lo hi =
    if i < ops.length ∧ lo ≤ (ops.getD i 0).toNat ∧ (ops.getD i 0).toNat ≤ hi then some (ops.getD i 0).toNat else none := by
  rw [opIn, getElem?_eq_ite]
  by_cases h : i < ops.length <;> simp only [h, if_true, if_false, true_and, false_and]

theorem opFlag_eq_ite (i : Nat) : opFlag ops i =
    if i < ops.length ∧ (ops.getD i 0).toNat ≤ 1 then some ((ops.getD i 0).toNat == 1) else none := by
  rw [opFlag, opIn_eq_ite, apply_ite (Option.map _)]
  simp only [Nat.zero_le, true_and]
  rfl

theorem opIndex_eq_dite (n i first : Nat) : opIndex n ops i first =
    if h : i < ops.length ∧ first ≤ (ops.getD i 0).toNat ∧ (ops.getD i 0).toNat - first < n then
      some ⟨(ops.getD i 0).toNat - first, h.2.2⟩ else none := by
  rw [opIndex, getElem?_eq_ite]
  by_cases h : i < ops.length <;> simp only [h, if_true, if_false, true_and, false_and, dif_neg not_false]

theorem opIndex_eq_none_iff (n i first : Nat) : opIndex n ops i first = none ↔
    ¬ (i < ops.length ∧ first ≤ (ops.getD i 0).toNat ∧ (ops.getD i 0).toNat - first < n) := by
  rw [opIndex_eq_dite, dite_eq_right_iff]
  simp only [reduceCtorEq, imp_false]

theorem opPoint_eq_ite (i : Nat) : opPoint ops i =
    if i < ops.length ∧ (ops.getD i 0).toNat ≤ 256 then some (namedPoint (ops.getD i 0)) else none := by
  rw [opPoint, getElem?_eq_ite, namedPoint]
  by_cases h : i < ops.length
  · simp only [h, if_true, true_and]
    split
    · rw [if_pos (by omega)]
    · split
      · rw [if_pos (by omega)]
      · rw [if_neg (by omega)]
  · simp only [h, if_false, false_and]

theorem getElem?_bind_eq_none {i : Nat} {f : Word → Option α} :
    (ops[i]? >>= f) = none ↔ (i < ops.length → f (ops.getD i 0) = none) := by
  rw [getElem?_eq_ite, ite_bind_eq_none]

theorem opIn_bind_eq_none {i lo hi : Nat} {f : Nat → Option α} : (opIn ops i lo hi >>= f) = none ↔
    (i < ops.length ∧ lo ≤ (ops.getD i 0).toNat ∧ (ops.getD i 0).toNat ≤ hi → f (ops.getD i 0).toNat = none) := by
  rw [opIn_eq_ite, ite_bind_eq_none]

theorem opFlag_bind_eq_none {i : Nat} {f : Bool → Option α} : (opFlag ops i >>= f) = none ↔
    (i < ops.length ∧ (ops.getD i 0).toNat ≤ 1 → f ((ops.getD i 0).toNat == 1) = none) := by
  rw [opFlag_eq_ite, ite_bind_eq_none]

theorem opIndex_bind_eq_none {n i first : Nat} {f : Fin n → Option α} : (opIndex n ops i first >>= f) = none ↔
    ∀ h : i < ops.length ∧ first ≤ (ops.getD i 0).toNat ∧ (ops.getD i 0).toNat - first < n,
      f ⟨(ops.getD i 0).toNat - first, h.2.2⟩ = none := by
  rw [opIndex_eq_dite, dite_bind_eq_none]

theorem opPoint_bind_eq_none {i : Nat} {f : Option PointId → Option α} : (opPoint ops i >>= f) = none ↔
    (i < ops.length ∧ (ops.getD i 0).toNat ≤ 256 → f (namedPoint (ops.getD i 0)) = none) := by
  rw [opPoint_eq_ite, ite_bind_eq_none]

theorem opCheck_bind_eq_none {b : Bool} {f : Unit → Option α} : (opCheck b >>= f) = none ↔ (b = true → f () = none) :=
  ite_bind_eq_none

/-! ## The parses -/

theorem parseScan_eq_none_iff (ops : List Word) :
    let w := fun i : Nat => (ops.getD i 0).toNat
    parseScan ops = none ↔ ¬ (6 ≤ ops.length ∧ 1 ≤ w 0 ∧ w 0 ≤ 32 ∧ 1 ≤ w 1 ∧ w 1 ≤ 61 ∧ w 2 ≤ 15 ∧ 1 ≤ w 3 ∧ w 3 ≤ 8 ∧
      w 2 + w 3 ≤ 16 ∧ 1 ≤ w 4 ∧ w 4 ≤ 255 ∧ w 5 ≤ 1) := by
  simp only [parseScan, opIn_bind_eq_none, opIndex_bind_eq_none, opFlag_bind_eq_none, opCheck_bind_eq_none, reduceCtorEq,
    imp_false, ← not_and, decide_eq_true_eq]
  omega

theorem parsePlans_eq_none_iff (ops : List Word) :
    let w := fun i : Nat => (ops.getD i 0).toNat
    parsePlans ops = none ↔ ¬ (7 ≤ ops.length ∧ ∀ i ∈ [0, 1, 2, 3, 4, 5, 6], w i ≤ 3) := by
  simp only [parsePlans, opIn_bind_eq_none, reduceCtorEq, imp_false, ← not_and, List.mem_cons, List.not_mem_nil, or_false,
    forall_eq_or_imp, forall_eq]
  omega

theorem parseLine_eq_none_iff (ops : List Word) :
    let w := fun i : Nat => (ops.getD i 0).toNat
    parseLine ops = none ↔ ¬ (4 ≤ ops.length ∧ 2 ≤ w 0 ∧ w 0 ≤ 50 ∧ 1 ≤ w 1 ∧ w 1 ≤ 60 ∧ 250 ≤ w 2 ∧ w 2 ≤ 2000 ∧
      w 2 % 250 = 0 ∧ w 3 ≤ 1) := by
  simp only [parseLine, opIn_bind_eq_none, opFlag_bind_eq_none, opCheck_bind_eq_none, reduceCtorEq, imp_false, ← not_and,
    beq_iff_eq]
  omega

theorem parseCurve_eq_none_iff (ops : List Word) :
    let w := fun i : Nat => (ops.getD i 0).toNat
    parseCurve ops = none ↔ ¬ (3 ≤ ops.length ∧ w 0 ≤ 3 ∧ w 1 ≤ 7 ∧ w 2 ≤ 1 ∧ (w 2 = 1 → 5 ≤ ops.length ∧ w 4 ≤ 100)) := by
  have hx := (ops.getD 3 0).isLt
  simp only [parseCurve, opIndex_bind_eq_none, opFlag_bind_eq_none, beq_iff_eq]
  split
  · simp only [opIn_bind_eq_none, reduceCtorEq, imp_false, ← not_and]
    omega
  · simp only [reduceCtorEq, imp_false, ← not_and]
    omega

theorem pointKindOf_ranged (n : Nat) : (pointKindOf n).ranged = true ↔ n = 1 ∨ n = 2 := by
  unfold pointKindOf
  split <;> simp_all [PointKind.ranged]

theorem pointKindOf_level (n : Nat) : pointKindOf n = .level ↔ n = 1 := by
  unfold pointKindOf
  split <;> simp_all

theorem parsePoint_eq_none_iff (ops : List Word) (old : PointId → PointCfg) :
    let w := fun i : Nat => (ops.getD i 0).toNat
    let signed := fun i : Nat => (ops.getD i 0).toInt
    parsePoint ops old = none ↔ ¬ (6 ≤ ops.length ∧ w 0 ≤ 255 ∧ w 1 ≤ 5 ∧ w 2 ≤ 255 ∧
      (w 1 = 1 ∨ w 1 = 2 → signed 3 ≤ signed 4) ∧ (w 1 = 1 → w 5 ≤ 1)) := by
  simp only [parsePoint, opIn_bind_eq_none, opIndex_bind_eq_none, opCheck_bind_eq_none, getElem?_bind_eq_none, reduceCtorEq,
    imp_false, ← not_and, Bool.or_eq_true, Bool.not_eq_true', Bool.eq_false_iff, ne_eq, pointKindOf_ranged, beq_iff_eq,
    pointKindOf_level, decide_eq_true_eq]
  omega

theorem samePoint_namedPoint (a b : Word) : samePoint (namedPoint a) (namedPoint b) = true ↔ a.toNat = b.toNat ∧ a.toNat < 256 := by
  unfold namedPoint
  split <;> split <;> simp [samePoint] <;> omega

theorem parseSupply_eq_none_iff (ops : List Word) :
    let w := fun i : Nat => (ops.getD i 0).toNat
    parseSupply ops = none ↔ ¬ (8 ≤ ops.length ∧ (∀ i ∈ [0, 1, 2, 6], w i ≤ 256) ∧ 100 ≤ w 5 ∧ w 5 ≤ 600 ∧ 1 ≤ w 7 ∧ w 7 ≤ 60 ∧
      (w 0 = w 1 → w 0 = 256) ∧ (w 0 = w 2 → w 0 = 256) ∧ (w 1 = w 2 → w 1 = 256)) := by
  have hmains := (ops.getD 3 0).isLt
  have hgenerator := (ops.getD 4 0).isLt
  simp only [parseSupply, opIn_bind_eq_none, opPoint_bind_eq_none, opCheck_bind_eq_none, reduceCtorEq, imp_false, ← not_and,
    distinctPoints, List.all_cons, List.all_nil, Bool.and_eq_true, Bool.not_eq_true', Bool.eq_false_iff, ne_eq,
    samePoint_namedPoint, and_true, List.mem_cons, List.not_mem_nil, or_false,
    forall_eq_or_imp, forall_eq]
  omega

/-- The KEY that operand words spell (R40). -/
def keyOf (plan station channel : Word) : Key :=
  { plan := plan.setWidth 2, station := station.setWidth 6, channel := channel.setWidth 4 }

theorem parseKey_eq_ite (ops : List Word) (i : Nat) :
    let w := fun i : Nat => (ops.getD i 0).toNat
    parseKey ops i = if i + 2 < ops.length ∧ w i ≤ 3 ∧ 1 ≤ w (i + 1) ∧ w (i + 1) ≤ 61 ∧ w (i + 2) ≤ 15 then
      some (keyOf (ops.getD i 0) (ops.getD (i + 1) 0) (ops.getD (i + 2) 0)) else none := by
  dsimp only
  split
  · rw [parseKey, opIn_eq_ite, if_pos (by omega), opIn_eq_ite, opIn_eq_ite]
    simp only [Option.bind_eq_bind, Option.bind_some]
    rw [if_pos (by omega), Option.bind_some, if_pos (by omega), Option.bind_some]
    simp only [BitVec.ofNat_toNat]
    rfl
  · simp only [parseKey, opIn_bind_eq_none, reduceCtorEq, imp_false, ← not_and]
    omega

/-- The entry that a MAP_WRITE with valid 1 spells (R34). -/
def writtenFields (flags : Word) (k : Key) (point : Word) : MapFields :=
  { valid := true, isGlobal := flags.getLsbD 1, lock := flags.getLsbD 2
    direction := if flags.getLsbD 3 = true then .command else .sample
    plan := if flags.getLsbD 1 = true then 0 else k.plan, station := k.station, channel := k.channel, point := point.setWidth 8 }

theorem parseFields_eq_ite (flags : Word) (ops : List Word) :
    let w := fun i : Nat => (ops.getD i 0).toNat
    parseFields flags ops = if 8 ≤ ops.length ∧ w 4 ≤ 3 ∧ 1 ≤ w 5 ∧ w 5 ≤ 61 ∧ w 6 ≤ 15 ∧ w 7 ≤ 255 then
      some (writtenFields flags (keyOf (ops.getD 4 0) (ops.getD 5 0) (ops.getD 6 0)) (ops.getD 7 0)) else none := by
  intro w
  have hkey := parseKey_eq_ite ops 4
  simp only [Nat.reduceAdd] at hkey
  by_cases h : 8 ≤ ops.length ∧ w 4 ≤ 3 ∧ 1 ≤ w 5 ∧ w 5 ≤ 61 ∧ w 6 ≤ 15 ∧ w 7 ≤ 255
  · obtain ⟨hlen, hplan, hlo, hhi, hchannel, hpoint⟩ := h
    rw [if_pos ⟨by omega, hplan, hlo, hhi, hchannel⟩] at hkey
    rw [if_pos ⟨hlen, hplan, hlo, hhi, hchannel, hpoint⟩, parseFields, hkey, opIn_eq_ite, if_pos ⟨by omega, by omega, hpoint⟩]
    simp only [Option.bind_eq_bind, Option.bind_some, BitVec.ofNat_toNat]
    rfl
  · rw [if_neg h, parseFields, hkey]
    simp only [ite_bind_eq_none, opIn_bind_eq_none, reduceCtorEq, imp_false, ← not_and]
    simp only [w] at h
    omega

theorem getLsbD_zero_iff (n : Nat) : (BitVec.ofNat 16 n).getLsbD 0 = true ↔ n % 2 = 1 := by
  rw [BitVec.getLsbD_ofNat, Nat.testBit_zero]
  simp

theorem parseMapWrite_eq_none_iff (ops : List Word) :
    let w := fun i : Nat => (ops.getD i 0).toNat
    parseMapWrite ops = none ↔ ¬ (8 ≤ ops.length ∧ w 0 ≤ 3 ∧ w 3 ≤ 15 ∧ (w 0 = 0 → w 1 ≤ 15) ∧ (w 0 = 2 → w 1 ≤ 127 ∧ w 2 ≤ 1) ∧
      (w 0 = 1 ∨ w 0 = 3 → w 3 % 2 = 1) ∧ (w 3 % 2 = 1 → w 4 ≤ 3 ∧ 1 ≤ w 5 ∧ w 5 ≤ 61 ∧ w 6 ≤ 15 ∧ w 7 ≤ 255)) := by
  simp only [parseMapWrite, opCheck_bind_eq_none, opIn_bind_eq_none, parseFields_eq_ite, getLsbD_zero_iff, decide_eq_true_eq]
  generalize (ops.getD 0 0).toNat = target
  split
  · simp only [ite_bind_eq_none]
    split
    all_goals
      simp only [opIndex_bind_eq_none, reduceCtorEq, imp_false, ← not_and]
      grind
  · split
    all_goals
      simp only [opIndex_bind_eq_none, Option.map_eq_none_iff, opIndex_eq_none_iff, reduceCtorEq, imp_false, ← not_and]
      grind

end Sys2Proof.Machine
end

section
/-! PROOFS. Where an operation is turned away (R34, R46, R61, R85, R102, R115, R168, R177, R178, R179, R185). -/

namespace Sys2Proof.Machine

variable {s t : State} {c : Instr} {tag : Tag} {ops : List Word}

theorem State.Taking.atRest (h : s.Taking) : s.AtRest := h.1

theorem State.Altering.atRest (h : s.Altering) : s.AtRest := h.1.atRest

/-! ## BUSY -/

/-- What a management command answers is what the operation of its frame does, at rest. -/
theorem exec_management {f : Frame} {op : Word} (hwf : c.wellFormed = true) (hc : commandFrame c = some f)
    (hf : f.payload = op :: ops) (h : manage f.tag op ops s = t) (ht : t.AtRest) : exec c s = .next t := by
  obtain ⟨tag, op', ops', rfl, hexec⟩ := exec_eq_manage hwf hc
  obtain ⟨rfl, rfl⟩ := List.cons.inj hf
  exact exec_of_rest ((hexec s).trans (congrArg (fun t => Host.Outcome.next (quiesce t)) h)) ht

theorem managePumpSet_eq_configure (tag : Tag) (ops : List Word) (s : State) :
    ∃ op, managePumpSet tag ops s = configure tag 21 op s := by
  unfold managePumpSet
  split
  · split
    · exact ⟨_, rfl⟩
    · exact ⟨_, rfl⟩
  · exact ⟨_, rfl⟩

theorem manageRecordGet_of_restart (h : s.mgu.restart ≠ .none) (tag : Tag) (ops : List Word) :
    manageRecordGet tag ops s = answer tag 32 1 [] s := by
  unfold manageRecordGet
  split
  · exact if_pos (.inl h)
  · split
    all_goals exact if_pos (.inl h)

/-- Every operation is answered BUSY while a RESTART is pending (R185). -/
theorem manage_of_restart (h : s.mgu.restart ≠ .none) (tag : Tag) (op : Word) (ops : List Word) :
    manage tag op ops s = answer tag op.toNat 1 [] s := by
  obtain ⟨pump, hpump⟩ := managePumpSet_eq_configure tag ops s
  unfold manage
  split
  case h_12 hop => exact hop ▸ hpump.trans (if_pos (.inl h))
  case h_21 hop => exact hop ▸ manageRecordGet_of_restart h ..
  case h_36 => exact if_pos (.inl h)
  all_goals
    rename_i hop
    rw [hop]
    exact if_pos (.inl h)

/-- An operation that alters the stored image, STORE_COMMIT and RESTART are answered BUSY with a commit in flight (R178). -/
theorem manage_of_commit {op : Word} (h : s.mgu.commit.isSome = true)
    (hop : op.toNat ∈ [1, 3, 4, 5, 16, 18, 21, 22, 23, 24, 25, 26, 27, 28, 29, 57, 58]) (tag : Tag) (ops : List Word) :
    manage tag op ops s = answer tag op.toNat 1 [] s := by
  obtain ⟨pump, hpump⟩ := managePumpSet_eq_configure tag ops s
  simp only [List.mem_cons, List.not_mem_nil, or_false] at hop
  rcases hop with hop | hop | hop | hop | hop | hop | hop | hop | hop | hop | hop | hop | hop | hop | hop | hop | hop
  all_goals rw [manage, hop]
  case inr.inr.inr.inr.inr.inr.inl => exact hpump.trans (if_pos (.inr ⟨rfl, h⟩))
  all_goals exact if_pos (.inr ⟨rfl, h⟩)

/-- SUMP_SET and GEOMETRY_SET are answered BUSY with a commit in flight and no cycle (R66, R178). -/
theorem manage_of_commit_sump {op : Word} (hr : s.mgu.restart = .none) (h : s.mgu.commit.isSome = true) (hop : op.toNat ∈ [19, 20])
    (hcycle : s.sau.cycle = none) (tag : Tag) (ops : List Word) : manage tag op ops s = answer tag op.toNat 1 [] s := by
  have htake : ∀ (code : Nat) (act : State → State), takeOp tag code false act s = act s := fun code act => if_neg (by simp [hr])
  simp only [List.mem_cons, List.not_mem_nil, or_false] at hop
  rcases hop with hop | hop
  · rw [manage, hop]
    simp only [manageSumpSet, htake, hcycle, takeSumpSet, h, if_true]
    rfl
  · rw [manage, hop]
    simp only [manageGeometrySet, htake, hcycle, takeGeometrySet, h, if_true]
    rfl

/-! ## RANGE -/

theorem exec_configure {code : Nat} {op : State → Nat × State} (hs : s.Altering)
    (hc : exec c s = .next (quiesce (configure tag code op s))) {status : Nat} (h : op s = (status, s)) :
    exec c s = .next (answer tag code status [] s) := by
  refine exec_of_rest (hc.trans (congrArg (fun t => Host.Outcome.next (quiesce t)) ?_)) (answer_atRest hs.atRest ..)
  rw [configure_of_altering hs, h]

theorem exec_alterMaps {code status : Nat} {op : State → Nat × List Word × State} {data : List Word} (hs : s.Altering)
    (hc : exec c s = .next (quiesce (alterMaps tag code op s))) (h : op s = (status, data, t)) (ht : t.AtRest) :
    exec c s = .next (answer tag code status data t) := by
  refine exec_of_rest (hc.trans (congrArg (fun t => Host.Outcome.next (quiesce t)) ?_)) (answer_atRest ht ..)
  rw [alterMaps, takeOp_of_altering hs, h]
  rfl

theorem takeSumpSet_range (hcommit : s.mgu.commit = none) (h : parseSump ops = none) (tag : Tag) :
    takeSumpSet tag ops s = answer tag 19 2 [] s := by
  rw [takeSumpSet, hcommit, sumpSetOp, h]
  rfl

theorem takeGeometrySet_range (hcommit : s.mgu.commit = none) (h : parseGeometry ops = none) (tag : Tag) :
    takeGeometrySet tag ops s = answer tag 20 2 [] s := by
  rw [takeGeometrySet, hcommit, geometrySetOp, h]
  rfl

/-- A SUMP_SET or GEOMETRY_SET that no cycle defers (R66). -/
theorem exec_undeferred {code : Nat} {defer take : State → State} (hs : s.Taking) (hcycle : s.sau.cycle = none)
    (hc : exec c s = .next (quiesce (takeOp tag code false (fun s => if s.sau.cycle.isSome then defer s else take s) s)))
    (h : take s = t) (ht : t.AtRest) : exec c s = .next t := by
  refine exec_of_rest (hc.trans (congrArg (fun t => Host.Outcome.next (quiesce t)) ?_)) ht
  rw [takeOp_of_taking hs, hcycle]
  exact h

/-- A PUMP_SET whose first word is not 0 is one of a pump record (R129, R130). -/
theorem managePumpSet_record (h : ops.head? ≠ some 0) (tag : Tag) (s : State) :
    managePumpSet tag ops s = configure tag 21 (pumpSetOp ops) s := by
  cases ops with
  | nil => rfl
  | cons w rest => exact if_neg fun hw => h (congrArg some hw)

/-- Settles O44: BUSY by `manage_of_restart`, `manage_of_commit` and `manage_of_commit_sump`, the operand words by the parses. -/
theorem operationsTurnedAway : Obligations.OperationsTurnedAway := by
  refine ⟨fun c f op ops s hs hwf hc hf => ⟨fun hr => ?_, fun hr hcommit hop => ?_⟩, fun tag s hs => ⟨fun op _ => ?_,
    fun ops hcommit => ?_⟩⟩
  · exact exec_management hwf hc hf (manage_of_restart hr ..) (answer_atRest hs ..)
  · refine exec_management hwf hc hf ?_ (answer_atRest hs ..)
    exact hop.elim (fun h => manage_of_commit hcommit h ..) fun ⟨h, hcycle⟩ => manage_of_commit_sump hr hcommit h hcycle ..
  · exact exec_of_rest (congrArg (fun t => Host.Outcome.next (quiesce t)) (takeOp_of_taking hs tag op.toNat _))
      (answer_atRest hs.atRest ..)
  · have ha : s.Altering := ⟨hs, hcommit⟩
    exact ⟨fun h => exec_configure ha rfl (by rw [pointSetOp, h]; rfl),
      fun h => exec_configure ha rfl (by rw [scanSetOp, h]; rfl),
      fun h hcycle => exec_undeferred hs hcycle rfl (takeSumpSet_range hcommit h tag) (answer_atRest hs.atRest ..),
      fun h hcycle => exec_undeferred hs hcycle rfl (takeGeometrySet_range hcommit h tag) (answer_atRest hs.atRest ..),
      fun h hw => exec_configure (c := .pumpSet tag ops) ha
        (congrArg (fun t => Host.Outcome.next (quiesce t)) (managePumpSet_record hw tag s)) (by rw [pumpSetOp, h]; rfl),
      fun h => exec_configure ha rfl (by rw [pumpingSetOp, h]; rfl),
      fun h => exec_configure ha rfl (by rw [barrierSetOp, h]; rfl),
      fun h => exec_configure ha rfl (by rw [gateSetOp, h]; rfl),
      fun h => exec_configure ha rfl (by rw [zoneSetOp, h]; rfl),
      fun h => exec_configure ha rfl (by rw [curveSetOp, h]; rfl),
      fun h => exec_configure ha rfl (by rw [planSetOp, h]; rfl),
      fun h => exec_configure ha rfl (by rw [supplySetOp, h]; rfl),
      fun h => exec_configure ha rfl (by rw [lineSetOp, h]; rfl),
      fun h => exec_alterMaps ha rfl (by rw [mapWriteOp, h]; rfl) hs.atRest,
      parsePoint_eq_none_iff .., parseScan_eq_none_iff .., parseCurve_eq_none_iff .., parsePlans_eq_none_iff ..,
      parseSupply_eq_none_iff .., parseLine_eq_none_iff .., parseMapWrite_eq_none_iff ..⟩

end Sys2Proof.Machine
end

section
/-! PROOFS. MAP_READ, MISS_GET and FAULT_GET (R33, R39, R44). -/

namespace Sys2Proof.Machine

variable {s t : State} {c : Instr} {tag : Tag}

theorem exec_read {code status : Nat} {op : State → Nat × List Word × State} {data : List Word} (hs : s.Taking)
    (hc : exec c s = .next (quiesce (takeOp tag code false (fun s => replyData tag code (op s)) s)))
    (h : op s = (status, data, t)) (ht : t.AtRest) : exec c s = .next (answer tag code status data t) := by
  refine exec_of_rest (hc.trans (congrArg (fun t => Host.Outcome.next (quiesce t)) ?_)) (answer_atRest ht ..)
  rw [takeOp_of_taking hs, h]
  rfl

/-! ## MAP_READ -/

/-- One flag of a packed word. -/
def flagBit (n : Nat) (c : Bool) : Word := if c = true then BitVec.ofNat 16 (2 ^ n) else 0

theorem flagBit_false (n : Nat) : flagBit n false = 0#16 := rfl

theorem flagWord_eq_foldl (bits : List (Nat × Bool)) : flagWord bits = bits.foldl (fun w x => w ||| flagBit x.1 x.2) 0#16 := by
  have hshift : ∀ n : Nat, 1#16 <<< n = BitVec.ofNat 16 (2 ^ n) := fun n =>
    BitVec.eq_of_toNat_eq (by simp [BitVec.toNat_shiftLeft, Nat.shiftLeft_eq])
  refine congrArg (fun f => bits.foldl f 0) (funext fun w => funext fun x => ?_)
  rw [flagBit, hshift]
  split
  · rfl
  · exact BitVec.or_zero.symm

theorem parseMapRead_eq_none_iff (ops : List Word) :
    let w := fun i : Nat => (ops.getD i 0).toNat
    parseMapRead ops = none ↔ ¬ (3 ≤ ops.length ∧ w 0 ≤ 1 ∧ (w 0 = 0 → w 1 ≤ 15) ∧ (w 0 = 1 → w 1 ≤ 127 ∧ w 2 ≤ 1)) := by
  simp only [parseMapRead, opCheck_bind_eq_none, opIn_bind_eq_none, decide_eq_true_eq]
  split
  all_goals
    simp only [opIndex_bind_eq_none, Option.map_eq_none_iff, opIndex_eq_none_iff, reduceCtorEq, imp_false, ← not_and]
    omega

theorem parseMapRead_pinned {a : Word} {i : Fin 16} (ha : a.toNat = i.val) (b : Word) (more : List Word) :
    parseMapRead (0 :: a :: b :: more) = some (.pinned i) := by
  rw [parseMapRead, opIn_eq (w := 0) rfl (by decide) (by decide), opIndex_eq (first := 0) (w := a) (k := i) rfl ha]
  simp [opCheck]

theorem parseMapRead_set {a b : Word} {i : Fin 128} {w : Fin 2} (ha : a.toNat = i.val) (hb : b.toNat = w.val) (more : List Word) :
    parseMapRead (1 :: a :: b :: more) = some (.setMap i w) := by
  rw [parseMapRead, opIn_eq (w := 1) rfl (by decide) (by decide), opIndex_eq (first := 0) (w := a) (k := i) rfl ha,
    opIndex_eq (first := 0) (w := b) (k := w) rfl hb]
  simp [opCheck]

theorem exec_mapRead {ops : List Word} {l : MapLoc} (hs : s.Taking) (h : parseMapRead ops = some l) :
    exec (.mapRead tag ops) s = .next (answer tag 2 0 (mapReadWords s l) s) :=
  exec_read hs rfl (by rw [mapReadOp, h]; rfl) hs.atRest

theorem exec_mapRead_range {ops : List Word} (hs : s.Taking) (h : parseMapRead ops = none) :
    exec (.mapRead tag ops) s = .next (answer tag 2 2 [] s) :=
  exec_read hs rfl (by rw [mapReadOp, h]; rfl) hs.atRest

/-- Settles O25: the flags by `flagWord_eq_foldl`, the ranges by `parseMapRead_eq_none_iff`. -/
theorem mapRead : Obligations.MapRead := by
  refine fun tag map a b more s hs => ⟨fun hmap i ha => ?_, fun hmap i w ha hb => ?_, fun hrange => ?_, fun few hfew => ?_⟩
  · rw [hmap, exec_mapRead hs (parseMapRead_pinned ha b more), mapReadWords, mapFlags, flagWord_eq_foldl]
    simp only [List.foldl_cons, List.foldl_nil, BitVec.zero_or, Bool.true_and]
    rfl
  · rw [hmap, exec_mapRead hs (parseMapRead_set ha hb more), mapReadWords, mapFlags, flagWord_eq_foldl]
    simp only [List.foldl_cons, List.foldl_nil, BitVec.zero_or, Bool.false_and, flagBit_false, BitVec.or_zero]
    rfl
  · refine exec_mapRead_range hs ((parseMapRead_eq_none_iff _).mpr fun ⟨_, hmap, hslot, hway⟩ => ?_)
    simp only [List.getD_cons_zero, List.getD_cons_succ] at hmap hslot hway
    obtain h | ⟨rfl, h⟩ | ⟨rfl, h⟩ := hrange
    · omega
    · exact absurd (hslot rfl) (Nat.not_le.mpr h)
    · have := hway rfl
      omega
  · exact exec_mapRead_range hs ((parseMapRead_eq_none_iff few).mpr fun ⟨hlen, _⟩ => by omega)

/-! ## MISS_GET and FAULT_GET -/

theorem exec_missGet {ops : List Word} {clear : Bool} (hs : s.Taking) (h : opFlag ops 0 = some clear) :
    exec (.missGet tag ops) s =
      .next (answer tag 6 0 (missWords s.pmu.miss) (if clear = true then s.modPmu fun m => { m with miss := {} } else s)) :=
  exec_read hs rfl (by rw [missGetOp, h]; rfl) (by split <;> exact hs.atRest)

theorem exec_faultGet {ops : List Word} {clear : Bool} (hs : s.Taking) (h : opFlag ops 0 = some clear) :
    exec (.faultGet tag ops) s = .next (answer tag 33 0 (faultWords s)
      (if clear = true then s.modPmu fun m => { m with fault := { m.fault with fv := false, ow := false } } else s)) :=
  exec_read hs rfl (by rw [faultGetOp, h]; rfl) (by split <;> exact hs.atRest)

theorem exec_reads_range {ops : List Word} (hs : s.Taking) (h : opFlag ops 0 = none) :
    exec (.missGet tag ops) s = .next (answer tag 6 2 [] s) ∧ exec (.faultGet tag ops) s = .next (answer tag 33 2 [] s) :=
  ⟨exec_read hs rfl (by rw [missGetOp, h]; rfl) hs.atRest, exec_read hs rfl (by rw [faultGetOp, h]; rfl) hs.atRest⟩

/-- Settles O26. -/
theorem missAndFaultReads : Obligations.MissAndFaultReads := by
  refine fun tag clear more s hs => ⟨fun hclear => ?_, fun hclear => exec_reads_range hs ?_, exec_reads_range hs rfl⟩
  · have hflag : opFlag (clear :: more) 0 = some (clear == 1) := opFlag_eq rfl hclear
    rw [exec_missGet hs hflag, exec_faultGet hs hflag]
    simp only [beq_iff_eq]
    exact ⟨rfl, rfl⟩
  · rw [opFlag_eq_ite]
    exact if_neg fun h => Nat.not_le.mpr hclear h.2

end Sys2Proof.Machine
end

section
/-! PROOFS. What the maps hold after an explicit write (R35, R36) and after automatic placement (R37, R38). -/

namespace Sys2Proof.Machine

variable {s t : State} {tag : Tag}

/-! ## States that differ in one map alone -/

/-- The state t with the Pinned Map of s. -/
def State.pinnedFrom (s t : State) : State := { t with pmu := { t.pmu with pinned := s.pmu.pinned } }

/-- The state t with the Set Map of s. -/
def State.setsFrom (s t : State) : State := { t with pmu := { t.pmu with sets := s.pmu.sets } }

theorem atRest_of_pmu {m : Pmu} (h : { t with pmu := m } = s) (hs : s.AtRest) : t.AtRest := by
  rw [← h] at hs
  exact hs

/-! ## Explicit writes -/

/-- A Pinned slot holds a valid entry of the same key as new fields (R26). -/
def State.slotHasKey (s : State) (f : MapFields) (i : Fin 16) : Bool :=
  (s.mapEntry (.pinned i)).fields.valid && (s.mapEntry (.pinned i)).fields.sameKey f

theorem slotHasKey_iff {f : MapFields} {i : Fin 16} : s.slotHasKey f i = true ↔
    (s.mapEntry (.pinned i)).fields.valid = true ∧ (s.mapEntry (.pinned i)).fields.sameKey f = true := Bool.and_eq_true_iff

theorem sameSlots_eq (s : State) (f : MapFields) : s.sameSlots f = pinnedSlots.filter (s.slotHasKey f) := rfl

theorem pinnedFrom_writePinned (i : Fin 16) (f : MapFields) (s : State) : s.pinnedFrom (writePinned i f s) = s :=
  foldl_field s.pinnedFrom (g := fun s j => invalidate (.pinned j) s) (fun _ _ => rfl) _ s

theorem mapEntry_writePinned (i j : Fin 16) (f : MapFields) (s : State) : (writePinned i f s).mapEntry (.pinned j) =
    if j = i then .written f true
    else if (s.mapEntry (.pinned j)).fields.valid = true ∧ (s.mapEntry (.pinned j)).fields.sameKey f = true then
      (s.mapEntry (.pinned j)).invalidated
    else s.mapEntry (.pinned j) := by
  have hfold : ∀ l : List (Fin 16), l.foldl (fun s j => invalidate (.pinned j) s) s =
      (l.map MapLoc.pinned).foldl (fun s l => invalidate l s) s := fun l => by rw [List.foldl_map]
  rw [writePinned, hfold, mapEntry_putEntry, mapEntry_invalidateAll]
  by_cases hj : j = i
  · simp [hj]
  · simp [hj, sameSlots_eq, mem_pinnedSlots, slotHasKey_iff]

theorem setsFrom_writeSet (i : Fin 128) (w : Fin 2) (f : MapFields) (s : State) : s.setsFrom (writeSet i w f s) = s := by
  unfold writeSet
  dsimp only
  split
  · rfl
  · rfl

theorem mapEntry_writeSet (i j : Fin 128) (w v : Fin 2) (f : MapFields) (s : State) :
    let other := s.mapEntry (.setMap i (1 - w))
    (writeSet i w f s).mapEntry (.setMap j v) =
      if j = i ∧ v = w then .written f true
      else if j = i ∧ other.fields.valid = true ∧ other.fields.sameKey f = true then other.invalidated
      else s.mapEntry (.setMap j v) := by
  intro other
  have hway : v = 1 - w ↔ v ≠ w := by omega
  rw [writeSet, mapEntry_putEntry]
  by_cases hself : j = i ∧ v = w
  · rw [if_pos hself, if_pos (by rw [hself.1, hself.2])]
  · rw [if_neg hself, if_neg (by rwa [MapLoc.setMap.injEq]), apply_ite (fun t : State => t.mapEntry (.setMap j v)), invalidate,
      mapEntry_putEntry]
    by_cases hset : j = i
    · have hv : v = 1 - w := hway.mpr fun hv => hself ⟨hset, hv⟩
      subst hset hv
      simp only [if_true, true_and, Bool.and_eq_true]
      rfl
    · simp [hset]

/-! ## Automatic placement -/

/-- The slots before and after a slot, in order. -/
theorem pinnedSlots_split : ∀ i : Fin 16, pinnedSlots = pinnedSlots.take i ++ i :: pinnedSlots.drop (i + 1) := by decide
theorem mem_take_pinnedSlots : ∀ i : Fin 16, ∀ j ∈ pinnedSlots.take i, j < i := by decide
theorem not_mem_drop_pinnedSlots : ∀ i : Fin 16, i ∉ pinnedSlots.drop (i + 1) := by decide

/-- The first slot of a condition: the condition holds of it and of no slot before it. -/
def FirstSlot (P : Fin 16 → Prop) (i : Fin 16) : Prop := P i ∧ ∀ j, j < i → ¬ P j

theorem find?_pinnedSlots {p : Fin 16 → Bool} {P : Fin 16 → Prop} {i : Fin 16} (hp : ∀ j, p j = true ↔ P j) (h : FirstSlot P i) :
    pinnedSlots.find? p = some i :=
  List.find?_eq_some_iff_append.mpr ⟨(hp i).mpr h.1, _, _, pinnedSlots_split i, fun j hj => by
    simpa using mt (hp j).mp (h.2 j (mem_take_pinnedSlots i j hj))⟩

theorem find?_pinnedSlots_none {p : Fin 16 → Bool} {P : Fin 16 → Prop} (hp : ∀ j, p j = true ↔ P j) (h : ∀ i, ¬ P i) :
    pinnedSlots.find? p = none :=
  List.find?_eq_none.mpr fun i _ => mt (hp i).mp (h i)

theorem sameSlots_first {f : MapFields} {i : Fin 16} (h : FirstSlot (fun i => s.slotHasKey f i = true) i) :
    s.sameSlots f = i :: (s.sameSlots f).filter fun j => !(j == i) := by
  have hbefore : (pinnedSlots.take i).filter (s.slotHasKey f) = [] :=
    List.filter_eq_nil_iff.mpr fun j hj => h.2 j (mem_take_pinnedSlots i j hj)
  have hslots : s.sameSlots f = i :: (pinnedSlots.drop (i + 1)).filter (s.slotHasKey f) := by
    rw [sameSlots_eq]
    conv_lhs => rw [pinnedSlots_split i]
    rw [List.filter_append, hbefore, List.nil_append, List.filter_cons_of_pos h.1]
  have hrest : ∀ j ∈ (pinnedSlots.drop (i + 1)).filter (s.slotHasKey f), (!(j == i)) = true := fun j hj => by
    have hne : j ≠ i := fun hji => not_mem_drop_pinnedSlots i (hji ▸ (List.mem_filter.mp hj).1)
    simpa using hne
  rw [hslots, List.filter_cons_of_neg (by simp), List.filter_eq_self.mpr hrest]

theorem sameSlots_none {f : MapFields} (h : ∀ i, ¬ s.slotHasKey f i = true) : s.sameSlots f = [] :=
  List.filter_eq_nil_iff.mpr fun i _ => h i

/-- A slot of the same key takes the new entry as an explicit write does (R35, R38). -/
theorem placePinned_same {f : MapFields} {i : Fin 16} (h : FirstSlot (fun i => s.slotHasKey f i = true) i) :
    placePinned f s = some (.pinned i, writePinned i f s) := by
  rw [placePinned, sameSlots_first h]
  rfl

/-- The state with the used flag of every unlocked Pinned entry cleared (R38). -/
def State.unusePins (s : State) : State :=
  s.modPmu fun m => { m with pinned := m.pinned.map fun e => if e.fields.lock then e else { e with used := false } }

/-! The searches of R38. -/

theorem find?_invalid {i : Fin 16} (h : FirstSlot (fun i => (s.mapEntry (.pinned i)).fields.valid = false) i) :
    (pinnedSlots.find? fun i => !(Tab.get s.pmu.pinned i).fields.valid) = some i :=
  find?_pinnedSlots (fun _ => by simp [State.mapEntry]) h

theorem find?_invalid_none (h : ∀ i, (s.mapEntry (.pinned i)).fields.valid = true) :
    (pinnedSlots.find? fun i => !(Tab.get s.pmu.pinned i).fields.valid) = none :=
  find?_pinnedSlots_none (fun _ => Iff.rfl) fun i => by simpa [State.mapEntry] using h i

theorem find?_unused {i : Fin 16}
    (h : FirstSlot (fun i => (s.mapEntry (.pinned i)).used = false ∧ (s.mapEntry (.pinned i)).fields.lock = false) i) :
    (pinnedSlots.find? fun i => !(Tab.get s.pmu.pinned i).used && !(Tab.get s.pmu.pinned i).fields.lock) = some i :=
  find?_pinnedSlots (fun _ => by simp [State.mapEntry]) h

theorem find?_unused_none (h : ∀ i, ¬ ((s.mapEntry (.pinned i)).used = false ∧ (s.mapEntry (.pinned i)).fields.lock = false)) :
    (pinnedSlots.find? fun i => !(Tab.get s.pmu.pinned i).used && !(Tab.get s.pmu.pinned i).fields.lock) = none :=
  find?_pinnedSlots_none (fun _ => by simp [State.mapEntry]) h

theorem find?_unlocked {i : Fin 16} (h : FirstSlot (fun i => (s.mapEntry (.pinned i)).fields.lock = false) i) :
    (pinnedSlots.find? fun i => !(Tab.get s.pmu.pinned i).fields.lock) = some i :=
  find?_pinnedSlots (fun _ => by simp [State.mapEntry]) h

theorem find?_unlocked_none (h : ∀ i, (s.mapEntry (.pinned i)).fields.lock = true) :
    (pinnedSlots.find? fun i => !(Tab.get s.pmu.pinned i).fields.lock) = none :=
  find?_pinnedSlots_none (fun _ => Iff.rfl) fun i => by simpa [State.mapEntry] using h i

section
variable {f : MapFields} {i : Fin 16} (hsame : ∀ i, ¬ s.slotHasKey f i = true)
include hsame

theorem placePinned_invalid (h : FirstSlot (fun i => (s.mapEntry (.pinned i)).fields.valid = false) i) :
    placePinned f s = some (.pinned i, s.putEntry (.pinned i) (.written f true)) := by
  rw [placePinned, sameSlots_none hsame]
  simp only [find?_invalid h]

variable (hvalid : ∀ i, (s.mapEntry (.pinned i)).fields.valid = true)
include hvalid

theorem placePinned_unused
    (h : FirstSlot (fun i => (s.mapEntry (.pinned i)).used = false ∧ (s.mapEntry (.pinned i)).fields.lock = false) i) :
    placePinned f s = some (.pinned i, s.putEntry (.pinned i) (.written f true)) := by
  rw [placePinned, sameSlots_none hsame]
  simp only [find?_invalid_none hvalid, find?_unused h]

variable (hused : ∀ i, ¬ ((s.mapEntry (.pinned i)).used = false ∧ (s.mapEntry (.pinned i)).fields.lock = false))
include hused

theorem placePinned_unlocked (h : FirstSlot (fun i => (s.mapEntry (.pinned i)).fields.lock = false) i) :
    placePinned f s = some (.pinned i, s.unusePins.putEntry (.pinned i) (.written f true)) := by
  rw [placePinned, sameSlots_none hsame]
  simp only [find?_invalid_none hvalid, find?_unused_none hused, find?_unlocked h]
  rfl

theorem placePinned_full (h : ∀ i, (s.mapEntry (.pinned i)).fields.lock = true) : placePinned f s = none := by
  rw [placePinned, sameSlots_none hsame]
  simp only [find?_invalid_none hvalid, find?_unused_none hused, find?_unlocked_none h]

end

/-! What the Pinned Map holds after the placement. -/

/-- The state t is the state s with a new entry in a Pinned slot: the other entries of its key are invalidated, and the others keep
their fields and check bits (R35, R38). -/
structure PlacedAt (s : State) (f : MapFields) (i : Fin 16) (t : State) : Prop where
  pinned : s.pinnedFrom t = s
  self : t.mapEntry (.pinned i) = .written f true
  same : ∀ j, j ≠ i → s.slotHasKey f j = true → t.mapEntry (.pinned j) = (s.mapEntry (.pinned j)).invalidated
  other : ∀ j, j ≠ i → ¬ s.slotHasKey f j = true →
    (t.mapEntry (.pinned j)).fields = (s.mapEntry (.pinned j)).fields ∧
      (t.mapEntry (.pinned j)).check = (s.mapEntry (.pinned j)).check

theorem writePinned_placed (i : Fin 16) (f : MapFields) (s : State) : PlacedAt s f i (writePinned i f s) where
  pinned := pinnedFrom_writePinned i f s
  self := (mapEntry_writePinned i i f s).trans (if_pos rfl)
  same j hj h := (mapEntry_writePinned i j f s).trans ((if_neg hj).trans (if_pos (slotHasKey_iff.mp h)))
  other j hj h := by
    rw [mapEntry_writePinned, if_neg hj, if_neg (mt slotHasKey_iff.mpr h)]
    exact ⟨rfl, rfl⟩

/-- Without an entry of the same key a put places the entry, in a state that differs from s in used flags alone. -/
theorem putEntry_placed {f : MapFields} {u : State} (hsame : ∀ i, ¬ s.slotHasKey f i = true) (hpinned : s.pinnedFrom u = s)
    (hu : ∀ j, (u.mapEntry (.pinned j)).fields = (s.mapEntry (.pinned j)).fields ∧
      (u.mapEntry (.pinned j)).check = (s.mapEntry (.pinned j)).check) (i : Fin 16) :
    PlacedAt s f i (u.putEntry (.pinned i) (.written f true)) where
  pinned := hpinned
  self := (mapEntry_putEntry ..).trans (if_pos rfl)
  same j _ h := absurd h (hsame j)
  other j hj _ := by
    rw [mapEntry_putEntry, if_neg fun h => hj (MapLoc.pinned.inj h)]
    exact hu j

theorem mapEntry_unusePins (s : State) (j : Fin 16) :
    (s.unusePins.mapEntry (.pinned j)).fields = (s.mapEntry (.pinned j)).fields ∧
      (s.unusePins.mapEntry (.pinned j)).check = (s.mapEntry (.pinned j)).check := by
  have hget : s.unusePins.mapEntry (.pinned j) = if (s.mapEntry (.pinned j)).fields.lock = true then s.mapEntry (.pinned j)
      else { s.mapEntry (.pinned j) with used := false } := Tab.get_map ..
  rw [hget]
  split
  · exact ⟨rfl, rfl⟩
  · exact ⟨rfl, rfl⟩

/-! What the Set Map holds after the placement. -/

/-- The way that an entry takes (R37; log entry 58 for a key that stands twice). -/
def State.wayFor (s : State) (f : MapFields) : Fin 2 :=
  let e := fun w : Fin 2 => s.mapEntry (.setMap (setIndex f.plan f.station f.channel) w)
  let holds := fun w : Fin 2 => (e w).fields.valid = true ∧ (e w).fields.sameKey f = true
  if holds 0 then 0 else if holds 1 then 1
  else if (e 0).fields.valid = false then 0 else if (e 1).fields.valid = false then 1
  else if (e 0).used = false then 0 else if (e 1).used = false then 1 else 0

/-- The placement writes the way, in a state that differs from s in the used flags of the set alone. -/
theorem placeSet_eq (f : MapFields) (s : State) : let i := setIndex f.plan f.station f.channel
    ∃ u, placeSet f s = (.setMap i (s.wayFor f), u.putEntry (.setMap i (s.wayFor f)) (.written f true)) ∧ s.setsFrom u = s ∧
      (∀ w, (u.mapEntry (.setMap i w)).fields = (s.mapEntry (.setMap i w)).fields) ∧
      ∀ j, j ≠ i → ∀ w, u.mapEntry (.setMap j w) = s.mapEntry (.setMap j w) := by
  intro i
  unfold placeSet State.wayFor
  simp only [Bool.and_eq_true, Bool.not_eq_true']
  split_ifs
  case neg =>
    refine ⟨_, rfl, rfl, fun w => ?_, fun j hj w => ?_⟩
    · rw [mapEntry_putEntry, mapEntry_putEntry]
      split_ifs with hone hzero
      · rw [hone]
      · rw [hzero]
      · rfl
    · have hplace : ∀ v, MapLoc.setMap j w ≠ MapLoc.setMap i v := fun v h => hj (MapLoc.setMap.inj h).1
      rw [mapEntry_putEntry, mapEntry_putEntry, if_neg (hplace 1), if_neg (hplace 0)]
  all_goals exact ⟨s, rfl, rfl, fun _ => rfl, fun _ _ _ => rfl⟩

end Sys2Proof.Machine
end

section
/-! PROOFS. MAP_WRITE by its operands (R34 to R38). -/

namespace Sys2Proof.Machine

variable {s t : State} {tag : Tag}

/-! ## The operands of MAP_WRITE -/

section
variable {ops : List Word} {flags : Word} (hlen : 8 ≤ ops.length) (hword : ops[3]? = some flags) (hflags : flags.toNat < 16)
include hlen hword hflags

theorem parseMapWrite_clearPinned (htarget : ops[0]? = some 0) (hvalid : flags.getLsbD 0 = false) {i : Fin 16}
    (hi : opIndex 16 ops 1 0 = some i) : parseMapWrite ops = some (.clear (.pinned i)) := by
  rw [parseMapWrite, opIn_eq htarget (by decide) (by decide), opIn_eq hword (Nat.zero_le _) (by omega)]
  simp [opCheck, hlen, -BitVec.getLsbD_eq_getElem, hvalid, hi]

theorem parseMapWrite_clearSet (htarget : ops[0]? = some 2) (hvalid : flags.getLsbD 0 = false) {i : Fin 128} {w : Fin 2}
    (hi : opIndex 128 ops 1 0 = some i) (hw : opIndex 2 ops 2 0 = some w) : parseMapWrite ops = some (.clear (.setMap i w)) := by
  rw [parseMapWrite, opIn_eq htarget (by decide) (by decide), opIn_eq hword (Nat.zero_le _) (by omega)]
  simp [opCheck, hlen, -BitVec.getLsbD_eq_getElem, hvalid, hi, hw]

variable {f : MapFields} (hvalid : flags.getLsbD 0 = true) (hf : parseFields flags ops = some f)
include hvalid hf

theorem parseMapWrite_slot (htarget : ops[0]? = some 0) {i : Fin 16} (hi : opIndex 16 ops 1 0 = some i) :
    parseMapWrite ops = some (if f.isGlobal = true then .pinnedAuto f else .slot i f) := by
  rw [parseMapWrite, opIn_eq htarget (by decide) (by decide), opIn_eq hword (Nat.zero_le _) (by omega)]
  simp [opCheck, hlen, -BitVec.getLsbD_eq_getElem, hvalid, hf, hi]

theorem parseMapWrite_pinnedAuto (htarget : ops[0]? = some 1) : parseMapWrite ops = some (.pinnedAuto f) := by
  rw [parseMapWrite, opIn_eq htarget (by decide) (by decide), opIn_eq hword (Nat.zero_le _) (by omega)]
  simp [opCheck, hlen, -BitVec.getLsbD_eq_getElem, hvalid, hf]

theorem parseMapWrite_setWay (htarget : ops[0]? = some 2) {i : Fin 128} {w : Fin 2} (hi : opIndex 128 ops 1 0 = some i)
    (hw : opIndex 2 ops 2 0 = some w) :
    parseMapWrite ops = some (if f.isGlobal = true then .pinnedAuto f else .setWay i w { f with lock := false }) := by
  rw [parseMapWrite, opIn_eq htarget (by decide) (by decide), opIn_eq hword (Nat.zero_le _) (by omega)]
  simp [opCheck, hlen, -BitVec.getLsbD_eq_getElem, hvalid, hf, hi, hw]

theorem parseMapWrite_setAuto (htarget : ops[0]? = some 3) :
    parseMapWrite ops = some (if f.isGlobal = true then .pinnedAuto f else .setAuto { f with lock := false }) := by
  rw [parseMapWrite, opIn_eq htarget (by decide) (by decide), opIn_eq hword (Nat.zero_le _) (by omega)]
  simp [opCheck, hlen, -BitVec.getLsbD_eq_getElem, hvalid, hf]

end

/-! ## MAP_WRITE -/

section
variable {ops : List Word} {f : MapFields} {l : MapLoc}

theorem mapWriteOp_clear (h : parseMapWrite ops = some (.clear l)) (s : State) :
    mapWriteOp ops s = (0, locWords l, s.putEntry l (s.mapEntry l).invalidated) := by
  rw [mapWriteOp, h]
  rfl

theorem mapWriteOp_slot {i : Fin 16} (h : parseMapWrite ops = some (.slot i f)) (s : State) :
    mapWriteOp ops s = (0, locWords (.pinned i), writePinned i f s) := by
  rw [mapWriteOp, h]
  rfl

theorem mapWriteOp_pinnedAuto (h : parseMapWrite ops = some (.pinnedAuto f)) (hplace : placePinned f s = some (l, t)) :
    mapWriteOp ops s = (0, locWords l, t) := by
  rw [mapWriteOp, h]
  simp only [hplace]
  rfl

theorem mapWriteOp_full (h : parseMapWrite ops = some (.pinnedAuto f)) (hplace : placePinned f s = none) :
    mapWriteOp ops s = (5, [], s) := by
  rw [mapWriteOp, h]
  simp only [hplace]
  rfl

theorem mapWriteOp_setWay {i : Fin 128} {w : Fin 2} (h : parseMapWrite ops = some (.setWay i w f))
    (hset : setIndex f.plan f.station f.channel = i) (s : State) :
    mapWriteOp ops s = (0, locWords (.setMap i w), writeSet i w f s) := by
  rw [mapWriteOp, h]
  exact if_pos hset

theorem mapWriteOp_mismatch {i : Fin 128} {w : Fin 2} (h : parseMapWrite ops = some (.setWay i w f))
    (hset : setIndex f.plan f.station f.channel ≠ i) (s : State) : mapWriteOp ops s = (4, [], s) := by
  rw [mapWriteOp, h]
  exact if_neg hset

theorem mapWriteOp_setAuto (h : parseMapWrite ops = some (.setAuto f)) (hplace : placeSet f s = (l, t)) :
    mapWriteOp ops s = (0, locWords l, t) := by
  rw [mapWriteOp, h]
  simp only [hplace]
  rfl

theorem exec_mapWrite {status : Nat} {data : List Word} (hs : s.Altering) (h : mapWriteOp ops s = (status, data, t))
    (ht : t.AtRest) : exec (.mapWrite tag ops) s = .next (answer tag 1 status data t) := exec_alterMaps hs rfl h ht

end

theorem word_of_toNat {w : Word} {n : Nat} (h : w.toNat = n) : word n = w := by
  rw [word_of_lt (h ▸ w.isLt), ← h, BitVec.ofNat_toNat, BitVec.setWidth_eq]

theorem writtenFields_local {flags : Word} (h : flags.getLsbD 1 = false) (plan station channel point : Word) :
    writtenFields flags (keyOf plan station channel) point =
      { valid := true, isGlobal := false, lock := flags.getLsbD 2
        direction := if flags.getLsbD 3 = true then .command else .sample
        plan := plan.setWidth 2, station := station.setWidth 6, channel := channel.setWidth 4, point := point.setWidth 8 } := by
  rw [writtenFields, h]
  rfl

/-- Settles O23: the writes by `mapEntry_writePinned` and `mapEntry_writeSet`. -/
theorem mapWriteExplicit : Obligations.MapWriteExplicit := by
  intro tag a b flags plan station channel point more s hs hflags ops
  have hlen : ∀ target, 8 ≤ (ops target).length := fun _ => Nat.le_add_left ..
  have hslot : ∀ (target : Word) (i : Fin 16), a.toNat = i.val → opIndex 16 (ops target) 1 0 = some i :=
    fun _ i ha => opIndex_eq (first := 0) (k := i) rfl ha
  have hset : ∀ (target : Word) (i : Fin 128), a.toNat = i.val → opIndex 128 (ops target) 1 0 = some i :=
    fun _ i ha => opIndex_eq (first := 0) (k := i) rfl ha
  have hway : ∀ (target : Word) (w : Fin 2), b.toNat = w.val → opIndex 2 (ops target) 2 0 = some w :=
    fun _ w hb => opIndex_eq (first := 0) (k := w) rfl hb
  refine ⟨fun hvalid => ⟨fun i ha => ?_, fun i w ha hb => ?_⟩, fun hvalid hglobal hplan hlo hhi hchannel hpoint => ?_⟩
  · have hop := mapWriteOp_clear (parseMapWrite_clearPinned (hlen 0) rfl hflags rfl hvalid (hslot 0 i ha)) s
    rw [locWords, word_of_toNat ha] at hop
    exact exec_mapWrite hs hop ((putEntry_traces ..).atRest hs.atRest)
  · have hop := mapWriteOp_clear (parseMapWrite_clearSet (hlen 2) rfl hflags rfl hvalid (hset 2 i ha) (hway 2 w hb)) s
    rw [locWords, word_of_toNat ha, word_of_toNat hb] at hop
    exact exec_mapWrite hs hop ((putEntry_traces ..).atRest hs.atRest)
  · intro f
    have hfields : ∀ target, parseFields flags (ops target) = some f := fun target => by
      rw [parseFields_eq_ite]
      exact (if_pos ⟨hlen target, hplan, hlo, hhi, hchannel, hpoint⟩).trans (congrArg some (writtenFields_local hglobal ..))
    refine ⟨fun i ha => ?_, fun i w ha hb => ?_⟩
    · have hop := mapWriteOp_slot (parseMapWrite_slot (hlen 0) rfl hflags hvalid (hfields 0) rfl (hslot 0 i ha)) s
      rw [locWords, word_of_toNat ha] at hop
      exact ⟨_, exec_mapWrite hs hop (atRest_of_pmu (pinnedFrom_writePinned i f s) hs.atRest), pinnedFrom_writePinned i f s,
        fun j => mapEntry_writePinned i j f s⟩
    · intro g other
      have hparse := parseMapWrite_setWay (hlen 2) rfl hflags hvalid (hfields 2) rfl (hset 2 i ha) (hway 2 w hb)
      refine ⟨fun hindex => exec_mapWrite hs (mapWriteOp_mismatch hparse hindex s) hs.atRest, fun hindex => ?_⟩
      have hop := mapWriteOp_setWay hparse hindex s
      rw [locWords, word_of_toNat ha, word_of_toNat hb] at hop
      exact ⟨_, exec_mapWrite hs hop (atRest_of_pmu (setsFrom_writeSet i w g s) hs.atRest), setsFrom_writeSet i w g s,
        fun j v => mapEntry_writeSet i j w v g s⟩

/-- A global entry goes to the Pinned Map whatever its target (R34). -/
theorem parseMapWrite_global {target a b flags : Word} {rest : List Word} {f : MapFields} (hlen : 4 ≤ rest.length)
    (hflags : flags.toNat < 16) (hvalid : flags.getLsbD 0 = true) (hf : parseFields flags (target :: a :: b :: flags :: rest) = some f)
    (hglobal : f.isGlobal = true) (htarget : target.toNat ≤ 3) (hslot : target = 0 → a.toNat ≤ 15)
    (hway : target = 2 → a.toNat ≤ 127 ∧ b.toNat ≤ 1) :
    parseMapWrite (target :: a :: b :: flags :: rest) = some (.pinnedAuto f) := by
  have hlen' : 8 ≤ (target :: a :: b :: flags :: rest).length := by simpa using hlen
  obtain rfl | rfl | rfl | rfl : target = 0 ∨ target = 1 ∨ target = 2 ∨ target = 3 := by bv_omega
  · have ha := hslot rfl
    exact (parseMapWrite_slot hlen' rfl hflags hvalid hf rfl (opIndex_eq (first := 0) (k := ⟨a.toNat, by omega⟩) rfl rfl)).trans
      (congrArg some (if_pos hglobal))
  · exact parseMapWrite_pinnedAuto hlen' rfl hflags hvalid hf rfl
  · obtain ⟨ha, hb⟩ := hway rfl
    exact (parseMapWrite_setWay hlen' rfl hflags hvalid hf rfl (opIndex_eq (first := 0) (k := ⟨a.toNat, by omega⟩) rfl rfl)
      (opIndex_eq (first := 0) (k := ⟨b.toNat, by omega⟩) rfl rfl)).trans (congrArg some (if_pos hglobal))
  · exact (parseMapWrite_setAuto hlen' rfl hflags hvalid hf rfl).trans (congrArg some (if_pos hglobal))

theorem exec_mapWrite_congr {ops ops' : List Word} (h : parseMapWrite ops = parseMapWrite ops') (tag : Tag) (s : State) :
    exec (.mapWrite tag ops) s = exec (.mapWrite tag ops') s := by
  have hop : mapWriteOp ops = mapWriteOp ops' := funext fun s => by rw [mapWriteOp, mapWriteOp, h]
  exact congrArg (fun op => Host.Outcome.next (quiesce (alterMaps tag 1 op s))) hop

/-- Settles O24: the slot by the searches of R38, the way by `State.wayFor`. -/
theorem mapWriteAutomatic : Obligations.MapWriteAutomatic := by
  intro tag a b flags plan station channel point more s hs hflags hvalid hplan hlo hhi hchannel hpoint ops f pin same first placed
    usable
  have hlen : ∀ target, 8 ≤ (ops target).length := fun _ => Nat.le_add_left ..
  have hfields : ∀ target, parseFields flags (ops target) = some f := fun target => by
    rw [parseFields_eq_ite]
    exact if_pos ⟨hlen target, hplan, hlo, hhi, hchannel, hpoint⟩
  have hpinned := parseMapWrite_pinnedAuto (hlen 1) rfl hflags hvalid (hfields 1) rfl
  have hsame : same = fun i => s.slotHasKey f i = true := funext fun i => propext slotHasKey_iff.symm
  have hplaced : ∀ i t, placePinned f s = some (.pinned i, t) → PlacedAt s f i t → placed i := fun i t hplace ht => by
    have hop := mapWriteOp_pinnedAuto hpinned hplace
    rw [locWords, word_of_lt (by omega)] at hop
    refine ⟨t, exec_mapWrite hs hop (atRest_of_pmu ht.pinned hs.atRest), ht.pinned, ht.self, fun j hj =>
      ⟨fun h => ?_, fun h => ?_⟩⟩
    · exact ht.same j hj (slotHasKey_iff.mpr h)
    · exact ht.other j hj (mt slotHasKey_iff.mp h)
  clear_value same
  subst hsame
  refine ⟨fun i hi => hplaced i _ (placePinned_same hi) (writePinned_placed i f s), fun hnew => ⟨fun i hi => ?_, fun hall =>
    ⟨fun i hi => ?_, fun hnone => ⟨fun i hi => ?_, fun hlocked => ?_⟩⟩⟩, fun hglobal target htarget hslot hway => ?_,
    fun hlocal => ?_⟩
  · exact hplaced i _ (placePinned_invalid hnew hi) (putEntry_placed hnew rfl (fun _ => ⟨rfl, rfl⟩) i)
  · exact hplaced i _ (placePinned_unused hnew hall hi) (putEntry_placed hnew rfl (fun _ => ⟨rfl, rfl⟩) i)
  · exact hplaced i _ (placePinned_unlocked hnew hall hnone hi) (putEntry_placed (u := s.unusePins) hnew rfl (mapEntry_unusePins s) i)
  · exact exec_mapWrite hs (mapWriteOp_full hpinned (placePinned_full hnew hall hnone hlocked)) hs.atRest
  · have hauto := parseMapWrite_global (Nat.le_add_left ..) hflags hvalid (hfields target) hglobal htarget hslot hway
    exact exec_mapWrite_congr (hauto.trans hpinned.symm) tag s
  · intro i g e holds way
    obtain ⟨u, hplace, hsets, hkept, hother⟩ := placeSet_eq g s
    have hparse : parseMapWrite (ops 3) = some (.setAuto g) :=
      (parseMapWrite_setAuto (hlen 3) rfl hflags hvalid (hfields 3) rfl).trans (congrArg some (if_neg (by simp [hlocal])))
    have hop := mapWriteOp_setAuto hparse hplace
    rw [locWords, word_of_lt (by omega), word_of_lt (by omega)] at hop
    refine ⟨_, exec_mapWrite hs hop (atRest_of_pmu hsets hs.atRest), hsets, (mapEntry_putEntry ..).trans (if_pos rfl), ?_,
      fun j hj w => ?_⟩
    · have hne : ∀ w : Fin 2, 1 - w ≠ w := by decide
      exact (congrArg MapEntry.fields ((mapEntry_putEntry ..).trans (if_neg fun h => hne way (MapLoc.setMap.inj h).2))).trans
        (hkept _)
    · rw [mapEntry_putEntry, if_neg fun h => hj (MapLoc.setMap.inj h).1]
      exact hother j hj w

end Sys2Proof.Machine
end

section
/-! PROOFS. The demap operations (R40, R41): what they invalidate and the number they answer. -/

namespace Sys2Proof.Machine

variable {s t : State} {tag : Tag} {ops : List Word}

/-! ## The places of the maps -/

theorem mem_allPlaces (l : MapLoc) : l ∈ allPlaces := by
  cases l with
  | pinned i => simp [allPlaces, mem_pinnedSlots]
  | setMap i w =>
    have hway : w = 0 ∨ w = 1 := by omega
    simp [allPlaces, setIndexes, ← and_or_left, hway]

theorem nodup_pinnedPlaces : (pinnedSlots.map MapLoc.pinned).Nodup := by decide

theorem nodup_lookupPlaces (k : Key) : (lookupPlaces k).Nodup := by
  refine List.nodup_append'.mpr ⟨nodup_pinnedPlaces, by simp, fun l hp hq => ?_⟩
  obtain ⟨i, -, rfl⟩ := List.mem_map.mp hp
  simp at hq

theorem nodup_allPlaces : allPlaces.Nodup := by
  have hsets : (setIndexes.flatMap fun i => [MapLoc.setMap i 0, MapLoc.setMap i 1]).Nodup := by
    refine List.nodup_flatMap.mpr ⟨fun i _ => by simp, (List.nodup_finRange 128).imp fun hne => ?_⟩
    simp [Function.onFun, hne.symm]
  refine List.nodup_append'.mpr ⟨nodup_pinnedPlaces, hsets, fun l hp hq => ?_⟩
  obtain ⟨i, -, rfl⟩ := List.mem_map.mp hp
  simp at hq

/-- The Pinned Map, slot by slot. -/
theorem map_pinnedPlaces (s : State) : (pinnedSlots.map MapLoc.pinned).map s.mapEntry = s.pmu.pinned.toList := by
  have hslots : pinnedSlots = List.finRange 16 := by decide
  rw [hslots, List.map_map]
  refine List.ext_getElem (by simp) fun n _ _ => ?_
  simp [State.mapEntry, Tab.get]

theorem setPlaces_eq : (setIndexes.flatMap fun i => [setPlace i 0, setPlace i 1]) = List.finRange 256 := by decide +kernel

/-- The Set Map, set by set and way by way. -/
theorem map_setPlaces (s : State) :
    (setIndexes.flatMap fun i => [MapLoc.setMap i 0, MapLoc.setMap i 1]).map s.mapEntry = s.pmu.sets.toList := by
  have hmap : (setIndexes.flatMap fun i => [MapLoc.setMap i 0, MapLoc.setMap i 1]).map s.mapEntry =
      (setIndexes.flatMap fun i => [setPlace i 0, setPlace i 1]).map (Tab.get s.pmu.sets) := by
    rw [List.map_flatMap, List.map_flatMap]
    rfl
  rw [hmap, setPlaces_eq]
  refine List.ext_getElem (by simp) fun n _ _ => ?_
  simp [Tab.get]

theorem length_allPlaces : allPlaces.length = 272 := by decide +kernel

/-! ## Demapping by a condition on entries -/

/-- The entries at some places that a condition names, counted. -/
theorem length_filter_places {places : List MapLoc} {entries : List MapEntry} {P : MapLoc → MapFields → Bool} {p : MapFields → Bool}
    (hplaces : places.map s.mapEntry = entries) (hP : ∀ l ∈ places, P l = p) :
    (entries.filter fun e => e.fields.valid && p e.fields).length =
      (places.filter fun l => (s.mapEntry l).fields.valid && P l (s.mapEntry l).fields).length := by
  rw [← hplaces, List.filter_map, List.length_map]
  refine congrArg List.length (List.filter_congr fun l hl => ?_)
  rw [hP l hl]
  rfl

section
variable {p q : MapFields → Bool} {P : MapLoc → MapFields → Bool} (hp : ∀ i, P (.pinned i) = p) (hq : ∀ i w, P (.setMap i w) = q)
include hp hq

theorem demap_number (s : State) : (demap p q s).1 =
    (allPlaces.filter fun l => (s.mapEntry l).fields.valid && P l (s.mapEntry l).fields).length := by
  rw [allPlaces, List.filter_append, List.length_append]
  refine congrArg₂ (· + ·) (length_filter_places (map_pinnedPlaces s) fun l hl => ?_)
    (length_filter_places (map_setPlaces s) fun l hl => ?_)
  · obtain ⟨i, -, rfl⟩ := List.mem_map.mp hl
    exact hp i
  · obtain ⟨i, -, hl⟩ := List.mem_flatMap.mp hl
    obtain rfl | rfl : l = .setMap i 0 ∨ l = .setMap i 1 := by simpa using hl
    · exact hq i 0
    · exact hq i 1

theorem mapEntry_demap (s : State) (l : MapLoc) : (demap p q s).2.mapEntry l =
    if (s.mapEntry l).fields.valid = true ∧ P l (s.mapEntry l).fields = true then (s.mapEntry l).invalidated else s.mapEntry l := by
  simp only [← Bool.and_eq_true]
  cases l with
  | pinned i =>
    rw [hp i]
    exact Tab.get_map ..
  | setMap i w =>
    rw [hq i w]
    exact Tab.get_map ..

/-- What a demap answers and does, by the condition P on places and entries. -/
theorem demap_cases (s : State) :
    ∃ t, demap p q s = ((allPlaces.filter fun l => (s.mapEntry l).fields.valid && P l (s.mapEntry l).fields).length, t) ∧
      s.mapsFrom t = s ∧ ∀ l, t.mapEntry l =
        if (s.mapEntry l).fields.valid = true ∧ P l (s.mapEntry l).fields = true then (s.mapEntry l).invalidated else s.mapEntry l :=
  ⟨_, Prod.ext (demap_number hp hq s) rfl, rfl, mapEntry_demap hp hq s⟩

end

/-! ## Demapping by KEY -/

theorem MapFields.valid_of_isMatch {f : MapFields} {k : Key} (h : f.isMatch k = true) : f.valid = true := by
  simp only [MapFields.isMatch, Bool.and_eq_true] at h
  exact h.1.1.1

/-- The entries that DEMAP_KEY invalidates are those that a lookup of the KEY would match (R40). -/
theorem mem_matches_iff {k : Key} {l : MapLoc} : l ∈ (lookupPlaces k).filter (fun l => (s.mapEntry l).fields.isMatch k) ↔
    (s.mapEntry l).fields.valid = true ∧ ((lookupPlaces k).contains l && (s.mapEntry l).fields.isMatch k) = true := by
  rw [List.mem_filter, Bool.and_eq_true, List.contains_iff_mem]
  exact ⟨fun h => ⟨MapFields.valid_of_isMatch h.2, h⟩, And.right⟩

theorem demapOfKey_number (k : Key) (s : State) : (demapOfKey k s).1 = (allPlaces.filter fun l =>
    (s.mapEntry l).fields.valid && ((lookupPlaces k).contains l && (s.mapEntry l).fields.isMatch k)).length := by
  refine List.Perm.length_eq ((List.perm_ext_iff_of_nodup ((nodup_lookupPlaces k).filter _) (nodup_allPlaces.filter _)).mpr
    fun l => ?_)
  refine mem_matches_iff.trans (Iff.symm ?_)
  rw [List.mem_filter, Bool.and_eq_true (s.mapEntry l).fields.valid]
  exact and_iff_right (mem_allPlaces l)

theorem mapEntry_demapOfKey (k : Key) (s : State) (l : MapLoc) : (demapOfKey k s).2.mapEntry l =
    if (s.mapEntry l).fields.valid = true ∧ ((lookupPlaces k).contains l && (s.mapEntry l).fields.isMatch k) = true then
      (s.mapEntry l).invalidated else s.mapEntry l := by
  simp only [← mem_matches_iff]
  exact mapEntry_invalidateAll ..

/-! ## The operations -/

theorem word_filter_allPlaces (p : MapLoc → Bool) :
    word (allPlaces.filter p).length = BitVec.ofNat 16 (allPlaces.filter p).length := by
  have hle : (allPlaces.filter p).length ≤ 272 := length_allPlaces ▸ List.length_filter_le p allPlaces
  exact word_of_lt (by omega)

theorem demapAllOp_eq {n : Nat} (h : demap (fun f => !f.lock) (fun _ => true) s = (n, t)) : demapAllOp s = (0, [word n], t) := by
  rw [demapAllOp, h]
  rfl

theorem demapPlanOp_eq {p : Word} {n : Nat} (hplan : opIn ops 0 0 3 = some p.toNat)
    (h : demap (fun f => f.plan == p.setWidth 2 && !f.isGlobal && !f.lock) (fun f => f.plan == p.setWidth 2) s = (n, t)) :
    demapPlanOp ops s = (0, [word n], t) := by
  rw [demapPlanOp, hplan]
  simp only [BitVec.ofNat_toNat, h]
  rfl

theorem demapPlanOp_range (h : opIn ops 0 0 3 = none) (s : State) : demapPlanOp ops s = (2, [], s) := by
  rw [demapPlanOp, h]
  rfl

theorem demapKeyOp_eq {k : Key} {n : Nat} (hkey : parseKey ops 0 = some k) (h : demapOfKey k s = (n, t)) :
    demapKeyOp ops s = (0, [word n], t) := by
  rw [demapKeyOp, hkey]
  simp only [h]
  rfl

theorem demapKeyOp_range (h : parseKey ops 0 = none) (s : State) : demapKeyOp ops s = (2, [], s) := by
  rw [demapKeyOp, h]
  rfl

/-- Settles O27: the entries by `mapEntry_demap` and `mapEntry_demapOfKey`, the number by `demap_number` and `demapOfKey_number`. -/
theorem demaps : Obligations.Demaps := by
  intro tag s hs cleared number all
  refine ⟨?_, fun p more hp => ?_, fun p more hp => ?_, fun p station channel more hplan hlo hhi hchannel => ?_,
    fun p station channel more hrange => ?_, exec_alterMaps hs rfl (demapPlanOp_range rfl s) hs.atRest, fun few hfew => ?_⟩
  · obtain ⟨t, hdemap, hmaps, hentries⟩ := demap_cases (P := all) (p := fun f => !f.lock) (q := fun _ => true) (fun _ => rfl)
      (fun _ _ => rfl) s
    have hop := demapAllOp_eq hdemap
    rw [word_filter_allPlaces] at hop
    exact ⟨t, exec_alterMaps hs rfl hop (atRest_of_pmu hmaps hs.atRest), hmaps, hentries⟩
  · intro ofPlan
    obtain ⟨t, hdemap, hmaps, hentries⟩ := demap_cases (P := ofPlan)
      (p := fun f => f.plan == p.setWidth 2 && !f.isGlobal && !f.lock) (q := fun f => f.plan == p.setWidth 2) (fun _ => rfl)
      (fun _ _ => rfl) s
    have hop := demapPlanOp_eq (ops := p :: more) (opIn_eq rfl (Nat.zero_le _) hp) hdemap
    rw [word_filter_allPlaces] at hop
    exact ⟨t, exec_alterMaps hs rfl hop (atRest_of_pmu hmaps hs.atRest), hmaps, hentries⟩
  · have hnone : opIn (p :: more) 0 0 3 = none := (opIn_eq_ite ..).trans (if_neg fun h => Nat.not_le.mpr hp h.2.2)
    exact exec_alterMaps hs rfl (demapPlanOp_range hnone s) hs.atRest
  · intro k ofKey
    have hkey : parseKey (p :: station :: channel :: more) 0 = some k :=
      (parseKey_eq_ite ..).trans (if_pos ⟨by simp, hplan, hlo, hhi, hchannel⟩)
    have hop := demapKeyOp_eq hkey (Prod.ext (demapOfKey_number k s) rfl)
    rw [word_filter_allPlaces] at hop
    exact ⟨_, exec_alterMaps hs rfl hop ((invalidateAll_traces _).atRest hs.atRest),
      mapsFrom_invalidateAll s _ s,
      mapEntry_demapOfKey k s⟩
  · have hnone : parseKey (p :: station :: channel :: more) 0 = none := by
      refine (parseKey_eq_ite ..).trans (if_neg fun ⟨_, hplan, hlo, hhi, hchannel⟩ => ?_)
      simp only [List.getD_cons_zero, List.getD_cons_succ, Nat.zero_add] at hplan hlo hhi hchannel
      obtain h | rfl | h | h := hrange
      · omega
      · exact absurd hlo (by decide)
      · omega
      · omega
    exact exec_alterMaps hs rfl (demapKeyOp_range hnone s) hs.atRest
  · have hnone : parseKey few 0 = none := (parseKey_eq_ite ..).trans (if_neg fun h => by omega)
    exact exec_alterMaps hs rfl (demapKeyOp_range hnone s) hs.atRest

end Sys2Proof.Machine
end

section
/-! PROOFS. What the delivery of a point event leaves as it is (R49), one sample applied to a point (R48, R50, R51), the level sample
queues (R53) and the expiry of a freshness period (R48). -/

namespace Sys2Proof.Machine

variable {s t u : State}

/-! ## What the delivery of a point event leaves -/

/-- The part of the state that no point event changes: what a command outcome leaves, less the supply mode (R116), the panel key
and the Override Table (R110). -/
def State.inert (s : State) : State := { s.core with lau := {}, cau := {} }

theorem inert_of_core (h : t.core = s.core) : t.inert = s.inert := congrArg (fun x : State => { x with lau := {}, cau := {} }) h
theorem inert_of_steady (h : t.steady = s.steady) : t.inert = s.inert := inert_of_core (core_of_steady h)

theorem cancelOverrides_inert (c : OverrideCause) (code : Nat) (s : State) : (cancelOverrides c code s).inert = s.inert := by
  have hfold : (s.cau.overrides.foldl (fun s e => s.tellOwner e.point (ownerOf s.cfg e.point) none c) s).inert = s.inert :=
    foldl_field State.inert (g := fun s (e : Override) => s.tellOwner e.point (ownerOf s.cfg e.point) none c) (fun _ _ => rfl) _ s
  unfold cancelOverrides
  simp only
  split
  · exact hfold
  · exact hfold

theorem judgeSupply_inert (s : State) : (judgeSupply s).inert = s.inert := by
  unfold judgeSupply
  simp only
  repeat' split
  all_goals rfl

theorem keyJudge_inert (s : State) : (keyJudge s).inert = s.inert := by
  unfold keyJudge
  simp only
  repeat' split
  · rfl
  · exact cancelOverrides_inert ..
  · rfl

theorem lauPointEvent_inert (p : PointId) (s : State) : (lauPointEvent p s).inert = s.inert := by
  unfold lauPointEvent
  simp only
  split
  · exact (inert_of_steady (lauSettle_steady _)).trans (judgeSupply_inert s)
  · rfl

theorem cauPointEvent_inert (p : PointId) (s : State) : (cauPointEvent p s).inert = s.inert := by
  unfold cauPointEvent
  split
  · exact keyJudge_inert s
  · rfl

theorem pumpPointEvent_core (p : PumpId) (ev : PointEvent) (s : State) : (pumpPointEvent p ev s).core = s.core := by
  have hfeedback : (pumpFeedbackEvent p ev s).core = s.core := by
    unfold pumpFeedbackEvent
    simp only
    split
    case h_3 | h_4 => exact pumpConfirm_core p s
    all_goals
      repeat' split
      all_goals exact core_of_steady (by simp)
  have hfault : (pumpFaultEvent p ev s).core = s.core := by
    unfold pumpFaultEvent
    repeat' split
    all_goals exact core_of_steady (by simp)
  unfold pumpPointEvent
  simp only
  repeat' split
  · rfl
  · exact hfeedback
  · exact hfault
  · rfl

theorem reversalEnd_steady (b : BarrierId) (s : State) : (reversalEnd b s).steady = s.steady := by
  unfold reversalEnd
  simp only
  repeat' split
  all_goals simp

theorem movementEnd_steady (b : BarrierId) (s : State) : (movementEnd b s).steady = s.steady := by
  unfold movementEnd
  simp only
  repeat' split
  all_goals simp [reversalEnd_steady]

theorem barrierPresence_steady (b : BarrierId) (ev : PointEvent) (s : State) : (barrierPresence b ev s).steady = s.steady := by
  unfold barrierPresence
  simp only
  repeat' split
  all_goals simp

theorem barrierPointEvent_steady (b : BarrierId) (ev : PointEvent) (s : State) :
    (barrierPointEvent b ev s).steady = s.steady := by
  unfold barrierPointEvent
  simp only
  repeat' split
  all_goals simp [movementEnd_steady, barrierPresence_steady]

theorem gateMovementEnd_steady (s : State) : (gateMovementEnd s).steady = s.steady := by
  unfold gateMovementEnd
  repeat' split
  all_goals simp [gateStopTravel]

theorem gatePointEvent_steady (ev : PointEvent) (s : State) : (gatePointEvent ev s).steady = s.steady := by
  unfold gatePointEvent
  simp only
  repeat' split
  all_goals simp [gateMovementEnd_steady]

theorem pscPointEvent_core (ev : PointEvent) (s : State) : (pscPointEvent ev s).core = s.core :=
  foldl_field State.core (fun s p => (core_of_steady (lauSettle_steady _)).trans (pumpPointEvent_core p ev s)) _ s

theorem gsqPointEvent_steady (ev : PointEvent) (s : State) : (gsqPointEvent ev s).steady = s.steady := by
  rw [gsqPointEvent, lauSettle_steady, gatePointEvent_steady, eachDevice_steady _ _ _ fun b s => barrierPointEvent_steady b ev s]

theorem deliverEvent_inert (ev : PointEvent) (s : State) : (deliverEvent ev s).inert = s.inert := by
  rw [deliverEvent, inert_of_steady (quiesce_steady _), inert_of_steady (gsqPointEvent_steady ev _),
    inert_of_core (pscPointEvent_core ev _), cauPointEvent_inert, lauPointEvent_inert]

/-- An observation changes, besides what a point event may, the running fields of its point alone. -/
theorem observe_inert (p : PointId) (v : Bool) (f : PointState → PointState) (s : State) :
    (observe p v f s).inert = (s.modPoint p f).inert := by
  have hpoint : ∀ g : PointState → PointState, (∀ x, { g x with changed := false } = { f x with changed := false }) →
      (s.modPoint p g).inert = (s.modPoint p f).inert := by
    intro g hg
    simp only [State.inert, State.core, State.steady, State.modPoint, State.modPim]
    congr 2
    have hone : ∀ x : PointState, { g x with changed := false, commanded := 0, command := CommandState.idle } =
        { f x with changed := false, commanded := 0, command := CommandState.idle } := fun x =>
      congrArg (fun y : PointState => { y with commanded := 0, command := .idle }) (hg x)
    ext i hi
    simp only [Tab.put, Vector.getElem_map, Vector.getElem_set]
    split
    · exact hone _
    · rfl
  unfold observe
  simp only
  split
  · exact (deliverEvent_inert _ _).trans (hpoint _ fun _ => rfl)
  · exact hpoint _ fun _ => rfl

/-! ## What a state with the same inert part shares -/

/-- The fields of a point that an observation alone changes. -/
structure SamePoint (x y : PointState) : Prop where
  quality : y.quality = x.quality
  raw : y.raw = x.raw
  confirmed : y.confirmed = x.confirmed
  since : y.since = x.since
  freshTimer : y.freshTimer = x.freshTimer

theorem samePoint_of_inert (h : t.inert = s.inert) (p : PointId) : SamePoint (s.point p) (t.point p) := by
  have hmap := congrArg (fun x : State => Tab.get x.pim.points p) h
  simp only [State.inert, State.core, State.steady, Tab.get_map] at hmap
  exact ⟨(congrArg PointState.quality hmap :), (congrArg PointState.raw hmap :), (congrArg PointState.confirmed hmap :),
    (congrArg PointState.since hmap :), (congrArg PointState.freshTimer hmap :)⟩

theorem cfg_of_inert (h : t.inert = s.inert) : t.cfg = s.cfg := (congrArg State.cfg h :)
theorem pmu_of_inert (h : t.inert = s.inert) : t.pmu = s.pmu := (congrArg State.pmu h :)
theorem now_of_inert (h : t.inert = s.inert) : t.now = s.now := (congrArg State.now h :)
theorem transaction_of_inert (h : t.inert = s.inert) : t.flc.transaction = s.flc.transaction :=
  (congrArg (fun x : State => x.flc.transaction) h :)
theorem levelQueue_of_inert (h : t.inert = s.inert) (q : QueueId) : t.levelQueue q = s.levelQueue q :=
  (congrArg (fun x : State => x.levelQueue q) h :)

/-! ## One sample applied to a point -/

/-- The entry of a sample in a level sample queue (R53). -/
def PointCfg.levelEntry (c : PointCfg) (w : Word) (invalid : Bool) : LevelEntry :=
  { raw := w, invalid := invalid, range := !invalid && c.outside w }

/-- A sample joins the level sample queue that its point holds (R53). -/
def joinQueue (p : PointId) (w : Word) (invalid : Bool) (s : State) : State :=
  match (s.pcfg p).kind, (s.pcfg p).queue with
  | .level, some q => s.modQueue q (offerLevel ((s.pcfg p).levelEntry w invalid))
  | _, _ => s

/-- A sample makes a point INVALID: by its mark, or outside the raw range of an ANALOG point (R50). -/
def PointCfg.spoils (c : PointCfg) (w : Word) (invalid : Bool) : Bool := invalid || c.kind == .analog && c.outside w

/-- The value that a sample gives a point (R50). -/
def PointKind.valueOf (k : PointKind) (w : Word) : Word := if k = .discrete then (if w = 0 then 0 else 1) else w

/-- The running fields of a point after a sample (R48, R50). -/
def PointCfg.sampled (c : PointCfg) (now : Nat) (w : Word) (invalid : Bool) (x : PointState) : PointState :=
  { x with
    since := now
    freshTimer := if c.freshness = 0 then .stopped else .start now (100 * c.freshness)
    quality := if c.spoils w invalid then .invalid else .good
    raw := if c.spoils w invalid then x.raw else c.kind.valueOf w }

/-- The point image after a sample, before the events it raises. -/
def sampled (p : PointId) (w : Word) (invalid : Bool) (s : State) : State :=
  (joinQueue p w invalid s).modPoint p ((s.pcfg p).sampled s.now w invalid)

theorem joinQueue_other {p : PointId} (h : (s.pcfg p).kind ≠ .level) (w : Word) (invalid : Bool) : joinQueue p w invalid s = s := by
  unfold joinQueue
  split
  · exact absurd ‹_› h
  · rfl

theorem joinQueue_level {p : PointId} {q : QueueId} (hk : (s.pcfg p).kind = .level) (hq : (s.pcfg p).queue = some q) (w : Word)
    (invalid : Bool) : joinQueue p w invalid s = s.modQueue q (offerLevel ((s.pcfg p).levelEntry w invalid)) := by
  rw [joinQueue, hk, hq]

theorem joinQueue_none {p : PointId} (hq : (s.pcfg p).queue = none) (w : Word) (invalid : Bool) : joinQueue p w invalid s = s := by
  rw [joinQueue, hq]
  split
  · next h => cases h
  · rfl

theorem modPoint_restartAge (p : PointId) (f : PointState → PointState) (s : State) :
    (restartAge p s).modPoint p f = s.modPoint p fun x => f { x with
      since := s.now
      freshTimer := if (s.pcfg p).freshness = 0 then .stopped else .start s.now (100 * (s.pcfg p).freshness) } :=
  modPoint_modPoint s p _ f

theorem modPoint_modQueue (p : PointId) (f : PointState → PointState) (q : QueueId) (g : LevelQueue → LevelQueue) (s : State) :
    (s.modQueue q g).modPoint p f = (s.modPoint p f).modQueue q g := rfl

/-- The running fields after a sample are what a write of quality and value makes of a point with a fresh age. -/
theorem sampled_eq {c : PointCfg} {w : Word} {invalid : Bool} {f : PointState → PointState}
    (hbad : c.spoils w invalid = true → ∀ x, f x = { x with quality := .invalid })
    (hgood : c.spoils w invalid = false → ∀ x, f x = { x with quality := .good, raw := c.kind.valueOf w }) (now : Nat)
    (x : PointState) :
    f { x with since := now, freshTimer := if c.freshness = 0 then .stopped else .start now (100 * c.freshness) } =
      c.sampled now w invalid x := by
  cases h : c.spoils w invalid with
  | true => simp [PointCfg.sampled, hbad h, h]
  | false => simp [PointCfg.sampled, hgood h, h]

/-- A sample gives a point of any kind but UNUSED and COMMAND its running fields, and joins its queue. -/
theorem applySample_inert {p : PointId} (hunused : (s.pcfg p).kind ≠ .unused) (hcommand : (s.pcfg p).kind ≠ .command) (w : Word)
    (invalid : Bool) : (applySample p w invalid s).inert = (sampled p w invalid s).inert := by
  have hpoint : ∀ f : PointState → PointState,
      ((s.pcfg p).spoils w invalid = true → ∀ x, f x = { x with quality := .invalid }) →
      ((s.pcfg p).spoils w invalid = false → ∀ x, f x = { x with quality := .good, raw := (s.pcfg p).kind.valueOf w }) →
      (restartAge p s).modPoint p f = s.modPoint p ((s.pcfg p).sampled s.now w invalid) := by
    intro f hbad hgood
    rw [modPoint_restartAge, modPoint_congr (sampled_eq hbad hgood s.now _)]
  have hinvalid : ∀ h : (s.pcfg p).kind ≠ .analog, (s.pcfg p).spoils w invalid = invalid := fun h => by
    simp [PointCfg.spoils, h]
  unfold applySample sampled
  simp only
  split
  case h_1 hk => exact absurd hk hunused
  case h_2 hk => exact absurd hk hcommand
  case h_3 hk =>
    have hspoils := hinvalid (by simp [hk])
    cases hq : (s.pcfg p).queue with
    | some q =>
      rw [observe_inert, joinQueue_level hk hq, modPoint_modQueue, modPoint_modQueue]
      exact congrArg (fun t : State => (t.modQueue q _).inert) (hpoint _ (by simp_all) (by simp_all [PointKind.valueOf]))
    | none =>
      rw [joinQueue_none hq]
      rw [observe_inert, hpoint _ (by simp_all) (by simp_all [PointKind.valueOf])]
  case h_4 hk =>
    rw [joinQueue_other (by simp [hk])]
    have hspoils : (s.pcfg p).spoils w invalid = (invalid || (s.pcfg p).outside w) := by simp [PointCfg.spoils, hk]
    rw [observe_inert, hpoint _ (fun h x => if_pos (hspoils ▸ h)) fun h x =>
      (if_neg (by simp [← hspoils, h])).trans (by simp [PointKind.valueOf, hk])]
  case h_5 hk =>
    have hspoils := hinvalid (by simp [hk])
    rw [joinQueue_other (by simp [hk])]
    split
    · rw [observe_inert, hpoint _ (by simp) (by simp_all)]
    · rw [observe_inert, hpoint _ (by simp_all) (by simp [PointKind.valueOf, hk])]
  case h_6 hk =>
    have hspoils := hinvalid (by simp [hk])
    rw [joinQueue_other (by simp [hk]), observe_inert, hpoint _ (by simp_all) (by simp_all [PointKind.valueOf])]

/-! ## What a sample leaves -/

theorem spoils_iff (c : PointCfg) (w : Word) (invalid : Bool) : c.spoils w invalid = true ↔
    invalid = true ∨ (c.kind = .analog ∧ (w.toInt < c.rawMin.toInt ∨ c.rawMax.toInt < w.toInt)) := by
  simp [PointCfg.spoils, PointCfg.outside]

theorem levelQueue_modQueue (q r : QueueId) (f : LevelQueue → LevelQueue) (s : State) :
    (s.modQueue q f).levelQueue r = if r = q then f (s.levelQueue r) else s.levelQueue r := by
  simp only [State.levelQueue, State.modQueue, State.modPim, Tab.get_put]
  split
  · next h => rw [h]
  · rfl

theorem joinQueue_cfg (p : PointId) (w : Word) (invalid : Bool) (s : State) : (joinQueue p w invalid s).cfg = s.cfg := by
  unfold joinQueue; split <;> rfl

theorem joinQueue_point (p : PointId) (w : Word) (invalid : Bool) (s : State) (r : PointId) :
    (joinQueue p w invalid s).point r = s.point r := by
  unfold joinQueue; split <;> rfl

theorem joinQueue_rest (p : PointId) (w : Word) (invalid : Bool) (s : State) :
    (joinQueue p w invalid s).pmu = s.pmu ∧ (joinQueue p w invalid s).flc = s.flc := by
  unfold joinQueue; split <;> exact ⟨rfl, rfl⟩

theorem joinQueue_levelQueue (p : PointId) (w : Word) (invalid : Bool) (s : State) (q : QueueId) :
    (joinQueue p w invalid s).levelQueue q =
      if (s.pcfg p).kind = .level ∧ (s.pcfg p).queue = some q then offerLevel ((s.pcfg p).levelEntry w invalid) (s.levelQueue q)
      else s.levelQueue q := by
  by_cases hk : (s.pcfg p).kind = .level
  · cases hq : (s.pcfg p).queue with
    | none => simp [joinQueue_none hq]
    | some r => simp [joinQueue_level hk hq, levelQueue_modQueue, hk, eq_comm]
  · simp [joinQueue_other hk, hk]

theorem applySample_levelQueue (p : PointId) (w : Word) (invalid : Bool) (s : State) (q : QueueId) :
    (applySample p w invalid s).levelQueue q =
      if (s.pcfg p).kind = .level ∧ (s.pcfg p).queue = some q then offerLevel ((s.pcfg p).levelEntry w invalid) (s.levelQueue q)
      else s.levelQueue q := by
  by_cases hu : (s.pcfg p).kind = .unused
  · simp [applySample, hu]
  by_cases hc : (s.pcfg p).kind = .command
  · simp [applySample, hc]
  exact (levelQueue_of_inert (applySample_inert hu hc w invalid) q).trans (joinQueue_levelQueue p w invalid s q)

/-! ## The expiry of a freshness period -/

theorem freshnessExpiry_stopped {p : PointId} (h : (s.point p).quality ≠ .good) :
    freshnessExpiry p s = s.modPoint p fun x => { x with freshTimer := .stopped } := if_neg h

theorem freshnessExpiry_inert {p : PointId} (h : (s.point p).quality = .good) : (freshnessExpiry p s).inert =
    (s.modPoint p fun x => { x with freshTimer := .stopped, quality := .stale }).inert := by
  rw [freshnessExpiry, if_pos h, observe_inert, modPoint_modPoint]

theorem modPoint_atRest (hs : s.AtRest) (p : PointId) (f : PointState → PointState) : (s.modPoint p f).AtRest := hs

theorem freshnessExpiry_atRest (hs : s.AtRest) (p : PointId) : (freshnessExpiry p s).AtRest := by
  unfold freshnessExpiry
  split
  · exact observe_atRest (modPoint_atRest hs p _) _ _ _
  · exact modPoint_atRest hs p _

theorem advance_atRest (hs : s.AtRest) (d : Nat) : (s.advance d).AtRest := hs

theorem exec_freshnessExpiry {p : PointId} {d : Nat} (hs : s.AtRest) (hd : (s.point p).freshTimer = .running d) :
    exec (.pointFreshnessExpiry p) s = .next (freshnessExpiry p (s.advance d)) :=
  exec_of_rest (congrArg (fun t => Host.Outcome.next (quiesce t)) (onExpiry_running hd s (freshnessExpiry p)))
    (freshnessExpiry_atRest (advance_atRest hs d) p)

/-- Settles O30: a sample by `applySample_inert` and `applySample_levelQueue`, the expiry by `freshnessExpiry_inert`. -/
theorem samplesAndFreshness : Obligations.SamplesAndFreshness := by
  refine ⟨fun p w invalid s => ⟨fun hk => ?_, fun hu hc => ?_, fun q => ?_⟩, fun p s hs => ⟨fun d hd => ⟨fun hq => ?_, fun hq => ?_⟩,
    fun hidle => ?_⟩⟩
  · obtain hk | hk := hk <;> simp [applySample, hk]
  · have hsame := applySample_inert hu hc w invalid
    obtain ⟨hquality, hraw, -, hsince, htimer⟩ := samePoint_of_inert hsame p
    have hself : (sampled p w invalid s).point p = (s.pcfg p).sampled s.now w invalid (s.point p) := by
      rw [sampled, point_modPoint, if_pos rfl, joinQueue_point]
    have hother : ∀ r, r ≠ p → (sampled p w invalid s).point r = s.point r := fun r hr => by
      rw [sampled, point_modPoint, if_neg hr, joinQueue_point]
    rw [hself] at hquality hraw hsince htimer
    simp only [← spoils_iff]
    refine ⟨hquality, hraw, hsince, htimer, fun r hr => ?_, ?_, ?_, ?_⟩
    · obtain ⟨hquality, hraw, -, -, -⟩ := samePoint_of_inert hsame r
      exact ⟨hquality.trans (congrArg _ (hother r hr)), hraw.trans (congrArg _ (hother r hr))⟩
    · exact (cfg_of_inert hsame).trans (joinQueue_cfg ..)
    · exact (pmu_of_inert hsame).trans (joinQueue_rest ..).1
    · exact (transaction_of_inert hsame).trans (congrArg Flc.transaction (joinQueue_rest ..).2)
  · exact applySample_levelQueue p w invalid s q
  · exact (exec_freshnessExpiry hs hd).trans (congrArg Host.Outcome.next (freshnessExpiry_stopped (s := s.advance d) hq))
  · have hsame := freshnessExpiry_inert (s := s.advance d) (p := p) hq
    obtain ⟨hquality, hraw, hconfirmed, hsince, htimer⟩ := samePoint_of_inert hsame p
    rw [point_modPoint, if_pos rfl] at hquality hraw hconfirmed hsince htimer
    refine ⟨_, exec_freshnessExpiry hs hd, now_of_inert hsame, (cfg_of_inert hsame).trans rfl, hquality, hraw, hconfirmed, hsince, htimer,
      fun r hr => ?_⟩
    obtain ⟨hquality, hraw, -, -, -⟩ := samePoint_of_inert hsame r
    rw [point_modPoint, if_neg hr] at hquality hraw
    exact ⟨hquality, hraw⟩
  · exact exec_of_rest (congrArg (fun t => Host.Outcome.next (quiesce t)) (onExpiry_idle hidle s (freshnessExpiry p))) hs

end Sys2Proof.Machine
end

section
/-! PROOFS. POINT_SET (R46, R52): its operand words, a kept kind and a new kind. -/

namespace Sys2Proof.Machine

variable {s t : State}

/-! ## The operand words -/

/-- The record that the operand words of a POINT_SET spell over the fields that the point has (R46). -/
def setPointCfg (old : PointCfg) (k : PointKind) (freshness : Nat) (lo hi mode : Word) : PointCfg :=
  { kind := k, freshness := freshness
    rawMin := if k = .level ∨ k = .analog then lo else old.rawMin
    rawMax := if k = .level ∨ k = .analog then hi else old.rawMax
    errorMode := if k = .level then (if mode = 1 then .accumulated else .perSample) else old.errorMode
    queue := old.queue }

theorem PointKind.ranged_iff (k : PointKind) : k.ranged = true ↔ k = .level ∨ k = .analog := by
  cases k <;> simp [PointKind.ranged]

theorem parsePoint_eq {pw kind fresh lo hi mode : Word} (more : List Word) (old : PointId → PointCfg) {p : PointId}
    (hp : pw.toNat = p.val) (hkind : kind.toNat ≤ 5) (hfresh : fresh.toNat ≤ 255)
    (hrange : pointKindOf kind.toNat = .level ∨ pointKindOf kind.toNat = .analog → lo.toInt ≤ hi.toInt)
    (hmode : pointKindOf kind.toNat = .level → mode.toNat ≤ 1) :
    parsePoint (pw :: kind :: fresh :: lo :: hi :: mode :: more) old =
      some (p, setPointCfg (old p) (pointKindOf kind.toNat) fresh.toNat lo hi mode) := by
  rw [parsePoint, opIndex_eq (first := 0) (k := p) rfl hp, opIn_eq (i := 1) rfl (Nat.zero_le _) hkind,
    opIn_eq (i := 2) rfl (Nat.zero_le _) hfresh]
  simp only [Option.bind_eq_bind, Option.bind_some, List.getElem?_cons_succ, List.getElem?_cons_zero]
  generalize pointKindOf kind.toNat = k at hrange hmode ⊢
  have hraw : opCheck (!k.ranged || decide (lo.toInt ≤ hi.toInt)) = some () := if_pos <| by
    by_cases hk : k.ranged = true
    · simp [hrange ((PointKind.ranged_iff k).mp hk)]
    · simp [hk]
  have herror : opCheck (!(k == .level) || decide (mode.toNat ≤ 1)) = some () := if_pos <| by
    by_cases hk : k = .level
    · simp [hmode hk]
    · simp [hk]
  simp only [hraw, herror, Option.bind_some]
  by_cases hk : k = .level ∨ k = .analog
  · simp only [setPointCfg, (PointKind.ranged_iff k).mpr hk, if_true, hk]
  · simp only [setPointCfg, Bool.eq_false_iff.mpr (mt (PointKind.ranged_iff k).mp hk), Bool.false_eq_true, if_false, hk]

/-- Raw limits out of order, or an error mode above 1, of a kind that uses them (R46). -/
theorem parsePoint_none {pw kind fresh lo hi mode : Word} (more : List Word) (old : PointId → PointCfg)
    (h : (pointKindOf kind.toNat = .level ∨ pointKindOf kind.toNat = .analog) ∧ hi.toInt < lo.toInt ∨
      pointKindOf kind.toNat = .level ∧ 1 < mode.toNat) :
    parsePoint (pw :: kind :: fresh :: lo :: hi :: mode :: more) old = none := by
  rw [← PointKind.ranged_iff, pointKindOf_ranged, pointKindOf_level] at h
  refine (parsePoint_eq_none_iff ..).mpr fun ⟨_, _, _, _, hraw, hmode⟩ => ?_
  simp only [List.getD_cons_succ, List.getD_cons_zero] at hraw hmode
  omega

/-! ## The level sample queues that are free -/

theorem mem_pointIds (p : PointId) : p ∈ pointIds := List.mem_finRange p
theorem mem_queueIds : ∀ q : QueueId, q ∈ queueIds := by decide

theorem queueHolder_eq_none {q : QueueId} : s.queueHolder q = none ↔ ∀ r, (s.pcfg r).queue ≠ some q := by
  simp [State.queueHolder, List.find?_eq_none, mem_pointIds]

theorem freeQueue_eq_none : s.freeQueue = none ↔ ∀ q : QueueId, ∃ r, (s.pcfg r).queue = some q := by
  simp [State.freeQueue, List.find?_eq_none, mem_queueIds, queueHolder_eq_none]

theorem queueIds_sorted : queueIds.Pairwise (· < ·) := by decide

theorem freeQueue_eq_some {q : QueueId} (h : s.freeQueue = some q) :
    (∀ r, (s.pcfg r).queue ≠ some q) ∧ ∀ q', q' < q → ∃ r, (s.pcfg r).queue = some q' := by
  obtain ⟨hfree, lower, upper, hids, hheld⟩ := List.find?_eq_some_iff_append.mp h
  refine ⟨queueHolder_eq_none.mp (Option.isNone_iff_eq_none.mp hfree), fun q' hlt => ?_⟩
  have hsorted := queueIds_sorted
  rw [hids, List.pairwise_append, List.pairwise_cons] at hsorted
  have hmem : q' ∈ lower := by
    have hq' := mem_queueIds q'
    rw [hids, List.mem_append, List.mem_cons] at hq'
    obtain hlower | rfl | hupper := hq'
    · exact hlower
    · exact absurd hlt (lt_irrefl _)
    · exact absurd hlt (not_lt_of_gt (hsorted.2.1.1 q' hupper))
  have hholder := hheld q' hmem
  by_contra hnone
  exact absurd (queueHolder_eq_none.mpr (not_exists.mp hnone)) (by simpa [Option.isSome_iff_ne_none] using hholder)

/-! ## A kept kind and a new kind -/

theorem pointSetOp_range {ops : List Word} {p : PointId} {c : PointCfg} (hparse : parsePoint ops s.pcfg = some (p, c))
    (h : c.kind = .level ∧ (s.pcfg p).kind ≠ .level ∧ s.freeQueue = none) : pointSetOp ops s = (stRange, s) := by
  rw [pointSetOp, hparse]
  exact if_pos h

section
variable {ops : List Word} {p : PointId} {c : PointCfg} (hparse : parsePoint ops s.pcfg = some (p, c))
  (hfree : ¬ (c.kind = .level ∧ (s.pcfg p).kind ≠ .level ∧ s.freeQueue = none))
include hparse hfree

theorem pointSetOp_busy (h : (s.pcfg p).kind = .command ∧ c.kind ≠ .command ∧ ownerOf s.cfg p ≠ .nobody) :
    pointSetOp ops s = (stBusy, s) := by
  rw [pointSetOp, hparse]
  exact (if_neg hfree).trans (if_pos h)

theorem pointSetOp_kept (h : c.kind = (s.pcfg p).kind) :
    pointSetOp ops s = (stDone, { s with cfg := { s.cfg with points := Tab.put s.cfg.points p c } }) := by
  rw [pointSetOp, hparse]
  exact (if_neg hfree).trans ((if_neg fun hb => hb.2.1 (h.trans hb.1)).trans (if_pos h))

theorem pointSetOp_anew (hbusy : (s.pcfg p).kind = .command → ownerOf s.cfg p = .nobody) (h : c.kind ≠ (s.pcfg p).kind) :
    pointSetOp ops s = (stDone, changeKind p c s) := by
  rw [pointSetOp, hparse]
  exact (if_neg hfree).trans ((if_neg fun hb => hb.2.2 (hbusy hb.1)).trans (if_neg h))
end

/-- The queue that a point of a new kind takes (R52). -/
def State.queueFor (s : State) (k : PointKind) : Option QueueId := if k = .level then s.freeQueue else none

/-- The point image with a point of a new kind, before its consumers are told. -/
def startedAfresh (p : PointId) (c : PointCfg) (s : State) : State :=
  let s1 := s.modCfg fun t => { t with points := Tab.put t.points p { c with queue := s.queueFor c.kind } }
  let s2 := match (s.pcfg p).queue with
    | some q => s1.modQueue q fun _ => {}
    | none => s1
  let s3 := match s.queueFor c.kind with
    | some q => s2.modQueue q fun _ => {}
    | none => s2
  s3.modPoint p fun _ => {}

theorem changeKind_eq (p : PointId) (c : PointCfg) (s : State) : changeKind p c s =
    deliverEvent { point := p, oldRaw := (s.point p).raw, oldQuality := (s.point p).quality, valueChanged := false,
                   qualityChanged := true } (startedAfresh p c s) := rfl

theorem startedAfresh_cfg (p : PointId) (c : PointCfg) (s : State) : (startedAfresh p c s).cfg =
    { s.cfg with points := Tab.put s.cfg.points p { c with queue := s.queueFor c.kind } } := by
  unfold startedAfresh
  simp only
  repeat' split
  all_goals rfl

theorem startedAfresh_point (p : PointId) (c : PointCfg) (s : State) (r : PointId) :
    (startedAfresh p c s).point r = if r = p then {} else s.point r := by
  unfold startedAfresh
  simp only
  rw [point_modPoint]
  repeat' split
  all_goals rfl

theorem levelQueue_modPoint (p : PointId) (f : PointState → PointState) (s : State) (q : QueueId) :
    (s.modPoint p f).levelQueue q = s.levelQueue q := rfl

theorem startedAfresh_levelQueue {p : PointId} {c : PointCfg} {q : QueueId} (h : s.queueFor c.kind = some q) :
    (startedAfresh p c s).levelQueue q = {} := by
  unfold startedAfresh
  simp only [h]
  exact (levelQueue_modPoint p _ _ q).trans ((levelQueue_modQueue q q _ _).trans (if_pos rfl))

theorem deliverEvent_atRest (ev : PointEvent) (s : State) : (deliverEvent ev s).AtRest := quiesce_atRest _

theorem changeKind_atRest (p : PointId) (c : PointCfg) (s : State) : (changeKind p c s).AtRest := by
  rw [changeKind_eq]
  exact deliverEvent_atRest ..

/-- A point of a new kind starts afresh (R46, R52). -/
theorem changeKind_inert (p : PointId) (c : PointCfg) (s : State) : (changeKind p c s).inert = (startedAfresh p c s).inert :=
  (congrArg State.inert (changeKind_eq p c s)).trans (deliverEvent_inert _ _)

theorem exec_pointSet {ops : List Word} {status : Nat} {tag : Tag} (hs : s.Altering) (h : pointSetOp ops s = (status, t)) (ht : t.AtRest) :
    exec (.pointSet tag ops) s = .next (answer tag 16 status [] t) := by
  refine exec_of_rest (congrArg (fun t => Host.Outcome.next (quiesce t)) ((configure_of_altering hs tag 16 _).trans ?_))
    (answer_atRest ht ..)
  rw [h]

/-- Settles O28: RANGE by `parsePoint_none` and `pointSetOp_range`, a kept kind by `pointSetOp_kept`, and a new kind by
`changeKind_inert` over `startedAfresh`. -/
theorem pointSet : Obligations.PointSet := by
  intro tag pw kind fresh lo hi mode more p s hs hp hkind hfresh ops k old c
  have hparse : (k = .level ∨ k = .analog → lo.toInt ≤ hi.toInt) → (k = .level → mode.toNat ≤ 1) →
      parsePoint ops s.pcfg = some (p, c) :=
    parsePoint_eq more s.pcfg hp hkind hfresh
  refine ⟨fun hrange => ?_, fun hraw herror hfree => ⟨fun hcommand hk howner => ?_, fun hk => ?_, fun hk howner => ?_⟩⟩
  · by_cases hnone : parsePoint ops s.pcfg = none
    · exact exec_configure hs rfl (by rw [pointSetOp, hnone]; rfl)
    · have hwords := mt (parsePoint_none more s.pcfg) hnone
      obtain ⟨hlevel, hold, hfull⟩ := (or_assoc.mpr hrange).resolve_left hwords
      obtain ⟨hraw, hmode⟩ := not_or.mp hwords
      exact exec_configure hs rfl (pointSetOp_range
        (hparse (fun hk => not_lt.mp fun hlt => hraw ⟨hk, hlt⟩) fun hk => not_lt.mp fun hlt => hmode ⟨hk, hlt⟩)
        ⟨hlevel, hold, freeQueue_eq_none.mpr hfull⟩)
  all_goals
    have hset := hparse hraw herror
    have hqueue : ¬ (c.kind = .level ∧ (s.pcfg p).kind ≠ .level ∧ s.freeQueue = none) := fun ⟨hlevel, hold, hnone⟩ =>
      have ⟨q, hq⟩ := hfree hlevel hold
      have ⟨r, hr⟩ := freeQueue_eq_none.mp hnone q
      hq r hr
  · exact exec_pointSet hs (pointSetOp_busy hset hqueue ⟨hcommand, hk, howner⟩) hs.atRest
  · exact exec_pointSet hs (pointSetOp_kept hset hqueue hk) hs.atRest
  · have hsame := changeKind_inert p c s
    have hcfg := (cfg_of_inert hsame).trans (startedAfresh_cfg p c s)
    obtain ⟨hquality, hraw, hconfirmed, -, htimer⟩ := samePoint_of_inert hsame p
    rw [startedAfresh_point, if_pos rfl] at hquality hraw hconfirmed htimer
    refine ⟨_, exec_pointSet hs (pointSetOp_anew hset hqueue howner hk) (changeKind_atRest p c s), ?_⟩
    simp only [State.point, State.levelQueue, answer_cfg, answer_pim]
    refine ⟨⟨s.queueFor k, hcfg, fun hlevel => if_neg hlevel, fun hlevel => ?_⟩, hquality, hraw, hconfirmed, htimer, fun r hr => ?_⟩
    · obtain ⟨q, hq⟩ := Option.ne_none_iff_exists'.mp fun hnone => hqueue ⟨hlevel, hlevel ▸ hk.symm, hnone⟩
      have hfor : s.queueFor k = some q := (if_pos hlevel).trans hq
      obtain ⟨hunheld, hlower⟩ := freeQueue_eq_some hq
      exact ⟨q, hfor, hunheld, (levelQueue_of_inert hsame q).trans (startedAfresh_levelQueue hfor), hlower⟩
    · obtain ⟨hquality, hraw, -, -, -⟩ := samePoint_of_inert hsame r
      rw [startedAfresh_point, if_neg hr] at hquality hraw
      exact ⟨hquality, hraw⟩

end Sys2Proof.Machine
end

section
/-! PROOFS. SNAPSHOT_TAKE (R181), SNAPSHOT_NEXT (R182) and STATUS_CLEAR (R180). -/

namespace Sys2Proof.Machine

variable {s t : State} {tag : Tag}

/-! ## The parts of a snapshot -/

/-- The parts of one record, with the heading words as they are spelled (R182). -/
theorem snapshotParts_eq {cls index : Nat} (hcls : cls < 65536) (hindex : index < 60000) (fields : List Word) :
    snapshotParts cls index fields =
      if fields.length ≤ 12 then [BitVec.ofNat 16 cls :: BitVec.ofNat 16 index :: fields]
      else [BitVec.ofNat 16 cls :: BitVec.ofNat 16 index :: fields.take 12,
        BitVec.ofNat 16 cls :: BitVec.ofNat 16 (3072 + index) :: fields.drop 12] := by
  rw [snapshotParts, word_of_lt hcls, word_of_lt (n := index) (by omega), word_of_lt (n := index + 12 * 256) (by omega),
    Nat.add_comm index]

/-- A record of at most 24 fields gives parts of at most 12 fields under the two heading words. -/
theorem length_le_of_mem_snapshotParts {cls index : Nat} {fields part : List Word} (hfields : fields.length ≤ 24)
    (h : part ∈ snapshotParts cls index fields) : part.length ≤ 14 := by
  unfold snapshotParts at h
  split at h
  case isTrue hshort =>
    obtain rfl := List.mem_singleton.mp h
    simp only [List.length_cons]
    omega
  case isFalse =>
    simp only [List.mem_cons, List.not_mem_nil, or_false] at h
    obtain rfl | rfl := h <;> simp <;> omega

theorem length_snapshotParts (cls index : Nat) (fields : List Word) :
    (snapshotParts cls index fields).length = if fields.length ≤ 12 then 1 else 2 := by
  unfold snapshotParts
  split <;> rfl

/-! ### How many fields the records have -/

theorem length_entryWords (p : Option PointId) : (s.entryWords p).length = 2 := by
  unfold State.entryWords
  split <;> rfl

theorem length_stageWords (s : State) : (stageWords s).length = 11 := rfl
theorem length_supplyWords (s : State) : (supplyWords s).length = 14 := rfl
theorem length_sumpWords (s : State) (k : SumpId) : (sumpWords s k).length = 14 := rfl
theorem length_pumpWords (s : State) (p : PumpId) : (pumpWords s p).length = 14 := by simp [pumpWords, length_entryWords]
theorem length_barrierWords (s : State) (b : BarrierId) : (barrierWords s b).length = 11 := by simp [barrierWords, length_entryWords]
theorem length_gateWords (s : State) : (gateWords s).length = 9 := by simp [gateWords, length_entryWords]
theorem length_zoneWords (s : State) (z : ZoneId) : (zoneWords s z).length = 14 := by simp [zoneWords, length_entryWords]

theorem length_snapshotNow (s : State) : (snapshotNow s).length = 44 := by
  simp only [snapshotNow, List.length_append, List.length_flatMap, length_snapshotParts, length_stageWords, length_supplyWords,
    length_sumpWords, length_pumpWords, length_barrierWords, length_gateWords, length_zoneWords]
  rfl

theorem length_le_of_mem_snapshotNow {part : List Word} (h : part ∈ snapshotNow s) : part.length ≤ 14 := by
  simp only [snapshotNow, List.mem_append, List.mem_flatMap] at h
  obtain (((((h | h) | ⟨k, -, h⟩) | ⟨p, -, h⟩) | ⟨b, -, h⟩) | h) | ⟨z, -, h⟩ := h <;>
    refine length_le_of_mem_snapshotParts ?_ h
  · simp [length_stageWords]
  · simp [length_supplyWords]
  · simp [length_sumpWords]
  · simp [length_pumpWords]
  · simp [length_barrierWords]
  · simp [length_gateWords]
  · simp [length_zoneWords]

/-! ## SNAPSHOT_NEXT -/

theorem exec_snapshotNext {status : Nat} {data : List Word} (hs : s.Taking) (h : snapshotNextOp s = (status, data, t)) (ht : t.AtRest) :
    exec (.snapshotNext tag) s = .next (answer tag 41 status data t) := exec_read hs rfl h ht

theorem snapshotNextOp_part {parts : List (List Word)} {n : Nat} {part : List Word} (h : s.mgu.snapshot = some (parts, n))
    (hpart : parts[n]? = some part) :
    snapshotNextOp s = (stDone, part, { s with mgu := { s.mgu with snapshot := some (parts, n + 1) } }) := by
  simp only [snapshotNextOp, h, hpart]
  rfl

theorem snapshotNextOp_past {parts : List (List Word)} {n : Nat} (h : s.mgu.snapshot = some (parts, n)) (hpast : parts.length ≤ n) :
    snapshotNextOp s = (stDone, [15, 0], s) := by
  simp only [snapshotNextOp, h, List.getElem?_eq_none hpast]

theorem snapshotNextOp_empty (h : s.mgu.snapshot = none) : snapshotNextOp s = (stDone, [15, 0], s) := by
  simp only [snapshotNextOp, h]

/-! ## STATUS_CLEAR -/

theorem exec_statusClear (hs : s.Taking) (h : statusClearOp tag s = t) (ht : t.AtRest) : exec (.statusClear tag) s = .next t :=
  exec_of_rest (congrArg (fun t => Host.Outcome.next (quiesce t)) ((takeOp_of_taking hs tag 54 (statusClearOp tag)).trans h)) ht

/-- The sticky flags of the queues are cleared at once (R180). -/
def clearQueues (s : State) : State := s.modPim fun m => { m with queues := m.queues.map clearQueueFlags }

theorem statusClearOp_idle (h : s.sau.cycle = none) : statusClearOp tag s = answer tag 54 stDone [] (clearSumps (clearQueues s)) :=
  if_neg (by rw [h]; decide)

theorem statusClearOp_inCycle (h : s.sau.cycle.isSome = true) : statusClearOp tag s = deferOp (.statusClear tag) (clearQueues s) :=
  if_pos h

/-- Settles O59: the parts by `length_snapshotNow` and `length_le_of_mem_snapshotNow`, SNAPSHOT_NEXT by the three cases of
`snapshotNextOp`, and STATUS_CLEAR with and without a cycle in flight. -/
theorem snapshotAndStatusClear : Obligations.SnapshotAndStatusClear := by
  intro tag s hs completed
  refine ⟨?_, fun parts n h => ⟨fun part hpart => ?_, fun hpast => ?_⟩, fun h => ?_, ?_⟩
  · intro split parts
    have hcompleted : completed = s.atCompletion := by
      unfold completed State.atCompletion
      cases s.sau.cycle <;> rfl
    have hsplit : ∀ cls index fields, cls < 65536 → index < 60000 → split cls index fields = snapshotParts cls index fields :=
      fun cls index fields hcls hindex => (snapshotParts_eq hcls hindex fields).symm
    have hlist : ∀ {n : Nat} (cls : Nat) (f : Fin n → List Word), cls < 65536 → n < 59999 →
        (List.finRange n).flatMap (fun k => split cls (k.val + 1) (f k)) =
          (List.finRange n).flatMap fun k => snapshotParts cls (k.val + 1) (f k) := fun cls f hcls hn =>
      congrArg (List.flatMap · _) (funext fun k => hsplit cls _ (f k) hcls (by omega))
    have hparts : parts = snapshotNow s := by
      simp only [parts, hsplit, hlist, Nat.reduceLT, hcompleted]
      rfl
    rw [hparts]
    exact ⟨length_snapshotNow s, fun x hx => length_le_of_mem_snapshotNow hx, exec_read hs rfl rfl (hs.atRest.of_same rfl rfl)⟩
  · exact exec_snapshotNext hs (snapshotNextOp_part h hpart) (hs.atRest.of_same rfl rfl)
  · exact exec_snapshotNext hs (snapshotNextOp_past h hpast) hs.atRest
  · exact exec_snapshotNext hs (snapshotNextOp_empty h) hs.atRest
  · intro pim
    refine ⟨fun hidle => ?_, fun hcycle => ?_⟩
    · exact exec_statusClear hs (statusClearOp_idle hidle)
        (answer_atRest (s := clearSumps (clearQueues s)) (hs.atRest.of_same rfl rfl) ..)
    · exact exec_statusClear hs (statusClearOp_inCycle hcycle) (hs.atRest.of_same rfl rfl)

end Sys2Proof.Machine
end

section
/-! PROOFS. POINT_GET (R60) and RECORD_GET of the classes STAGE (R100), SUPPLY (R127), AUTHORITY (R113) and LEVEL_QUEUE (R56). -/

namespace Sys2Proof.Machine

variable {s t : State} {tag : Tag} {ops : List Word}

/-! ## The operands of a RECORD_GET -/

theorem recordOp_done {n first : Nat} {i : Fin n} {c : Bool} (data : State → Fin n → List Word) (clear : Fin n → State → State)
    (hi : opIndex n ops 0 first = some i) (hc : opFlag ops 1 = some c) :
    recordOp n first data clear ops s = (stDone, data s i, if c = true then clear i s else s) := by
  simp only [recordOp, hi, hc]

theorem recordOp_range {n first : Nat} (data : State → Fin n → List Word) (clear : Fin n → State → State)
    (h : opIndex n ops 0 first = none ∨ opFlag ops 1 = none) : recordOp n first data clear ops s = (stRange, [], s) := by
  obtain h | h := h
  · simp only [recordOp, h]
  · simp only [recordOp, h]
    cases opIndex n ops 0 first <;> rfl

/-- A read of a class with one record. -/
theorem recordOp_single {c : Bool} {data : State → List Word} {clear : State → State}
    (hi : opIndex 1 ops 0 0 = some 0) (hc : opFlag ops 1 = some c) :
    recordOp 1 0 (fun s _ => data s) (fun _ => clear) ops s = (stDone, data s, if c = true then clear s else s) :=
  recordOp_done _ _ hi hc

section
variable (hs : s.Taking)
include hs

theorem exec_recordGetStage {status : Nat} {data : List Word} (h : stageRead ops s = (status, data, t)) (ht : t.AtRest) :
    exec (.recordGetStage tag ops) s = .next (answer tag 32 status data t) := exec_read hs rfl h ht

theorem exec_recordGetSupply {status : Nat} {data : List Word} (h : supplyRead ops s = (status, data, t)) (ht : t.AtRest) :
    exec (.recordGetSupply tag ops) s = .next (answer tag 32 status data t) := exec_read hs rfl h ht

theorem exec_recordGetAuthority {status : Nat} {data : List Word} (h : authorityRead ops s = (status, data, t)) (ht : t.AtRest) :
    exec (.recordGetAuthority tag ops) s = .next (answer tag 32 status data t) := exec_read hs rfl h ht

theorem exec_recordGetLevelQueue {status : Nat} {data : List Word} (h : queueRead ops s = (status, data, t)) (ht : t.AtRest) :
    exec (.recordGetLevelQueue tag ops) s = .next (answer tag 32 status data t.nextFree) :=
  exec_read hs rfl (by rw [h]) (ht.of_same rfl rfl)

theorem exec_pointGet {status : Nat} {data : List Word} (h : pointGetOp ops s = (status, data, t)) (ht : t.AtRest) :
    exec (.pointGet tag ops) s = .next (answer tag 17 status data t) := exec_read hs rfl h ht

/-- The three classes of one record are refused by the same operands. -/
theorem exec_singleRecords_range (h : opIndex 1 ops 0 0 = none ∨ opFlag ops 1 = none) :
    exec (.recordGetStage tag ops) s = .next (answer tag 32 2 [] s) ∧
    exec (.recordGetSupply tag ops) s = .next (answer tag 32 2 [] s) ∧
    exec (.recordGetAuthority tag ops) s = .next (answer tag 32 2 [] s) :=
  ⟨exec_recordGetStage hs (recordOp_range _ _ h) hs.atRest, exec_recordGetSupply hs (recordOp_range _ _ h) hs.atRest,
    exec_recordGetAuthority hs (recordOp_range _ _ h) hs.atRest⟩

theorem exec_recordGetLevelQueue_range (h : opIndex 8 ops 0 0 = none ∨ opFlag ops 1 = none) :
    ∃ n, exec (.recordGetLevelQueue tag ops) s = .next (answer tag 32 2 [] { s with free := n }) :=
  ⟨s.free + 1, exec_recordGetLevelQueue hs (recordOp_range _ _ h) hs.atRest⟩
end

theorem opIndex_beyond {n : Nat} {w : Word} (h : n ≤ w.toNat) (more : List Word) : opIndex n (w :: more) 0 0 = none := by
  rw [opIndex_eq_none_iff, List.getD_cons_zero]
  omega

/-! ## The words of the records -/

theorem ceilDiv_thousand (n : Nat) : ceilDiv n 1000 = (n + 999) / 1000 := by rw [ceilDiv, Nat.add_sub_assoc (by decide)]
theorem ceilDiv_hundred (n : Nat) : ceilDiv n 100 = (n + 99) / 100 := by rw [ceilDiv, Nat.add_sub_assoc (by decide)]

theorem stageFlags_eq (s : State) : s.stageFlags =
    flagBit 0 s.stc.reopenReady ||| flagBit 1 s.stc.derivePending ||| flagBit 2 s.stc.holdRequest ||| flagBit 3 s.stc.allClosed |||
      flagBit 4 s.stc.allOpen ||| flagBit 5 s.stc.descent.isRunning ||| flagBit 6 s.stc.reopen.isRunning := by
  rw [State.stageFlags, flagWord_eq_foldl]
  simp only [List.foldl_cons, List.foldl_nil, BitVec.zero_or]

theorem counted_eq (s : State) (o : Option PointId) : s.counted o =
    o.any fun p => !((s.point p).quality == .never) && (s.pcfg p).kind == .discrete && (s.point p).raw == 1 := by
  cases o <;> rfl

theorem supplyFlags_eq (s : State) : s.supplyFlags =
    flagBit 0 s.lau.shedDemand ||| flagBit 1 s.lau.clearToStart ||| flagBit 2 (s.counted s.cfg.supply.mains) |||
      flagBit 3 (s.counted s.cfg.supply.generator) |||
      ((s.lau.shedOrder.map fun p => BitVec.ofNat 16 (16 * (p.val + 1))).getD 0) := by
  unfold State.supplyFlags
  rw [flagWord_eq_foldl]
  simp only [List.foldl_cons, List.foldl_nil, BitVec.zero_or]
  congr 1
  cases s.lau.shedOrder with
  | none => rfl
  | some p => revert p; decide

theorem headWait_eq (s : State) : s.headWait = match s.lau.queue with
    | [] => 0
    | r :: _ =>
      if s.allowance < s.lau.committed + r.runKw + r.extra then 1
      else if s.lau.window.isSome = true ∧ r.extra ≠ 0 then 2
      else if s.lau.clearToStart = false ∧ r.cls ≠ 3 then 3
      else if s.stc.hold = .held then 4 else 0 := by
  unfold State.headWait
  cases s.lau.queue with
  | nil => rfl
  | cons r rest => simp [State.fits, State.windowFree, State.clearFor, State.notHeld]

theorem supplyWords_eq (s : State) : supplyWords s =
    [word s.lau.mode.code, word s.allowance, word s.lau.committed, word s.lau.pumpPart, word s.lau.motorPart, word s.lau.lightingPart,
      word s.lau.inrushPart, word s.lau.queue.length, (s.lau.queue.head?.map fun r => word r.device.code).getD 0,
      (s.lau.queue.head?.map fun r => word r.cls).getD 0, word s.headWait, (s.lau.window.map fun w => word w.device.code).getD 0,
      (s.lau.window.map fun w => word ((w.timer.left s.now + 99) / 100)).getD 0, s.supplyFlags] := by
  unfold supplyWords
  simp only [ceilDiv_hundred]
  cases s.lau.queue <;> cases s.lau.window <;> rfl

theorem nearestExpiry_eq (s : State) :
    s.nearestExpiry = (s.cau.overrides.map fun e => (e.expiry - s.now + 59999) / 60000).min?.getD 0 := by
  unfold State.nearestExpiry
  cases s.cau.overrides with
  | nil => rfl
  | cons e rest =>
    rw [List.map_cons, List.min?_cons', List.foldl_map]
    rfl

theorem keyQuality_word (s : State) :
    word s.keyQuality = (s.cfg.supply.panelKey.map fun p => word (s.point p).quality.code).getD 0 := by
  unfold State.keyQuality
  cases s.cfg.supply.panelKey <;> rfl

/-- Writing back what a place holds changes nothing. -/
theorem put_get_self {α : Type} {n : Nat} (v : Vector α n) (i : Fin n) : Tab.put v i (Tab.get v i) = v :=
  Vector.set_getElem_self ..

theorem modQueue_id (q : QueueId) (s : State) : s.modQueue q (fun x => x) = s :=
  congrArg (fun v => { s with pim := { s.pim with queues := v } }) (put_get_self s.pim.queues q)

/-- The sticky flags of a queue cleared, or the queue as it stands, by the clear operand. -/
theorem clearRead_eq (q : QueueId) (c : Bool) (s : State) :
    (if c = true then s.modQueue q clearQueueFlags else s) =
      s.modQueue q fun x => if c = true then clearQueueFlags x else x := by
  cases c with
  | true => rfl
  | false => exact (modQueue_id q s).symm

theorem queueWords_eq (s : State) (q : QueueId) : queueWords s q =
    [wordPoint (s.queueHolder q),
      (match s.queueHolder q with
        | some p => flagBit 0 ((s.pcfg p).errorMode == .accumulated)
        | none => Config.unstatedWord 3 s.free),
      word (s.levelQueue q).entries.length, flagBit 0 (s.levelQueue q).overrun, flagBit 0 (s.levelQueue q).accInvalid,
      flagBit 0 (s.levelQueue q).accRange] := by
  unfold queueWords
  cases s.queueHolder q with
  | none => rfl
  | some p =>
    simp only [flagBit, beq_iff_eq]
    rfl

/-! ## POINT_GET -/

theorem qualityWord_eq (k : PointKind) (x : PointState) : qualityWord k x =
    word x.quality.code ||| if k = .command then BitVec.ofNat 16 (16384 * x.command.code) else 0 := by
  have hshift : word x.command.code <<< 14 = BitVec.ofNat 16 (16384 * x.command.code) := by cases x.command <;> decide
  rw [qualityWord, hshift]

/-- The word that names the device of an owner (R60). -/
def ownerIndex (free : Nat) : Owner → Word
  | .nobody => 0
  | .pump i => BitVec.ofNat 16 (i.val + 1)
  | .barrier b => BitVec.ofNat 16 (b.val + 1)
  | .signal b => BitVec.ofNat 16 (b.val + 1)
  | .gate => Config.unstatedWord 2 free
  | .zone z => BitVec.ofNat 16 (z.val + 1)

/-- The word that names what kind of device an owner is (R60). -/
def ownerClass : Owner → Word
  | .nobody => 0 | .pump _ => 1 | .barrier _ => 2 | .signal _ => 3 | .gate => 4 | .zone _ => 5

theorem ownerIndex_eq (free : Nat) (o : Owner) : (match o with
    | .nobody => 0
    | .pump i => word (i.val + 1)
    | .barrier b => word (b.val + 1)
    | .signal b => word (b.val + 1)
    | .gate => Config.unstatedWord 2 free
    | .zone z => word (z.val + 1)) = ownerIndex free o := by
  cases o with
  | nobody | gate => rfl
  | pump i => exact word_of_lt (by omega)
  | barrier b | signal b => exact word_of_lt (by omega)
  | zone z => exact word_of_lt (by omega)

theorem pointWords_eq (s : State) (p : PointId) : pointWords s p =
    let k := (s.pcfg p).kind
    let x := s.point p
    let owner := if k = .command then ownerOf s.cfg p else .nobody
    [word k.code, if k = .unused then 0 else word (s.pcfg p).freshness,
      if k = .unused then 0 else if x.quality = .never then 0 else word (min 65535 ((s.now - x.since) / 100)),
      (if k = .unused then 0 else word x.quality.code) ||| (if k = .command then BitVec.ofNat 16 (16384 * x.command.code) else 0),
      if k = .unused then 0 else if k = .command then 0 else x.raw,
      if k = .level ∨ k = .analog then (s.pcfg p).rawMin else 0, if k = .level ∨ k = .analog then (s.pcfg p).rawMax else 0,
      flagBit 0 (k == .level && (s.pcfg p).errorMode == .accumulated),
      ((s.pcfg p).queue.map fun q => BitVec.ofNat 16 q.val).getD 8, ownerClass owner, ownerIndex s.free owner,
      if k = .unused then 0 else flagBit 0 x.changed, if k = .command then x.commanded else 0,
      if k = .command then x.confirmed else 0] := by
  have hused : ∀ (k : PointKind) (w : Word), (if (!(k == .unused)) = true then w else 0) = if k = .unused then 0 else w :=
    fun k w => by cases k <;> rfl
  have hraw : ∀ (k : PointKind) (w : Word), (if (!(k == .unused) && !(k == .command)) = true then w else 0) =
      if k = .unused then 0 else if k = .command then 0 else w := fun k w => by cases k <;> rfl
  have hquality : ∀ (k : PointKind) (x : PointState), (if k = .unused then 0 else qualityWord k x) =
      (if k = .unused then 0 else word x.quality.code) ||| if k = .command then BitVec.ofNat 16 (16384 * x.command.code) else 0 :=
    fun k x => by
      rw [qualityWord_eq]
      cases k <;> simp
  unfold pointWords
  simp only [hused, hraw, hquality, PointKind.ranged_iff, beq_iff_eq, List.cons.injEq, and_true, true_and]
  refine ⟨?_, ?_, ?_, rfl, ownerIndex_eq .., rfl⟩
  · exact ite_congr rfl (fun _ => rfl) fun _ => (apply_ite word ..).trans (ite_congr rfl (fun _ => rfl) fun _ => rfl)
  · exact ite_congr (by rw [Bool.and_eq_true, beq_iff_eq]) (fun _ => rfl) fun _ => rfl
  · cases (s.pcfg p).queue with
    | none => rfl
    | some q => exact word_of_lt (by omega)

theorem pointGetOp_done {p : PointId} (h : opIndex 256 ops 0 0 = some p) : pointGetOp ops s =
    (stDone, pointWords s p, s.nextFree.modPoint p fun t => { t with changed := false }) := by
  simp only [pointGetOp, h]

theorem pointGetOp_range (h : opIndex 256 ops 0 0 = none) : pointGetOp ops s = (stRange, [], s) := by
  simp only [pointGetOp, h]


/-- Settles O57: each class by the equation of its words, the ranges by `exec_singleRecords_range` and `opIndex_beyond`. -/
theorem controlReads : Obligations.ControlReads := by
  intro tag i clear more s hs ops bit secs point one stc lau pumps motors zones inrush committed headWait
  have hindex : ∀ {n : Nat} {k : Fin n}, i.toNat = k.val → opIndex n ops 0 0 = some k := fun h => opIndex_eq (first := 0) rfl h
  have hflag : clear.toNat ≤ 1 → opFlag ops 1 = some (clear == 1) := opFlag_eq rfl
  have hnoflag : 1 < clear.toNat → opFlag ops 1 = none := fun h => (opFlag_eq_ite ..).trans (if_neg fun hle => Nat.not_le.mpr h hle.2)
  have hfew : ∀ few : List Word, few.length < 2 → opFlag few 1 = none := fun few h => by
    rw [opFlag_eq_ite]
    exact if_neg fun hle => by omega
  refine ⟨fun hi hclear => ⟨?_, ?_, ?_⟩, fun hrange => exec_singleRecords_range hs ?_, fun q hq hclear => ?_,
    fun hrange => exec_recordGetLevelQueue_range hs ?_, fun few h => ?_, fun p hp => ?_, fun hrange => ?_, ?_⟩
  · subst hi
    rw [exec_recordGetStage hs (recordOp_single (hindex rfl) (hflag hclear)) (by split <;> exact hs.atRest), ite_self, stageWords,
      stageFlags_eq, secondsLeft, secondsLeft, ceilDiv_thousand, ceilDiv_thousand]
    rfl
  · subst hi
    rw [exec_recordGetSupply hs (recordOp_single (hindex rfl) (hflag hclear)) (by split <;> exact hs.atRest), ite_self,
      supplyWords_eq, supplyFlags_eq, headWait_eq, counted_eq, counted_eq]
    rfl
  · subst hi
    rw [exec_recordGetAuthority hs (recordOp_single (hindex rfl) (hflag hclear)) (by split <;> exact hs.atRest), authorityWords,
      nearestExpiry_eq, keyQuality_word]
    simp only [beq_iff_eq]
    rfl
  · obtain hi | hclear := hrange
    · exact .inl (opIndex_beyond (Nat.one_le_iff_ne_zero.mpr fun h => hi (BitVec.eq_of_toNat_eq h)) _)
    · exact .inr (hnoflag hclear)
  · intro x kept
    rw [exec_recordGetLevelQueue hs (recordOp_done _ _ (hindex hq) (hflag hclear)) (by split <;> exact hs.atRest), queueWords_eq,
      clearRead_eq]
    simp only [beq_iff_eq]
    rfl
  · obtain hi | hclear := hrange
    · exact .inl (opIndex_beyond hi _)
    · exact .inr (hnoflag hclear)
  · have hnone : opIndex 1 few 0 0 = none ∨ opFlag few 1 = none := .inr (hfew few h)
    obtain ⟨hstage, hsupply, hauthority⟩ := exec_singleRecords_range hs hnone
    exact ⟨hstage, hsupply, hauthority, exec_recordGetLevelQueue_range hs (.inr (hfew few h))⟩
  · intro c x ifUsed ifRanged ifCommand owner
    rw [exec_pointGet hs (pointGetOp_done (opIndex_eq (first := 0) rfl hp)) (hs.atRest.of_same rfl rfl), pointWords_eq]
    rfl
  · exact exec_pointGet hs (pointGetOp_range (opIndex_beyond hrange _)) hs.atRest
  · exact exec_pointGet hs (pointGetOp_range rfl) hs.atRest

end Sys2Proof.Machine
end

section
/-! PROOFS. The beginning of a DRAINAGE CYCLE (R54, R55, R66, R67, R76). -/

namespace Sys2Proof.Machine

variable {s t : State}

/-! ## The drains of a cycle -/

/-- The state with the given level sample queues. -/
def State.withQueues (s : State) (v : Vector LevelQueue 8) : State := { s with pim := { s.pim with queues := v } }

theorem withQueues_self (t : State) : t.withQueues t.pim.queues = t := rfl

theorem drainPoint_withQueues (v : Vector LevelQueue 8) (p : PointId) (s : State) :
    (drainPoint p s).2.withQueues v = s.withQueues v := by
  unfold drainPoint
  simp only
  split <;> rfl

theorem drainPoints_withQueues (v : Vector LevelQueue 8) (l : List PointId) (s : State) :
    (drainPoints l s).2.withQueues v = s.withQueues v := by
  induction l generalizing s with
  | nil => rfl
  | cons p l ih => exact (ih _).trans (drainPoint_withQueues v p s)

/-- A drain request changes the level sample queues alone. -/
theorem drainPoints_rest (l : List PointId) (s : State) :
    (drainPoints l s).2 = s.withQueues (drainPoints l s).2.pim.queues :=
  (withQueues_self _).symm.trans (drainPoints_withQueues _ l s)

theorem drainPoint_pcfg (p r : PointId) (s : State) : (drainPoint p s).2.pcfg r = s.pcfg r :=
  (congrArg (fun t : State => t.pcfg r) (drainPoint_withQueues s.pim.queues p s) :)

theorem drainPoint_point (p r : PointId) (s : State) : (drainPoint p s).2.point r = s.point r :=
  (congrArg (fun t : State => t.point r) (drainPoint_withQueues s.pim.queues p s) :)

theorem drainPoint_levelQueue_other {p : PointId} {q : QueueId} (h : (s.pcfg p).queue ≠ some q) :
    (drainPoint p s).2.levelQueue q = s.levelQueue q := by
  unfold drainPoint
  simp only
  split
  · rfl
  · next q' hq' => exact (levelQueue_modQueue q' q _ s).trans (if_neg fun he => h (hq'.trans (congrArg some he.symm)))

theorem drainPoints_levelQueue_other {l : List PointId} {q : QueueId} (h : ∀ p ∈ l, (s.pcfg p).queue ≠ some q) :
    (drainPoints l s).2.levelQueue q = s.levelQueue q := by
  induction l generalizing s with
  | nil => rfl
  | cons p l ih =>
    obtain ⟨hp, hl⟩ := List.forall_mem_cons.mp h
    exact (ih (s := (drainPoint p s).2) fun r hr => by rw [drainPoint_pcfg]; exact hl r hr).trans (drainPoint_levelQueue_other hp)

/-- What a drain holds of its point, whatever its queue (R54). -/
structure Drain.Of (x : Drain) (s : State) : Prop where
  quality : x.quality = (s.point x.point).quality
  mode : x.mode = (s.pcfg x.point).errorMode
  unheld : (s.pcfg x.point).queue = none → x.entries = [] ∧ x.suspect = false

/-- What a drain holds of the queue of its point, and what it leaves there (R54, R55). -/
structure Drain.Took (x : Drain) (old new : LevelQueue) : Prop where
  entries : x.entries = old.entries
  overrun : x.overrun = old.overrun
  suspect : x.suspect = (drainQueue x.mode old).1
  left : new = (drainQueue x.mode old).2

theorem drainPoint_name (p : PointId) (s : State) : (drainPoint p s).1.point = p := by
  unfold drainPoint
  simp only
  split <;> rfl

theorem drainPoint_of (p : PointId) (s : State) : (drainPoint p s).1.Of s := by
  unfold drainPoint
  simp only
  split
  · exact ⟨rfl, rfl, fun _ => ⟨rfl, rfl⟩⟩
  · next q hq => exact ⟨rfl, rfl, fun hnone => by simp [hq] at hnone⟩

theorem drainPoint_took {p : PointId} {q : QueueId} (h : (s.pcfg p).queue = some q) :
    (drainPoint p s).1.Took (s.levelQueue q) ((drainPoint p s).2.levelQueue q) := by
  unfold drainPoint
  simp only [h]
  exact ⟨rfl, rfl, rfl, (levelQueue_modQueue q q _ s).trans (if_pos rfl)⟩

theorem drainPoints_names (l : List PointId) (s : State) : (drainPoints l s).1.map Drain.point = l := by
  induction l generalizing s with
  | nil => rfl
  | cons p l ih => exact congrArg₂ List.cons (drainPoint_name p s) (ih _)

theorem drainPoints_of {l : List PointId} {x : Drain} (hx : x ∈ (drainPoints l s).1) : x.Of s := by
  induction l generalizing s with
  | nil => exact absurd hx (by simp [drainPoints])
  | cons p l ih =>
    obtain rfl | hx := List.mem_cons.mp hx
    · exact drainPoint_of p s
    · obtain ⟨hquality, hmode, hunheld⟩ := ih hx
      rw [drainPoint_pcfg] at hmode hunheld
      rw [drainPoint_point] at hquality
      exact ⟨hquality, hmode, hunheld⟩

/-- With no queue shared, each drain takes the queue of its point as it stood before the request. -/
theorem drainPoints_took {l : List PointId} {x : Drain} {q : QueueId} (hl : l.Nodup)
    (hown : ∀ p r, (s.pcfg p).queue.isSome = true → (s.pcfg p).queue = (s.pcfg r).queue → p = r)
    (hx : x ∈ (drainPoints l s).1) (hq : (s.pcfg x.point).queue = some q) :
    x.Took (s.levelQueue q) ((drainPoints l s).2.levelQueue q) := by
  induction l generalizing s with
  | nil => exact absurd hx (by simp [drainPoints])
  | cons p l ih =>
    obtain ⟨hnot, hl⟩ := List.nodup_cons.mp hl
    have hapart : ∀ {a b : PointId}, (s.pcfg a).queue = some q → a ≠ b → (s.pcfg b).queue ≠ some q := fun ha hne hb =>
      hne (hown _ _ (by rw [ha]; rfl) (ha.trans hb.symm))
    obtain rfl | hx := List.mem_cons.mp hx
    · rw [drainPoint_name] at hq
      have hkept := drainPoints_levelQueue_other (s := (drainPoint p s).2) (l := l) (q := q) fun r hr => by
        rw [drainPoint_pcfg]
        exact hapart hq fun he => hnot (he ▸ hr)
      exact hkept ▸ drainPoint_took hq
    · have hmem : x.point ∈ l := by
        rw [← drainPoints_names l (drainPoint p s).2]
        exact List.mem_map_of_mem hx
      have hkept : (drainPoint p s).2.levelQueue q = s.levelQueue q :=
        drainPoint_levelQueue_other (hapart hq fun he => hnot (he ▸ hmem))
      refine hkept ▸ ih hl (fun a b => ?_) hx (by rw [drainPoint_pcfg]; exact hq)
      rw [drainPoint_pcfg, drainPoint_pcfg]
      exact hown a b

/-! ## The points that are drained -/

theorem mem_fours (k : Fin 4) : k ∈ fourIds := by revert k; decide

theorem mem_configuredSumps {k : SumpId} : k ∈ s.configuredSumps ↔ (s.sumpCfg k).primary.isSome = true := by
  simp [State.configuredSumps, SumpCfg.configured, mem_fours]

theorem mem_drainNames {p : PointId} : p ∈ s.drainNames ↔
    ∃ k : SumpId, (s.sumpCfg k).primary.isSome = true ∧ ((s.sumpCfg k).primary = some p ∨ (s.sumpCfg k).backup = some p) := by
  simp [State.drainNames, List.mem_eraseDups, mem_configuredSumps]

theorem nodup_eraseDups {α : Type} [BEq α] [LawfulBEq α] : ∀ l : List α, l.eraseDups.Nodup
  | [] => List.nodup_nil
  | a :: l => by
    rw [List.eraseDups_cons, List.nodup_cons, List.mem_eraseDups]
    exact ⟨by simp, nodup_eraseDups _⟩
termination_by l => l.length
decreasing_by exact Nat.lt_succ_of_le (List.length_filter_le ..)

theorem drainNames_nodup (s : State) : s.drainNames.Nodup := nodup_eraseDups _

/-! ## The sticky flags of the sumps -/

/-- The state with the given sump records. -/
def State.withSumps (s : State) (v : Vector SumpState 4) : State := { s with sau := { s.sau with sumps := v } }

theorem noteCycleDrains_rest (l : List Drain) (s : State) : noteCycleDrains l s = s.withSumps (noteCycleDrains l s).sau.sumps :=
  (foldl_field (fun t : State => t.withSumps (noteCycleDrains l s).sau.sumps)
    (g := fun s k => s.modSump k (SumpState.noteDrains ((s.sumpCfg k).drainsOf l))) (fun _ _ => rfl) s.configuredSumps s :)

theorem sump_modSump (k j : SumpId) (f : SumpState → SumpState) (s : State) :
    (s.modSump k f).sump j = if j = k then f (s.sump k) else s.sump j := Tab.get_put ..

theorem foldl_noteDrains_sump (l : List Drain) {ks : List SumpId} (hks : ks.Nodup) (s : State) (k : SumpId) :
    (ks.foldl (fun s k => s.modSump k (SumpState.noteDrains ((s.sumpCfg k).drainsOf l))) s).sump k =
      if k ∈ ks then (s.sump k).noteDrains ((s.sumpCfg k).drainsOf l) else s.sump k := by
  induction ks generalizing s with
  | nil => rfl
  | cons j ks ih =>
    obtain ⟨hj, hks⟩ := List.nodup_cons.mp hks
    rw [List.foldl_cons, ih hks, sump_modSump]
    by_cases hk : k = j
    · subst hk
      rw [if_neg hj, if_pos rfl, if_pos List.mem_cons_self]
    · simp only [List.mem_cons, hk, false_or, if_false]
      rfl

theorem configuredSumps_nodup (s : State) : s.configuredSumps.Nodup := List.Nodup.filter _ (by decide)

theorem noteCycleDrains_sump (l : List Drain) (s : State) (k : SumpId) : (noteCycleDrains l s).sump k =
    if (s.sumpCfg k).primary.isSome = true then (s.sump k).noteDrains ((s.sumpCfg k).drainsOf l) else s.sump k := by
  rw [noteCycleDrains, foldl_noteDrains_sump l (configuredSumps_nodup s)]
  simp only [mem_configuredSumps]

/-! ## The cycle -/

/-- The cycle that begins (R66): the drains of the points named and what stood before them. -/
def State.cycleBegun (s : State) : Cycle :=
  { interval := s.sau.timerPeriod, drains := (drainPoints s.drainNames s).1
    outflow := #v[s.outflow 0, s.outflow 1, s.outflow 2, s.outflow 3]
    overrunBefore := #v[(s.sump 0).overrun, (s.sump 1).overrun, (s.sump 2).overrun, (s.sump 3).overrun]
    invalidBefore := #v[(s.sump 0).invalidSeen, (s.sump 1).invalidSeen, (s.sump 2).invalidSeen, (s.sump 3).invalidSeen] }

theorem get_four {α : Type} (f : Fin 4 → α) (k : Fin 4) : Tab.get #v[f 0, f 1, f 2, f 3] k = f k := by
  match k with
  | 0 | 1 | 2 | 3 => rfl

theorem outflow_eq (s : State) (k : SumpId) : s.outflow k =
    ((pumpIds.filter fun p => (s.pumpCfg p).enable && (s.pumpCfg p).sump == k && (s.pump p).mode == .running).map
      fun p => (s.pumpCfg p).ratedFlow).sum := by
  rw [State.outflow, State.pumpsOf, List.filter_filter]
  simp only [Bool.and_comm]

theorem cycleStart_inFlight (h : s.sau.cycle.isSome = true) : cycleStart s = s := if_pos h

/-- A cycle that begins changes the queues, the sumps and the scheduler of the cycles. -/
theorem cycleStart_eq (h : s.sau.cycle = none) : cycleStart s =
    ((s.withQueues (drainPoints s.drainNames s).2.pim.queues).withSumps
      (noteCycleDrains s.cycleBegun.drains (drainPoints s.drainNames s).2).sau.sumps).modSau fun a =>
        { a with cycle := some s.cycleBegun, timerPeriod := s.cfg.line.cyclePeriod
                 cycleTimer := .running (s.now + s.cfg.line.cyclePeriod) } := by
  have hnoted : noteCycleDrains s.cycleBegun.drains (drainPoints s.drainNames s).2 = _ :=
    (noteCycleDrains_rest ..).trans (congrArg (State.withSumps · _) (drainPoints_rest ..))
  have hstart : cycleStart s = (noteCycleDrains s.cycleBegun.drains (drainPoints s.drainNames s).2).modSau fun a =>
      { a with cycle := some { s.cycleBegun with interval := a.timerPeriod }, timerPeriod := s.cfg.line.cyclePeriod
               cycleTimer := .running (s.now + s.cfg.line.cyclePeriod) } := if_neg (by simp [h])
  exact hstart.trans (congrArg (State.modSau · _) hnoted)

theorem cycleStart_levelQueue (h : s.sau.cycle = none) (q : QueueId) :
    (cycleStart s).levelQueue q = (drainPoints s.drainNames s).2.levelQueue q := by
  rw [cycleStart_eq h]
  rfl

theorem sawInvalid_eq : Drain.sawInvalid = fun x => x.quality == .invalid || x.entries.any fun e => e.invalid :=
  funext fun _ => Bool.or_comm ..

theorem cycleStart_sump (h : s.sau.cycle = none) (k : SumpId) : (cycleStart s).sump k =
    if (s.sumpCfg k).primary.isSome = true then (s.sump k).noteDrains ((s.sumpCfg k).drainsOf s.cycleBegun.drains)
    else s.sump k := by
  rw [cycleStart_eq h]
  refine (noteCycleDrains_sump _ (drainPoints s.drainNames s).2 k).trans ?_
  rw [drainPoints_rest]
  rfl

theorem exec_drainageCycleStart {d : Nat} (h : s.sau.cycleTimer = .running d) (ht : (cycleStart (s.advance d)).AtRest) :
    exec .drainageCycleStart s = .next (cycleStart (s.advance d)) :=
  exec_of_rest (congrArg (fun t => Host.Outcome.next (quiesce t)) (onExpiry_running h s cycleStart)) ht

/-- Settles O32: the drains by `drainPoints_of` and `drainPoints_took`, the sticky flags by `cycleStart_sump`, and the rest by
`cycleStart_eq`. -/
theorem cycleBegins : Obligations.CycleBegins := by
  intro s hs
  refine ⟨fun d htimer hcycle => ?_, fun d htimer hcycle => ?_, fun hidle => ?_⟩
  · have hsame : cycleStart (s.advance d) = s.advance d := cycleStart_inFlight (s := s.advance d) hcycle
    have hrest : (cycleStart (s.advance d)).AtRest := hsame.symm ▸ advance_atRest hs d
    exact (exec_drainageCycleStart htimer hrest).trans (congrArg Host.Outcome.next hsame)
  · let u := s.advance d
    have hidle : u.sau.cycle = none := hcycle
    have heq := cycleStart_eq hidle
    have hrest : (cycleStart u).AtRest := heq.symm ▸ (advance_atRest hs d).of_same rfl rfl
    refine ⟨cycleStart u, u.cycleBegun, exec_drainageCycleStart htimer hrest, ?_, ?_, ?_, fun k => ?_, rfl, fun k => ?_, fun p => ?_,
      ?_, fun x hx => ?_, fun hown x hx q hq => ?_, fun q hfree => ?_, fun k => ?_, ?_, ?_⟩
    · rw [heq]
      rfl
    · rw [heq]
      rfl
    · rw [heq]
      rfl
    · rw [cycleStart_sump hidle, SumpState.noteDrains, sawInvalid_eq]
      rfl
    · exact (get_four u.outflow k).trans (outflow_eq u k)
    · rw [State.cycleBegun, drainPoints_names]
      exact mem_drainNames
    · rw [State.cycleBegun, drainPoints_names]
      exact drainNames_nodup u
    · obtain ⟨hquality, hmode, hunheld⟩ := drainPoints_of (s := u) hx
      exact ⟨hquality, hmode, hunheld⟩
    · obtain ⟨hentries, hoverrun, hsuspect, hleft⟩ := drainPoints_took (s := u) (drainNames_nodup u) hown hx hq
      rw [cycleStart_levelQueue hidle]
      refine ⟨hentries, hoverrun, fun hmode => ?_, fun hmode => ?_⟩
      all_goals
        rw [hmode] at hsuspect hleft
        exact ⟨hsuspect, hleft⟩
    · rw [cycleStart_levelQueue hidle]
      refine drainPoints_levelQueue_other (s := u) fun p hp => ?_
      rw [← drainPoints_names u.drainNames u] at hp
      obtain ⟨x, hx, rfl⟩ := List.mem_map.mp hp
      exact hfree x hx
    · exact ⟨get_four (fun k => (s.sump k).overrun) k, get_four (fun k => (s.sump k).invalidSeen) k⟩
    · rw [heq]
      rfl
    · rw [heq]
      rfl
  · exact exec_of_rest (congrArg (fun t => Host.Outcome.next (quiesce t)) (onExpiry_idle hidle s cycleStart)) hs

end Sys2Proof.Machine
end

section
/-! PROOFS. The operand words of PUMP_SET (Table 8-1, R130). -/

namespace Sys2Proof.Machine

/-! ## Operands read one after another -/

theorem ite_bind {α β : Type} {c : Prop} [Decidable c] (a : α) (f : α → Option β) :
    ((if c then some a else none) >>= f) = if c then f a else none := by
  split <;> rfl

theorem opCheck_bind {β : Type} (b : Bool) (f : Unit → Option β) : (opCheck b >>= f) = if b = true then f () else none :=
  ite_bind ..

theorem toNat_beq_one (w : Word) : (w.toNat == 1) = (w == 1) :=
  Bool.eq_iff_iff.mpr (by rw [beq_iff_eq, beq_iff_eq, BitVec.toNat_eq]; rfl)

theorem namedPoint_isSome (w : Word) : (namedPoint w).isSome = true ↔ w.toNat < 256 := by
  unfold namedPoint
  split <;> simp_all

section
variable {pump enable sump flow kw factor inrush run feedback fault starting stopping off starts : Word} {more : List Word}

theorem parsePump_eq {p : PumpId} {k : SumpId} (hp : pump.toNat = p.val + 1) (hk : sump.toNat = k.val + 1) :
    parsePump (pump :: enable :: sump :: flow :: kw :: factor :: inrush :: run :: feedback :: fault :: starting :: stopping ::
      off :: starts :: more) =
    if enable.toNat ≤ 1 ∧ 1 ≤ flow.toNat ∧ 100 ≤ factor.toNat ∧ factor.toNat ≤ 600 ∧ 1 ≤ inrush.toNat ∧ inrush.toNat ≤ 30 ∧
        run.toNat ≤ 256 ∧ feedback.toNat ≤ 256 ∧ fault.toNat ≤ 256 ∧ 2 ≤ starting.toNat ∧ starting.toNat ≤ 60 ∧
        2 ≤ stopping.toNat ∧ stopping.toNat ≤ 60 ∧ off.toNat ≤ 600 ∧ 1 ≤ starts.toNat ∧ starts.toNat ≤ 30 ∧
        (enable = 1 → run ≠ 256 ∧ feedback ≠ 256 ∧ feedback ≠ fault) then
      some (p, { enable := enable == 1, sump := k, ratedFlow := flow.toNat, ratedKw := kw.toNat, startFactor := factor.toNat
                 inrush := inrush.toNat, runPoint := namedPoint run, runFeedback := namedPoint feedback
                 faultFeedback := namedPoint fault, startConfirm := starting.toNat, stopConfirm := stopping.toNat
                 minimumOff := off.toNat, startsPerHour := starts.toNat })
    else none := by
  rw [parsePump, opIndex_eq (first := 1) (k := p) rfl hp, opIndex_eq (first := 1) (k := k) rfl hk]
  simp only [opFlag_eq_ite, opIn_eq_ite, opPoint_eq_ite, ite_bind, opCheck_bind, ← ite_and, Option.bind_eq_bind, Option.bind_some,
    List.getD_cons_succ, List.getD_cons_zero, List.length_cons]
  refine if_congr ?_ (by rw [toNat_beq_one]) rfl
  have hflow := flow.isLt
  have hkw := kw.isLt
  have hone : (1 : Word).toNat = 1 := rfl
  have hnone : (256 : Word).toNat = 256 := rfl
  simp only [toNat_beq_one, Bool.or_eq_true, Bool.not_eq_true', Bool.and_eq_true, ← Bool.not_eq_true, beq_iff_eq,
    namedPoint_isSome, samePoint_namedPoint, BitVec.toNat_eq, ne_eq, hone, hnone]
  omega

theorem parsePump_outside {ops : List Word} (h : ops.length < 14 ∨ ¬ (1 ≤ (ops.getD 0 0).toNat ∧ (ops.getD 0 0).toNat ≤ 8) ∨
    ¬ (1 ≤ (ops.getD 2 0).toNat ∧ (ops.getD 2 0).toNat ≤ 4)) : parsePump ops = none := by
  simp only [parsePump, opIn_bind_eq_none, opIndex_bind_eq_none, opFlag_bind_eq_none, opCheck_bind_eq_none, opPoint_bind_eq_none]
  intros
  omega
end

/-! ## The pumping settings of a sump -/

/-- The order of the levels as R130 gives it: the start levels rise, each stop level rises and lies below its start level, and the
levels after a start level 0 are 0. -/
abbrev LevelsOrdered (start stop : List Nat) : Prop := ∀ j : Fin 4,
  (start.getD j 0 = 0 → stop.getD j 0 = 0 ∧ ∀ i : Fin 4, j < i → start.getD i 0 = 0) ∧
  (start.getD j 0 ≠ 0 → stop.getD j 0 < start.getD j 0 ∧
    ∀ i : Fin 4, i < j → start.getD i 0 < start.getD j 0 ∧ stop.getD i 0 < stop.getD j 0)

theorem pumpingOrdered_iff (s1 s2 s3 s4 t1 t2 t3 t4 limit : Nat) :
    pumpingOrdered { start := [s1, s2, s3, s4], stop := [t1, t2, t3, t4], runLimit := limit } = true ↔
      LevelsOrdered [s1, s2, s3, s4] [t1, t2, t3, t4] := by
  have hlevels : LevelsOrdered [s1, s2, s3, s4] [t1, t2, t3, t4] ↔
      (s1 = 0 → t1 = 0 ∧ s2 = 0 ∧ s3 = 0 ∧ s4 = 0) ∧ (s2 = 0 → t2 = 0 ∧ s3 = 0 ∧ s4 = 0) ∧ (s3 = 0 → t3 = 0 ∧ s4 = 0) ∧
      (s4 = 0 → t4 = 0) ∧ (s1 ≠ 0 → t1 < s1) ∧ (s2 ≠ 0 → t2 < s2 ∧ s1 < s2 ∧ t1 < t2) ∧
      (s3 ≠ 0 → t3 < s3 ∧ s1 < s3 ∧ t1 < t3 ∧ s2 < s3 ∧ t2 < t3) ∧
      (s4 ≠ 0 → t4 < s4 ∧ s1 < s4 ∧ t1 < t4 ∧ s2 < s4 ∧ t2 < t4 ∧ s3 < s4 ∧ t3 < t4) := by
    simp [LevelsOrdered, Fin.forall_fin_succ]
    omega
  rw [hlevels, pumpingOrdered, PumpingCfg.configured]
  obtain rfl | h1 := eq_or_ne s1 0
  · simp [chained]
    omega
  obtain rfl | h2 := eq_or_ne s2 0
  · simp [chained, h1]
    omega
  obtain rfl | h3 := eq_or_ne s3 0
  · simp [chained, h1, h2]
    omega
  obtain rfl | h4 := eq_or_ne s4 0
  · simp [chained, h1, h2, h3]
    omega
  · simp [chained, h1, h2, h3, h4]
    omega

section
variable {kw s1 s2 s3 s4 t1 t2 t3 t4 limit : Word} {more : List Word}

theorem parsePumping_eq {k : SumpId} (hk : kw.toNat = k.val + 1) :
    let start := [s1.toNat, s2.toNat, s3.toNat, s4.toNat]
    let stop := [t1.toNat, t2.toNat, t3.toNat, t4.toNat]
    parsePumping (kw :: s1 :: s2 :: s3 :: s4 :: t1 :: t2 :: t3 :: t4 :: limit :: more) =
      if (∀ x ∈ start ++ stop, x ≤ 20000) ∧ 1 ≤ limit.toNat ∧ limit.toNat ≤ 8 ∧ LevelsOrdered start stop then
        some (k, { start := start, stop := stop, runLimit := limit.toNat })
      else none := by
  rw [parsePumping, opIndex_eq (first := 1) (k := k) rfl hk]
  simp only [opIn_eq_ite, ite_bind, opCheck_bind, ← ite_and, Option.bind_eq_bind, Option.bind_some, List.getD_cons_succ,
    List.getD_cons_zero, List.length_cons, pumpingOrdered_iff]
  refine if_congr ?_ rfl rfl
  simp only [List.cons_append, List.nil_append, List.mem_cons, List.not_mem_nil, or_false, forall_eq_or_imp, forall_eq]
  generalize LevelsOrdered _ _ = ordered
  by_cases h : ordered
  · simp only [h, and_true]
    omega
  · simp only [h, and_false]
end

theorem parsePumping_outside {ops : List Word} (h : ops.length < 10 ∨ ¬ (1 ≤ (ops.getD 0 0).toNat ∧ (ops.getD 0 0).toNat ≤ 4)) :
    parsePumping ops = none := by
  simp only [parsePumping, opIn_bind_eq_none, opIndex_bind_eq_none, opCheck_bind_eq_none]
  intros
  omega

end Sys2Proof.Machine
end

section
/-! PROOFS. A command point that loses its owner (R47, R109), and PUMP_SET of a pump record (R129, R131, R144, R145) and of a sump's
pumping settings (R130). -/

namespace Sys2Proof.Machine

variable {s t u v : State}

/-! ## The release of a command point -/

/-- The part of the state that the release of a command point keeps: all but the Override Table, the Command Queue, the command states
of the points and the events under delivery. -/
def State.unreleased (s : State) : State :=
  { s with
    signals := [], cau := {}, flc := { s.flc with commandQueue := [] }
    pim := { s.pim with points := s.pim.points.map fun x => { x with changed := false, command := .idle } } }

theorem setCommandState_unreleased (p : PointId) (c : CommandState) (s : State) :
    (setCommandState p c s).unreleased = s.unreleased :=
  (congrArg (fun v => { s.unreleased with pim := { s.unreleased.pim with points := v } })
    (map_put (fun x : PointState => { x with changed := false, command := .idle }) s.pim.points p
      { s.point p with command := c, changed := (s.point p).changed || !((s.point p).command == c) } rfl) :)

theorem removeOverride_unreleased (p : PointId) (o : Owner) (c : OverrideCause) (s : State) :
    (removeOverride p o c s).unreleased = s.unreleased := by
  unfold removeOverride
  split <;> rfl

theorem releasePoint_unreleased (o : Owner) (p : PointId) (s : State) : (releasePoint o p s).unreleased = s.unreleased := by
  have hremoved := removeOverride_unreleased p o .reconfigured s
  unfold releasePoint
  simp only
  repeat' split
  · exact hremoved
  · exact (setCommandState_unreleased p .idle _).trans hremoved
  · exact hremoved

theorem releaseRole_unreleased (o : Owner) (was is : Bool) (old new : Option PointId) (s : State) :
    (releaseRole o was is old new s).unreleased = s.unreleased := by
  unfold releaseRole
  repeat' split
  · exact releasePoint_unreleased ..
  all_goals rfl

theorem point_of_unreleased (h : t.unreleased = s.unreleased) (p : PointId) :
    (t.point p).raw = (s.point p).raw ∧ (t.point p).quality = (s.point p).quality := by
  have hpoint := congrArg (fun x : State => Tab.get x.pim.points p) h
  simp only [State.unreleased, Tab.get_map] at hpoint
  exact ⟨(congrArg PointState.raw hpoint :), (congrArg PointState.quality hpoint :)⟩

theorem removeOverride_override (p : PointId) (o : Owner) (c : OverrideCause) (s : State) :
    (removeOverride p o c s).override (some p) = none := by
  unfold removeOverride
  split
  · simp [State.override, State.tellOwner]
  · next h => exact Option.not_isSome_iff_eq_none.mp h

theorem releasePoint_override (o : Owner) (p : PointId) (s : State) : (releasePoint o p s).override (some p) = none := by
  have hremoved := removeOverride_override p o .reconfigured s
  unfold releasePoint
  simp only
  repeat' split
  all_goals exact hremoved

/-- A role that gives up its point leaves no entry for it (R47, R109). -/
theorem releaseRole_override {was is : Bool} {p : PointId} {new : Option PointId} (hwas : was = true)
    (h : is = false ∨ new ≠ some p) (o : Owner) (s : State) : (releaseRole o was is (some p) new s).override (some p) = none := by
  have hgiven : (was && (!is || !(new == some p))) = true := by
    rw [hwas, Bool.true_and, Bool.or_eq_true, Bool.not_eq_true', Bool.not_eq_true', beq_eq_false_iff_ne]
    exact h
  exact (congrArg (State.override · (some p)) (if_pos hgiven)).trans (releasePoint_override ..)

/-! ## What the work on a pump leaves -/

/-- The GSQ, the LTU and the pumps other than one. -/
def State.besides (p : PumpId) (s : State) : Gsq × Ltu × ((q : PumpId) → q ≠ p → PumpState) := (s.gsq, s.ltu, fun q _ => s.pump q)

section
variable (p : PumpId)

theorem besides_congr (hg : t.gsq = s.gsq) (hl : t.ltu = s.ltu) (hp : t.psc = s.psc) : t.besides p = s.besides p := by
  simp only [State.besides, hg, hl, State.pump_congr hp]

@[simp] theorem modPump_besides (f : PumpState → PumpState) (s : State) : (s.modPump p f).besides p = s.besides p := by
  have hothers : (fun (q : PumpId) (_ : q ≠ p) => (s.modPump p f).pump q) = fun q _ => s.pump q :=
    funext fun q => funext fun hq => State.pump_modPump_ne hq s f
  exact congrArg (fun x => (s.gsq, s.ltu, x)) hothers

@[simp] theorem raiseNotice_besides (code : Nat) (data : List Word) (s : State) : (raiseNotice code data s).besides p = s.besides p :=
  rfl

@[simp] theorem commandPoint_besides (o : Option PointId) (w : Word) (s : State) : (commandPoint o w s).besides p = s.besides p :=
  besides_congr p (commandPoint_gsq ..) (commandPoint_ltu ..) (commandPoint_psc ..)

@[simp] theorem withdraw_besides (d : Device) (s : State) : (withdraw d s).besides p = s.besides p :=
  besides_congr p (withdraw_gsq ..) (withdraw_ltu ..) (withdraw_psc ..)

@[simp] theorem numberStart_besides (s : State) : (numberStart p s).besides p = s.besides p := modPump_besides p _ _

@[simp] theorem pumpGo_besides (m : PumpMode) (s : State) : (pumpGo p m s).besides p = s.besides p :=
  (besides_congr p (pscReadiness_gsq _) (pscReadiness_ltu _) (pscReadiness_psc _)).trans (modPump_besides p _ s)

@[simp] theorem pumpFault_besides (cause : Nat) (s : State) : (pumpFault p cause s).besides p = s.besides p := by
  unfold pumpFault
  simp only
  split <;> simp

@[simp] theorem pumpFoundRunning_besides (s : State) : (pumpFoundRunning p s).besides p = s.besides p := by
  unfold pumpFoundRunning
  simp only
  split <;> simp

theorem pumpRederive_besides (s : State) : (pumpRederive p s).besides p = s.besides p := by
  unfold pumpRederive
  simp only
  repeat' split
  all_goals simp
end

@[simp] theorem pscReadiness_lau (s : State) : (pscReadiness s).lau = s.lau := by
  unfold pscReadiness
  split <;> rfl

@[simp] theorem pscReadiness_upp (s : State) : (pscReadiness s).upp = s.upp := by
  unfold pscReadiness
  split <;> rfl

@[simp] theorem pscReadiness_flc (s : State) : (pscReadiness s).flc = s.flc := by
  unfold pscReadiness
  split <;> rfl

theorem pumpGo_queue (p : PumpId) (m : PumpMode) (s : State) : (pumpGo p m s).lau.queue = s.lau.queue := by
  rw [pumpGo, pscReadiness_lau]
  rfl

theorem pumpGo_upp (p : PumpId) (m : PumpMode) (s : State) : (pumpGo p m s).upp = s.upp := by
  rw [pumpGo, pscReadiness_upp]
  rfl

theorem pumpGo_flc (p : PumpId) (m : PumpMode) (s : State) : (pumpGo p m s).flc = s.flc := by
  rw [pumpGo, pscReadiness_flc]
  rfl

/-! ## A pump record is set -/

/-- The state with the record of a pump and all else as it stood, but for the record's own pump, its duty lists and what the run point
given up had. -/
structure PumpSet (p : PumpId) (c : PumpCfg) (s v : State) : Prop where
  cfg : v.cfg = { s.cfg with pumps := Tab.put s.cfg.pumps p c }
  now : v.now = s.now
  line : v.flc.line = s.flc.line
  gsq : v.gsq = s.gsq
  ltu : v.ltu = s.ltu
  others : ∀ q, q ≠ p → v.pump q = s.pump q
  points : ∀ q, (v.point q).raw = (s.point q).raw ∧ (v.point q).quality = (s.point q).quality

variable {p : PumpId} {c : PumpCfg}

/-- Work on the pump that keeps the steady part of the state keeps the set record. -/
theorem PumpSet.step (h : PumpSet p c s t) (hsteady : u.steady = t.steady) (hline : u.flc.line = t.flc.line)
    (hbesides : u.besides p = t.besides p) : PumpSet p c s u where
  cfg := (congrArg State.cfg hsteady :).trans h.cfg
  now := (congrArg State.now hsteady :).trans h.now
  line := hline.trans h.line
  gsq := (congrArg Prod.fst hbesides :).trans h.gsq
  ltu := (congrArg (fun x => x.2.1) hbesides :).trans h.ltu
  others q hq := (congrFun (congrFun (congrArg (fun x => x.2.2) hbesides) q) hq :).trans (h.others q hq)
  points q := by
    obtain ⟨hquality, hraw, -, -, -⟩ := samePoint_of_inert (inert_of_steady hsteady) q
    exact ⟨hraw.trans (h.points q).1, hquality.trans (h.points q).2⟩

theorem PumpSet.pumpCfg (h : PumpSet p c s t) : t.pumpCfg p = c :=
  (congrArg (fun x : Tables => Tab.get x.pumps p) h.cfg).trans (Tab.get_put_self ..)

theorem PumpSet.isGood (h : PumpSet p c s t) (o : Option PointId) : t.isGood o = s.isGood o := by
  cases o with
  | none => rfl
  | some q => exact congrArg (· == Quality.good) (h.points q).2

theorem PumpSet.goto (h : PumpSet p c s t) (m : PumpMode) : PumpSet p c s (pumpGo p m t) :=
  h.step (pumpGo_steady ..) (congrArg Flc.line (pumpGo_flc p m t)) (pumpGo_besides ..)

theorem PumpSet.rederive (h : PumpSet p c s t) : PumpSet p c s (pumpRederive p t) :=
  h.step (pumpRederive_steady ..) (pumpRederive_effects (k := .observation) nofun p).line (pumpRederive_besides ..)

/-- The duty lists after a PUMP_SET (R129, R131). -/
def dutyTable (p : PumpId) (old new : PumpCfg) (d : Vector (List PumpId) 4) : Vector (List PumpId) 4 :=
  let without : Vector (List PumpId) 4 := Tab.put d old.sump ((Tab.get d old.sump).filter fun q => !(q == p))
  if !new.enable then without
  else if !old.enable || !(old.sump == new.sump) then
    Tab.put without new.sump ((Tab.get without new.sump).filter (fun q => !(q == p)) ++ [p])
  else d

theorem dutyAfter_eq (p : PumpId) (old new : PumpCfg) (s : State) :
    dutyAfter p old new s = s.modPsc fun x => { x with duty := dutyTable p old new x.duty } := by
  unfold dutyAfter dutyTable
  simp only
  repeat' split
  all_goals rfl

theorem dutyTable_disabled {old new : PumpCfg} (h : new.enable = false) (d : Vector (List PumpId) 4) :
    Tab.get (dutyTable p old new d) old.sump = (Tab.get d old.sump).filter fun q => q ≠ p := by
  rw [dutyTable, if_pos (by rw [h]; rfl), Tab.get_put_self]
  simp only [ne_eq, decide_not]
  rfl

theorem dutyTable_same {old new : PumpCfg} (h : new.enable = true) (hwas : old.enable = true) (hsame : old.sump = new.sump)
    (d : Vector (List PumpId) 4) : dutyTable p old new d = d := by
  rw [dutyTable, if_neg (by rw [h]; decide), if_neg (by simp [hwas, hsame])]

/-- A pump that joins a duty list joins it at the tail (R131). -/
theorem dutyTable_joined {old new : PumpCfg} (h : new.enable = true) (hnew : old.enable = false ∨ old.sump ≠ new.sump)
    (d : Vector (List PumpId) 4) :
    Tab.get (dutyTable p old new d) new.sump = (Tab.get d new.sump).filter (fun q => q ≠ p) ++ [p] := by
  have hjoins : (!old.enable || !(old.sump == new.sump)) = true := by simpa using hnew
  have hfilter : (fun q => !(q == p)) = fun q : PumpId => decide (q ≠ p) := funext fun q => (decide_not).symm
  rw [dutyTable, if_neg (by rw [h]; decide), if_pos hjoins, Tab.get_put_self, hfilter, Tab.get_put]
  split
  · next hsump => simp only [List.filter_filter, hsump, Bool.and_self]
  · rfl

/-- The released run point of a PUMP_SET, the record stored. -/
def pumpReleased (p : PumpId) (c : PumpCfg) (s : State) : State :=
  releaseRole (.pump p) (s.pumpCfg p).enable c.enable (s.pumpCfg p).runPoint c.runPoint
    (s.modCfg fun t => { t with pumps := Tab.put t.pumps p c })

/-- The state with the record, the duty lists and the released run point, before the pump itself is moved. -/
def pumpStored (p : PumpId) (c : PumpCfg) (s : State) : State :=
  ((pumpReleased p c s).modPsc fun x => { x with duty := dutyTable p (s.pumpCfg p) c x.duty }).modPump p
    fun t => { t with postDeferred := false }

theorem pumpReleased_unreleased (p : PumpId) (c : PumpCfg) (s : State) : (pumpReleased p c s).unreleased =
    (s.modCfg fun t => { t with pumps := Tab.put t.pumps p c }).unreleased := releaseRole_unreleased ..

theorem pumpReleased_psc (p : PumpId) (c : PumpCfg) (s : State) : (pumpReleased p c s).psc = s.psc :=
  (congrArg State.psc (pumpReleased_unreleased p c s) :)

theorem pumpStored_lau (p : PumpId) (c : PumpCfg) (s : State) : (pumpStored p c s).lau = s.lau :=
  (congrArg State.lau (pumpReleased_unreleased p c s) :)

theorem pumpStored_upp (p : PumpId) (c : PumpCfg) (s : State) : (pumpStored p c s).upp = s.upp :=
  (congrArg State.upp (pumpReleased_unreleased p c s) :)

theorem pumpStored_pump (p : PumpId) (c : PumpCfg) (s : State) :
    (pumpStored p c s).pump p = { s.pump p with postDeferred := false } :=
  (State.pump_modPump_self ..).trans
    (congrArg (fun x : Psc => { Tab.get x.pumps p with postDeferred := false }) (pumpReleased_psc p c s))

theorem pumpStored_duty (p : PumpId) (c : PumpCfg) (s : State) :
    (pumpStored p c s).psc.duty = dutyTable p (s.pumpCfg p) c s.psc.duty :=
  congrArg (fun x : Psc => dutyTable p (s.pumpCfg p) c x.duty) (pumpReleased_psc p c s)

theorem pumpStored_override {q : PointId} (hwas : (s.pumpCfg p).enable = true) (hold : (s.pumpCfg p).runPoint = some q)
    (h : c.enable = false ∨ c.runPoint ≠ some q) : (pumpStored p c s).override (some q) = none := by
  have hsame : (pumpStored p c s).override (some q) = (pumpReleased p c s).override (some q) := override_congr rfl _
  rw [hsame, pumpReleased, hold]
  exact releaseRole_override hwas h _ _

theorem pumpStored_set (p : PumpId) (c : PumpCfg) (s : State) : PumpSet p c s (pumpStored p c s) := by
  have hreleased := pumpReleased_unreleased p c s
  exact {
    cfg := (congrArg State.cfg hreleased :)
    now := (congrArg State.now hreleased :)
    line := (congrArg (fun x : State => x.flc.line) hreleased :)
    gsq := (congrArg State.gsq hreleased :)
    ltu := (congrArg State.ltu hreleased :)
    others := fun q hq => (State.pump_modPump_ne hq _ _).trans
      (congrArg (fun x : Psc => Tab.get x.pumps q) (pumpReleased_psc p c s) :)
    points := fun q => (point_of_unreleased hreleased q :) }

/-- What a PUMP_SET leaves of the pump before the ANSWER: DISABLED, FAULTED as it was, or UNKNOWN and derived anew (R129, R144). -/
def pumpPlaced (p : PumpId) (c : PumpCfg) (s : State) : State :=
  if !c.enable then pumpGo p .disabled (pumpStored p c s)
  else if (s.pump p).mode = .faulted then pumpStored p c s
  else pumpRederive p (pumpGo p .unknown (pumpStored p c s))

/-! ## PUMP_SET of a pump record -/

/-- What an enabled record asks of the points it names (R47, R129). -/
def PumpLawful (s : State) (p : PumpId) (c : PumpCfg) : Prop :=
  (∀ q, c.runPoint = some q → (s.pcfg q).kind = .command ∧ (ownerOf s.cfg q = .nobody ∨ ownerOf s.cfg q = .pump p)) ∧
    ∀ q, c.runFeedback = some q ∨ c.faultFeedback = some q → (s.pcfg q).kind = .discrete

theorem commandOk_iff (owners : List Owner) (o : Option PointId) : s.commandOk owners o = true ↔
    ∀ q, o = some q → (s.pcfg q).kind = .command ∧ (ownerOf s.cfg q = .nobody ∨ ownerOf s.cfg q ∈ owners) := by
  cases o <;> simp [State.commandOk]

theorem kindOk_iff (k : PointKind) (o : Option PointId) : s.kindOk k o = true ↔ ∀ q, o = some q → (s.pcfg q).kind = k := by
  cases o <;> simp [State.kindOk]

theorem pumpLawful_iff : (s.commandOk [.pump p] c.runPoint && s.kindOk .discrete c.runFeedback &&
    s.kindOk .discrete c.faultFeedback) = true ↔ PumpLawful s p c := by
  rw [Bool.and_eq_true, Bool.and_eq_true, commandOk_iff, kindOk_iff, kindOk_iff, and_assoc]
  simp only [List.mem_singleton, PumpLawful, or_imp, forall_and]

section
variable {ops : List Word} (hparse : parsePump ops = some (p, c))
include hparse

theorem pumpSetOp_range (henable : c.enable = true) (h : ¬ PumpLawful s p c) : pumpSetOp ops s = (stRange, s) := by
  rw [pumpSetOp, hparse]
  exact if_pos (by rw [← pumpLawful_iff, Bool.not_eq_true] at h; rw [henable, h]; rfl)

variable (h : c.enable = true → PumpLawful s p c)
include h

theorem pumpSetOp_lawful : pumpSetOp ops s = match (s.pump p).mode with
    | .queued | .starting | .running | .stopping | .resting => (stBusy, s)
    | mode => (stDone, if !c.enable then pumpGo p .disabled (pumpStored p c s)
        else if mode = .faulted then pumpStored p c s
        else pumpRederive p (pumpGo p .unknown (pumpStored p c s))) := by
  have hguard : ¬ (!(!c.enable || (s.commandOk [.pump p] c.runPoint && s.kindOk .discrete c.runFeedback &&
      s.kindOk .discrete c.faultFeedback))) = true := by
    rw [← pumpLawful_iff] at h
    cases henable : c.enable with
    | false => simp
    | true => rw [h henable]; decide
  rw [pumpSetOp, hparse]
  refine (if_neg hguard).trans ?_
  simp only [dutyAfter_eq]
  rfl

theorem pumpSetOp_busy (hmode : (s.pump p).mode = .queued ∨ (s.pump p).mode = .starting ∨ (s.pump p).mode = .running ∨
    (s.pump p).mode = .stopping ∨ (s.pump p).mode = .resting) : pumpSetOp ops s = (stBusy, s) := by
  rw [pumpSetOp_lawful hparse h]
  obtain hmode | hmode | hmode | hmode | hmode := hmode <;> rw [hmode]

theorem pumpSetOp_placed (hmode : (s.pump p).mode = .disabled ∨ (s.pump p).mode = .unknown ∨ (s.pump p).mode = .idle ∨
    (s.pump p).mode = .faulted) : pumpSetOp ops s = (stDone, pumpPlaced p c s) := by
  rw [pumpSetOp_lawful hparse h, pumpPlaced]
  obtain hmode | hmode | hmode | hmode := hmode <;> rw [hmode]
end

theorem pumpPlaced_set (p : PumpId) (c : PumpCfg) (s : State) : PumpSet p c s (pumpPlaced p c s) := by
  have hstored := pumpStored_set p c s
  unfold pumpPlaced
  repeat' split
  · exact hstored.goto .disabled
  · exact hstored
  · exact (hstored.goto .unknown).rederive

theorem pumpPlaced_steady (p : PumpId) (c : PumpCfg) (s : State) : (pumpPlaced p c s).steady = (pumpStored p c s).steady := by
  unfold pumpPlaced
  repeat' split
  · exact pumpGo_steady ..
  · rfl
  · exact (pumpRederive_steady ..).trans (pumpGo_steady ..)

theorem pumpPlaced_frames (p : PumpId) (c : PumpCfg) (s : State) : (pumpPlaced p c s).frames = s.frames := by
  have hframes : ∀ {t : State}, t.upp = s.upp → t.frames = s.frames := fun h =>
    congrArg (fun x : Upp => x.upstream.filter fun e : UpEntry => !e.frame.isNotice) h
  have hgo : ∀ m, (pumpGo p m (pumpStored p c s)).frames = s.frames := fun m =>
    hframes ((pumpGo_upp ..).trans (pumpStored_upp p c s))
  unfold pumpPlaced
  repeat' split
  · exact hgo _
  · exact hframes (pumpStored_upp p c s)
  · exact (Effects.frames (k := .observation) nofun (pumpRederive_effects (k := .observation) nofun p)).trans (hgo _)

/-- A pump not RUNNING that is moved to another state than RUNNING counts no run time (R136). -/
theorem PumpState.goto_idle {x : PumpState} {m : PumpMode} (now : Nat) (hx : x.mode ≠ .running) (hm : m ≠ .running) :
    PumpState.goto now m x = { x with mode := m, runningSince := none } := by
  rw [PumpState.goto, if_neg fun h => hx h.1, if_neg hm]

theorem pumpStored_goto (hmode : (s.pump p).mode ≠ .running) {m : PumpMode} (hm : m ≠ .running) :
    (pumpGo p m (pumpStored p c s)).pump p = { s.pump p with postDeferred := false, runningSince := none, mode := m } := by
  rw [pumpGo_pump_self, pumpStored_pump]
  exact PumpState.goto_idle (x := { s.pump p with postDeferred := false }) _ hmode hm

theorem pumpStored_goto_queue (m : PumpMode) : (pumpGo p m (pumpStored p c s)).lau.queue = s.lau.queue :=
  (pumpGo_queue ..).trans (congrArg Lau.queue (pumpStored_lau p c s))

theorem pumpPlaced_disabled (h : c.enable = false) : pumpPlaced p c s = pumpGo p .disabled (pumpStored p c s) :=
  if_pos (by rw [h]; rfl)

theorem pumpPlaced_faulted (h : c.enable = true) (hmode : (s.pump p).mode = .faulted) : pumpPlaced p c s = pumpStored p c s :=
  (if_neg (by rw [h]; decide)).trans (if_pos hmode)

theorem pumpPlaced_unknown (h : c.enable = true) (hmode : (s.pump p).mode ≠ .faulted) :
    pumpPlaced p c s = pumpRederive p (pumpGo p .unknown (pumpStored p c s)) :=
  (if_neg (by rw [h]; decide)).trans (if_neg hmode)

theorem pumpRederive_still (h : s.isGood (s.pumpCfg p).runFeedback = false) : pumpRederive p s = s :=
  if_neg fun hgood => by simp [h] at hgood

/-! ### After the ANSWER -/

/-- The ANSWER of an operation and the events it leaves under delivery. -/
def settledAnswer (tag : Tag) (code : Nat) (s : State) : State := quiesce (answer tag code stDone [] s)

section
variable (tag : Tag) (code : Nat) (s : State)

theorem settledAnswer_cfg : (settledAnswer tag code s).cfg = s.cfg :=
  (congrArg State.cfg (quiesce_steady _) :).trans (answer_cfg ..)

theorem settledAnswer_duty : (settledAnswer tag code s).psc.duty = s.psc.duty :=
  (congrArg (fun x : State => x.psc.duty) (quiesce_steady (answer tag code stDone [] s)) :).trans
    (congrArg Psc.duty (answer_psc s tag code stDone []) :)

theorem settledAnswer_cau : (settledAnswer tag code s).cau = s.cau :=
  (congrArg State.cau (quiesce_steady _) :).trans (answer_cau ..)

/-- What follows an ANSWER keeps the condition of every device as a delivery does. -/
theorem settledAnswer_status (d : Device) : Scope.delivery.Kept (s.status d) ((settledAnswer tag code s).status d) :=
  (Scope.Kept.of_eq (status_congr (answer_psc ..) (answer_gsq ..) (answer_ltu ..) d)).trans (Effects.status quiesce_effects d)
end

theorem answerFrame_isNotice (tag : Tag) (code status : Nat) (data : List Word) : (answerFrame tag code status data).isNotice = false := by
  have hmsb : (BitVec.ofNat 16 (code % 256)).msb = false := by
    rw [BitVec.msb_eq_decide, decide_eq_false_iff_not, BitVec.toNat_ofNat]
    omega
  simp [Frame.isNotice, answerFrame, hmsb]

theorem answer_frames (tag : Tag) (code status : Nat) (data : List Word) (h : s.frames.length < 16) :
    (answer tag code status data s).frames = s.frames ++ [{ frame := answerFrame tag code status data }] :=
  offerUp_frames (answerFrame_isNotice ..) h

theorem settledAnswer_frames (tag : Tag) (code : Nat) (h : s.frames.length < 16) :
    (settledAnswer tag code s).frames = s.frames ++ (answer tag code 0 [] State.reset).frames := by
  have hreset : State.reset.frames = [] := rfl
  rw [answer_frames tag code 0 [] (s := State.reset) (by rw [hreset]; decide), hreset, List.nil_append]
  exact (Effects.frames (k := .delivery) nofun quiesce_effects).trans (answer_frames tag code stDone [] h)

theorem PumpMode.condition_eq_faulted {m : PumpMode} {x c : Nat} (h : m.condition x = .fault PumpMode.faulted.code c) :
    m = .faulted ∧ x = c := by
  cases m <;> simp_all [PumpMode.condition]

/-! ### The command -/

theorem parsePump_head {ops : List Word} {x : PumpId × PumpCfg} (hparse : parsePump ops = some x) : ops.head? ≠ some 0 := by
  intro hhead
  obtain ⟨rest, rfl⟩ := List.head?_eq_some_iff.mp hhead
  have hnone : parsePump (0 :: rest) = none := parsePump_outside (.inr (.inl (by simp)))
  exact absurd (hnone.symm.trans hparse) nofun

section
variable {ops : List Word} {tag : Tag} (hs : s.Altering) (hparse : parsePump ops = some (p, c))
include hs hparse

theorem exec_pumpSet_refused {status : Nat} (h : pumpSetOp ops s = (status, s)) :
    exec (.pumpSet tag ops) s = .next (answer tag 21 status [] s) :=
  exec_configure (c := .pumpSet tag ops) hs
    (congrArg (fun t => Host.Outcome.next (quiesce t)) (managePumpSet_record (parsePump_head hparse) tag s)) h

theorem exec_pumpSet_placed (h : pumpSetOp ops s = (stDone, pumpPlaced p c s)) :
    exec (.pumpSet tag ops) s = .next (settledAnswer tag 21 (pumpPlaced p c s)) := by
  have hset : exec (.pumpSet tag ops) s = .next (quiesce (configure tag 21 (pumpSetOp ops) s)) :=
    congrArg (fun t => Host.Outcome.next (quiesce t)) (managePumpSet_record (parsePump_head hparse) tag s)
  rw [hset, configure_of_altering hs, h]
  rfl
end

/-! ## PUMP_SET of the pumping settings -/

theorem configured_eq (d : PumpingCfg) : d.configured = d.start.takeWhile fun x => x ≠ 0 :=
  congrArg (d.start.takeWhile ·) (funext fun x => by cases x <;> rfl)

/-- The pumping settings of a sump stored, with its staging step cut to the levels set (R130). -/
def pumpingStored (k : SumpId) (d : PumpingCfg) (s : State) : State :=
  (s.modCfg fun t => { t with pumping := Tab.put t.pumping k d }).modPsc fun q =>
    { q with step := Tab.put q.step k ((Tab.get q.step k).map fun n => min n (d.start.takeWhile fun x => x ≠ 0).length) }

theorem exec_pumpSetSumpSettings {ops : List Word} {k : SumpId} {d : PumpingCfg} (hs : s.Altering) (tag : Tag)
    (hparse : parsePumping ops = some (k, d)) :
    exec (.pumpSetSumpSettings tag ops) s =
      if d.runLimit < s.countPumps k PumpMode.claims then .next (answer tag 21 1 [] s)
      else .next (answer tag 21 0 [] (pumpingStored k d s)) := by
  split
  · next h => exact exec_configure hs rfl (by rw [pumpingSetOp, hparse]; exact if_pos h)
  · next h =>
    refine exec_of_rest (congrArg (fun t => Host.Outcome.next (quiesce t)) ?_)
      (answer_atRest (s := pumpingStored k d s) (hs.atRest.of_same rfl rfl) ..)
    refine (configure_of_altering hs tag 21 (pumpingSetOp ops)).trans ?_
    rw [pumpingSetOp, hparse, pumpingStored]
    simp only [configured_eq]
    exact congrArg (reply tag 21) (if_neg h)

/-- Settles O50: the operand words by `parsePump_eq` and `parsePumping_eq`, the record by `pumpPlaced` with its `PumpSet`, the settings
by `exec_pumpSetSumpSettings`. -/
theorem pumpSettings : Obligations.PumpSettings := by
  refine ⟨?_, ?_, ?_, ?_⟩
  · intro pump enable sump flow kw factor inrush run feedback fault starting stopping off starts more ops
    refine ⟨fun p k hp hk => parsePump_eq hp hk, fun hout => parsePump_outside (.inr ?_)⟩
    have hzero : ∀ w : Word, w = 0 ↔ w.toNat = 0 := fun w => BitVec.toNat_eq
    simp only [hzero] at hout
    simp only [List.getD_cons_zero, List.getD_cons_succ, ops]
    omega
  · intro kw s1 s2 s3 s4 t1 t2 t3 t4 limit more ops start stop ordered
    refine ⟨fun k hk => parsePumping_eq hk, fun hout => parsePumping_outside (.inr ?_)⟩
    have hzero : kw = 0 ↔ kw.toNat = 0 := BitVec.toNat_eq
    rw [hzero] at hout
    simp only [List.getD_cons_zero, ops]
    omega
  · exact fun ops => ⟨fun h => parsePump_outside (.inl h), fun h => parsePumping_outside (.inl h)⟩
  · intro tag ops s hs frames
    refine ⟨fun p c hparse => ?_, fun k d hparse => ⟨exec_pumpSetSumpSettings hs tag hparse, rfl⟩⟩
    intro old mode lawful
    refine ⟨fun henable hnot => exec_pumpSet_refused hs hparse (pumpSetOp_range hparse henable hnot), fun hlawful =>
      ⟨fun hmode => exec_pumpSet_refused hs hparse (pumpSetOp_busy hparse hlawful hmode), fun hmode => ?_, fun hmode hroom => ?_,
        fun hmode => ?_⟩⟩
    all_goals
      have hexec : exec (.pumpSet tag ops) s = .next (settledAnswer tag 21 (pumpPlaced p c s)) :=
        exec_pumpSet_placed hs hparse (pumpSetOp_placed hparse hlawful hmode)
      have hstill : (s.pump p).mode ≠ .running := by
        intro (hrunning : mode = .running)
        rw [hrunning] at hmode
        simp at hmode
    · refine ⟨pumpPlaced p c s, hexec, ?_⟩
      intro set x
      have hset : ∀ v, PumpSet p c s v → set v := fun v h => ⟨h.cfg, h.now, h.line, h.gsq, h.ltu, h.others, h.points⟩
      refine ⟨hset _ (pumpPlaced_set p c s), fun henable => ?_, fun henable hfaulted => ?_, fun henable hfaulted => ?_⟩
      · rw [pumpPlaced_disabled henable]
        exact ⟨pumpStored_goto hstill (by decide), pumpStored_goto_queue _⟩
      · rw [pumpPlaced_faulted henable hfaulted]
        exact ⟨pumpStored_pump p c s, congrArg Lau.queue (pumpStored_lau p c s)⟩
      · exact ⟨pumpGo p .unknown (pumpStored p c s), pumpPlaced_unknown henable hfaulted,
          hset _ ((pumpStored_set p c s).goto .unknown), pumpStored_goto hstill (by decide), pumpStored_goto_queue _⟩
    · refine ⟨_, hexec, ?_⟩
      have hframes := pumpPlaced_frames p c s
      exact (settledAnswer_frames tag 21 (hframes ▸ hroom)).trans (congrArg (· ++ _) hframes)
    · have hduty : (settledAnswer tag 21 (pumpPlaced p c s)).psc.duty = dutyTable p old c s.psc.duty :=
        (settledAnswer_duty ..).trans ((congrArg (fun x : State => x.psc.duty) (pumpPlaced_steady p c s) :).trans
          (pumpStored_duty p c s))
      refine ⟨_, hexec, (settledAnswer_cfg ..).trans (pumpPlaced_set p c s).cfg, fun henable => ?_, fun henable hfaulted => ?_,
        fun henable hfaulted hdark => ?_, fun henable hwas hsame => ?_, fun henable hnew => ?_, fun q hwas hold hgiven => ?_⟩
      · have hmoved := pumpStored_goto (p := p) (c := c) hstill (m := .disabled) (by decide)
        have hstatus := (settledAnswer_status tag 21 (pumpPlaced p c s) (.pump p) rfl).disabled
        refine ⟨PumpMode.condition_eq_disabled.mp (hstatus.mpr ?_), ?_⟩
        · rw [pumpPlaced_disabled henable, State.status, hmoved]
          rfl
        · rw [State.dutyList, hduty]
          exact dutyTable_disabled henable _
      · have hstatus := (settledAnswer_status tag 21 (pumpPlaced p c s) (.pump p) rfl).fault PumpMode.faulted.code (s.pump p).fault
        refine PumpMode.condition_eq_faulted (hstatus ?_)
        rw [pumpPlaced_faulted henable hfaulted, State.status, pumpStored_pump, PumpState.status]
        exact congrArg (PumpMode.condition (s.pump p).fault) hfaulted
      · have hmoved := pumpStored_goto (p := p) (c := c) hstill (m := .unknown) (by decide)
        have hstatus := (settledAnswer_status tag 21 (pumpPlaced p c s) (.pump p) rfl).unknown rfl
        refine PumpMode.condition_eq_unknown.mp (hstatus ?_)
        have hset : PumpSet p c s (pumpGo p .unknown (pumpStored p c s)) := (pumpStored_set p c s).goto .unknown
        rw [pumpPlaced_unknown henable hfaulted, pumpRederive_still (by rw [hset.pumpCfg, hset.isGood]; exact hdark), State.status,
          hmoved]
        rfl
      · exact hduty.trans (dutyTable_same henable hwas hsame _)
      · rw [State.dutyList, hduty]
        exact dutyTable_joined henable hnew _
      · have hcau := (settledAnswer_cau tag 21 (pumpPlaced p c s)).trans (congrArg State.cau (pumpPlaced_steady p c s) :)
        exact (override_congr hcau _).trans (pumpStored_override hwas hold hgiven)

end Sys2Proof.Machine
end

section
/-! PROOFS. The judgements of the LAU while a step is under way (R122, R124 to R126, R142, R171): what they make of the Start Queue and
of the barriers when nothing is granted, and which requests they leave away. -/

namespace Sys2Proof.Machine

variable {s t u : State}

/-! ## The Start Queue without a grant -/

/-- What the LTU does to the Start Queue with shed demand and with its end (R171): a request of a zone withdrawn, or one posted with
class 3. -/
inductive ZoneStep : List Request → List Request → Prop where
  | withdrawn (q : List Request) (z : ZoneId) : ZoneStep q (q.filter fun r => !(r.device == .zone z))
  | posted {q q' : List Request} (r : Request) (z : ZoneId) (hr : r.device = .zone z) (hcls : r.cls = 3)
      (h : postQueue r q = some q') : ZoneStep q q'

/-- What the blocks do while nothing is granted: the Start Queue changes by the LTU alone, clear-to-start and the states of the
barriers stand. -/
structure GrantFree (s t : State) : Prop where
  queue : Relation.ReflTransGen ZoneStep s.lau.queue t.lau.queue
  clear : t.lau.clearToStart = s.lau.clearToStart
  mode : ∀ b, (t.barrier b).mode = (s.barrier b).mode

theorem GrantFree.refl (s : State) : GrantFree s s := ⟨.refl, rfl, fun _ => rfl⟩

theorem GrantFree.trans (h : GrantFree s t) (g : GrantFree t u) : GrantFree s u :=
  ⟨h.queue.trans g.queue, g.clear.trans h.clear, fun b => (g.mode b).trans (h.mode b)⟩

/-- The last thing done first. -/
theorem GrantFree.after (g : GrantFree t u) (h : GrantFree s t) : GrantFree s u := h.trans g

theorem GrantFree.of_same (hq : t.lau.queue = s.lau.queue) (hc : t.lau.clearToStart = s.lau.clearToStart) (hg : t.gsq = s.gsq) :
    GrantFree s t := ⟨hq ▸ .refl, hc, fun b => congrArg BarrierState.mode (State.barrier_congr hg b)⟩

theorem GrantFree.foldl {α : Type} {f : State → α → State} (h : ∀ s a, GrantFree s (f s a)) (l : List α) (s : State) :
    GrantFree s (l.foldl f s) := by
  induction l generalizing s with
  | nil => exact .refl s
  | cons a l ih => exact (h s a).trans (ih _)

theorem zoneReport_grantFree (z : ZoneId) : GrantFree s (zoneReport z s) := .of_same rfl rfl rfl

theorem commandPoint_grantFree (o : Option PointId) (w : Word) : GrantFree s (commandPoint o w s) :=
  .of_same (by rw [commandPoint_lau]) (by rw [commandPoint_lau]) (commandPoint_gsq ..)

theorem modZone_grantFree (z : ZoneId) (f : ZoneState → ZoneState) : GrantFree s (s.modZone z f) := .of_same rfl rfl rfl
theorem modPump_grantFree (p : PumpId) (f : PumpState → PumpState) : GrantFree s (s.modPump p f) := .of_same rfl rfl rfl
theorem reportPump_grantFree (p : PumpId) (m : PumpMode) : GrantFree s (reportPump p m s) := .of_same rfl rfl rfl
theorem raiseNotice_grantFree (code : Nat) (data : List Word) : GrantFree s (raiseNotice code data s) := .of_same rfl rfl rfl

theorem commandLevel_grantFree (z : ZoneId) (level : Nat) : GrantFree s (commandLevel z level s) :=
  .after (commandPoint_grantFree ..) (.after (modZone_grantFree z _) (modZone_grantFree z _))

theorem withdraw_grantFree (z : ZoneId) : GrantFree s (withdraw (.zone z) s) := by
  unfold withdraw
  split
  · exact ⟨.single (.withdrawn _ z), rfl, fun _ => rfl⟩
  · exact .refl s

theorem zoneShed_grantFree (z : ZoneId) : GrantFree s (zoneShed z s) := by
  unfold zoneShed
  split
  · exact .after (zoneReport_grantFree z) (.after (commandLevel_grantFree z _) (modZone_grantFree z _))
  · exact .after (zoneReport_grantFree z) (.after (modZone_grantFree z _) (withdraw_grantFree z))
  · exact .refl s

theorem post_grantFree (z : ZoneId) (kw factor inrush : Nat) : GrantFree s (post (.zone z) 3 kw factor inrush s).1 := by
  unfold post
  split
  · exact .refl s
  · simp only
    split
    · next q hq => exact ⟨.single (.posted _ z rfl rfl hq), rfl, fun _ => rfl⟩
    · exact .refl s

theorem zoneShedEnd_grantFree (z : ZoneId) : GrantFree s (zoneShedEnd z s) := by
  unfold zoneShedEnd restorationPost
  simp only
  repeat' split
  · exact .after (zoneReport_grantFree z) (modZone_grantFree z _)
  · exact .after (modZone_grantFree z _) (post_grantFree z ..)
  · exact .after (modZone_grantFree z _) (post_grantFree z ..)
  · exact .refl s

theorem pumpGo_grantFree (p : PumpId) (m : PumpMode) : GrantFree s (pumpGo p m s) :=
  .of_same (pumpGo_queue ..) (congrArg (fun x : State => x.lau.clearToStart) (pumpGo_steady s p m) :)
    (congrArg Prod.fst (pumpGo_besides p m s))

theorem pumpShed_grantFree (p : PumpId) : GrantFree s (pumpShed p s) := by
  unfold pumpShed pumpStop
  repeat' split
  · exact .after (pumpGo_grantFree p _) (.after (commandPoint_grantFree ..) (modPump_grantFree p _))
  · exact .refl s
  · exact .after (pumpGo_grantFree p _) (.after (commandPoint_grantFree ..) (modPump_grantFree p _))
  · exact .refl s
  · exact .refl s
  · exact reportPump_grantFree p _

theorem modLau_grantFree (f : Lau → Lau) (hq : (f s.lau).queue = s.lau.queue) (hc : (f s.lau).clearToStart = s.lau.clearToStart) :
    GrantFree s (s.modLau f) := .of_same hq hc rfl

theorem shedBegin_grantFree : GrantFree s (shedBegin s) := by
  unfold shedBegin
  exact .after (modLau_grantFree _ rfl rfl) (.after (.foldl (fun _ z => zoneShed_grantFree z) _ _)
    (.after (raiseNotice_grantFree _ _) (modLau_grantFree _ rfl rfl)))

theorem shedIssue_grantFree (p : PumpId) : GrantFree s (shedIssue p s) :=
  .after (pumpShed_grantFree p) (modLau_grantFree _ rfl rfl)

theorem shedEnd_grantFree : GrantFree s (shedEnd s) :=
  .after (.foldl (fun _ z => zoneShedEnd_grantFree z) _ _) (.after (raiseNotice_grantFree _ _) (modLau_grantFree _ rfl rfl))

/-- The judgements of R124, R125 and R126 grant nothing. -/
theorem lauShed_grantFree (h : lauRound.lauShed s = some t) : GrantFree s t := by
  unfold lauRound.lauShed at h
  split at h
  · exact Option.some.inj h ▸ shedBegin_grantFree
  · split at h
    · exact Option.some.inj h ▸ shedIssue_grantFree _
    · split at h
      · exact Option.some.inj h ▸ shedEnd_grantFree
      · cases h

/-- A round of the LAU grants the head or grants nothing. -/
theorem lauRound_cases (h : lauRound s = some t) :
    (∃ r rest, s.lau.queue = r :: rest ∧ s.grantable r = true ∧ t = grantHead r rest s) ∨ GrantFree s t := by
  unfold lauRound at h
  split at h
  · next r rest hq =>
    split at h
    · next hgrant => exact .inl ⟨r, rest, hq, hgrant, (Option.some.inj h).symm⟩
    · exact .inr (lauShed_grantFree h)
  · exact .inr (lauShed_grantFree h)

/-! ## What the judgements keep -/

/-- A condition that the work of the blocks keeps, whether it grants or not. -/
structure Judged (P : State → Prop) : Prop where
  free : ∀ {s t}, GrantFree s t → P s → P t
  grant : ∀ {s r rest}, s.lau.queue = r :: rest → s.grantable r = true → P s → P (grantHead r rest s)

section
variable {P : State → Prop} (hP : Judged P)
include hP

theorem Judged.lauLoop (n : Nat) (h : P s) : P (lauLoop n s) := by
  induction n generalizing s with
  | zero => exact h
  | succ n ih =>
    unfold Machine.lauLoop
    split
    · next t hround =>
      refine ih ?_
      obtain ⟨r, rest, hq, hgrant, rfl⟩ | hfree := lauRound_cases hround
      · exact hP.grant hq hgrant h
      · exact hP.free hfree h
    · exact h

theorem Judged.lauSettle (h : P s) : P (lauSettle s) := by
  unfold Machine.lauSettle
  split
  · exact hP.free (s := Machine.lauLoop 64 s) (.of_same rfl rfl rfl) (hP.lauLoop 64 h)
  · exact h
end

theorem emit_grantFree (x : Signal) : GrantFree s (s.emit x) := .of_same rfl rfl rfl
theorem modStc_grantFree (f : Stc → Stc) : GrantFree s (s.modStc f) := .of_same rfl rfl rfl
theorem modCau_grantFree (f : Cau → Cau) : GrantFree s (s.modCau f) := .of_same rfl rfl rfl

theorem cancelOverrides_grantFree (cause : OverrideCause) (code : Nat) : GrantFree s (cancelOverrides cause code s) := by
  have hfold := GrantFree.foldl (f := fun s e => s.tellOwner e.point (ownerOf s.cfg e.point) none cause)
    (fun _ _ => emit_grantFree _) s.cau.overrides s
  unfold cancelOverrides
  simp only
  split
  · exact .after (modCau_grantFree _) hfold
  · exact .after (raiseNotice_grantFree _ _) (.after (modCau_grantFree _) hfold)

theorem stageChange_grantFree (new : Stage) (c : Cause) : GrantFree s (stageChange new c s) := by
  unfold stageChange
  simp only
  refine .after (emit_grantFree _) ?_
  split
  · exact .after (cancelOverrides_grantFree _ _) (.after (raiseNotice_grantFree _ _) (modStc_grantFree _))
  · exact .after (raiseNotice_grantFree _ _) (modStc_grantFree _)

theorem stageTo_grantFree (new : Stage) (c : Cause) : GrantFree s (stageTo new c s) := by
  unfold stageTo
  simp only
  repeat' split
  · exact (stageChange_grantFree _ _).trans (stageChange_grantFree _ _)
  · exact stageChange_grantFree _ _
  · exact (stageChange_grantFree _ _).trans (stageChange_grantFree _ _)
  · exact stageChange_grantFree _ _
  · exact stageChange_grantFree _ _

theorem takeSummary_grantFree (c o : Bool) : GrantFree s (takeSummary c o s) := by
  have htaken : GrantFree s (s.modStc fun x => { x with allClosed := c, allOpen := o }) := .of_same rfl rfl rfl
  unfold takeSummary
  simp only
  repeat' split
  · exact htaken.trans (stageTo_grantFree _ _)
  · exact htaken.trans (stageTo_grantFree _ _)
  · exact htaken

theorem aspectJudge_grantFree (a : Bool) (b : BarrierId) : GrantFree s (aspectJudge a b s) := by
  refine ⟨by rw [aspectJudge_lau], by rw [aspectJudge_lau], fun o => ?_⟩
  by_cases ho : o = b
  · obtain ⟨x, y, h⟩ := aspectJudge_barrier_self a b s
    rw [ho, h]
  · rw [aspectJudge_barrier_ne ho]

/-- Outside RUNNING no event under delivery makes the GSQ or the PSC evaluate. -/
theorem handleSignal_grantFree (h : s.stc.hold ≠ .running) (x : Signal) : GrantFree s (handleSignal x s) := by
  unfold handleSignal
  split
  · exact takeSummary_grantFree _ _
  · rw [if_neg h]
    exact .refl s
  · split
    · rw [if_neg h]
      exact .refl s
    · rw [if_neg h]
      exact .refl s
    · rw [if_neg h]
      exact aspectJudge_grantFree _ _
    · exact .refl s

section
variable {P : State → Prop} (hP : Judged P)
include hP

theorem Judged.quiesceLoop (n : Nat) (hhold : s.stc.hold ≠ .running) (h : P s) : P (quiesceLoop n s) := by
  induction n generalizing s with
  | zero => exact hP.free (s := Machine.lauSettle s) (.of_same rfl rfl rfl) (hP.lauSettle h)
  | succ n ih =>
    have hsettled : (Machine.lauSettle s).stc.hold = s.stc.hold := (congrArg (fun x : State => x.stc.hold) (lauSettle_steady s) :)
    unfold Machine.quiesceLoop
    simp only
    split
    · exact hP.lauSettle h
    · next x rest _ =>
      let v : State := { Machine.lauSettle s with signals := rest }
      have hv : v.stc.hold ≠ .running := hsettled ▸ hhold
      have hhandled : (handleSignal x v).stc.hold = v.stc.hold := (congrArg (fun x : State => x.stc.hold) (handleSignal_steady v x) :)
      refine ih (hhandled ▸ hv) (hP.free (handleSignal_grantFree hv x) ?_)
      exact hP.free (s := Machine.lauSettle s) (.of_same rfl rfl rfl) (hP.lauSettle h)

/-- What the judgements keep, the delivery of events outside RUNNING keeps. -/
theorem Judged.quiesce (hhold : s.stc.hold ≠ .running) (h : P s) : P (quiesce s) := hP.quiesceLoop 256 hhold h
end

end Sys2Proof.Machine
end

section
/-! PROOFS. The setting of an UNKNOWN barrier while another barrier waits (R148, R121): O53 fails. -/

namespace Sys2Proof.Machine

variable {s t u : State}

/-! ## A request of a barrier at the head of the Start Queue -/

/-- Requests of class 0 to 2 stand at the head of the queue, up to one of a device. -/
def Leads (d : Device) : List Request → Prop
  | [] => False
  | r :: rest => r.cls ≤ 2 ∧ (r.device = d ∨ Leads d rest)

section
variable {d : Device} {q : List Request}

theorem leads_filter {p : Request → Bool} (hp : ∀ r, r.device = d → p r = true) (h : Leads d q) : Leads d (q.filter p) := by
  induction q with
  | nil => exact h
  | cons r rest ih =>
    obtain ⟨hcls, hr⟩ := h
    rw [List.filter_cons]
    split
    · exact ⟨hcls, hr.imp_right ih⟩
    · next hdrop => exact ih (hr.resolve_left fun he => hdrop (hp r he))

theorem leads_enqueue (r : Request) (h : Leads d q) : Leads d (enqueue r q) := by
  induction q with
  | nil => exact h.elim
  | cons x rest ih =>
    obtain ⟨hcls, hx⟩ := h
    by_cases hle : x.cls ≤ r.cls
    · have hcons : enqueue r (x :: rest) = x :: enqueue r rest := by simp [enqueue, hle]
      rw [hcons]
      exact ⟨hcls, hx.imp_right ih⟩
    · have hcons : enqueue r (x :: rest) = r :: x :: rest := by simp [enqueue, hle]
      rw [hcons]
      exact ⟨by omega, .inr ⟨hcls, hx⟩⟩

/-- A request of class 2 joins behind requests of class 0 to 2 only. -/
theorem leads_enqueue_self {r : Request} (hr : r.cls = 2) (q : List Request) : Leads r.device (enqueue r q) := by
  induction q with
  | nil => exact ⟨hr.le, .inl rfl⟩
  | cons x rest ih =>
    by_cases hle : x.cls ≤ r.cls
    · have hcons : enqueue r (x :: rest) = x :: enqueue r rest := by simp [enqueue, hle]
      rw [hcons]
      exact ⟨by omega, .inr ih⟩
    · have hcons : enqueue r (x :: rest) = r :: x :: rest := by simp [enqueue, hle]
      rw [hcons]
      exact ⟨hr.le, .inl rfl⟩

/-- A request of class 3 updated in its place stands behind the head requests of classes 0 to 2. -/
theorem leads_update {r old : Request} (hr : r.cls = 3) (hold : q.find? (fun x => x.device == r.device) = some old)
    (hcls : old.cls = r.cls) (h : Leads d q) :
    Leads d (q.map fun x => if x.device = r.device then { r with arrival := x.arrival } else x) := by
  induction q with
  | nil => exact h
  | cons x rest ih =>
    obtain ⟨hx, hlead⟩ := h
    by_cases hsame : x.device = r.device
    · rw [List.find?_cons_of_pos (by simpa using hsame), Option.some.injEq] at hold
      subst hold
      omega
    · rw [List.find?_cons_of_neg (by simpa using hsame)] at hold
      rw [List.map_cons, if_neg hsame]
      exact ⟨hx, hlead.imp_right (ih hold)⟩

theorem leads_postQueue {r : Request} {q' : List Request} (hr : r.cls = 3) (hd : r.device ≠ d) (hpost : postQueue r q = some q')
    (h : Leads d q) : Leads d q' := by
  unfold postQueue at hpost
  split at hpost
  · next old hold =>
    split at hpost
    · next hcls => exact Option.some.inj hpost ▸ leads_update hr hold hcls h
    · refine Option.some.inj hpost ▸ leads_enqueue r (leads_filter (fun x hx => ?_) h)
      simpa [hx] using hd.symm
  · split at hpost
    · exact Option.some.inj hpost ▸ leads_enqueue r h
    · cases hpost

theorem leads_zoneStep {q' : List Request} (hd : ∀ z, Device.zone z ≠ d) (hstep : ZoneStep q q') (h : Leads d q) : Leads d q' := by
  cases hstep with
  | withdrawn z => exact leads_filter (fun r hr => by simpa [hr] using (hd z).symm) h
  | posted r z hr hcls hpost => exact leads_postQueue hcls (hr ▸ hd z) hpost h

theorem leads_zoneSteps {q' : List Request} (hd : ∀ z, Device.zone z ≠ d) (hsteps : Relation.ReflTransGen ZoneStep q q')
    (h : Leads d q) : Leads d q' := by
  induction hsteps with
  | refl => exact h
  | tail _ hstep ih => exact leads_zoneStep hd hstep ih
end

/-- While clear-to-start is not asserted a request of class 0 to 2 holds back the queue, and a barrier keeps its state. -/
structure HeldBack (d : Device) (b : BarrierId) (m : BarrierMode) (s : State) : Prop where
  leads : Leads d s.lau.queue
  clear : s.lau.clearToStart = false
  mode : (s.barrier b).mode = m

theorem heldBack_judged {d : Device} (hd : ∀ z, Device.zone z ≠ d) (b : BarrierId) (m : BarrierMode) : Judged (HeldBack d b m) where
  free hfree h := ⟨leads_zoneSteps hd hfree.queue h.leads, hfree.clear.trans h.clear, (hfree.mode b).trans h.mode⟩
  grant {s r rest} hq hgrant h := by
    have hlead := h.leads
    rw [hq] at hlead
    have hcls : r.cls ≤ 2 := hlead.1
    have hheld : s.clearFor r = false := by
      rw [State.clearFor, h.clear, Bool.false_or, beq_eq_false_iff_ne]
      omega
    simp [State.grantable, hheld] at hgrant

/-! ## A device with no request -/

theorem mem_enqueue {r x : Request} {q : List Request} : x ∈ enqueue r q ↔ x = r ∨ x ∈ q := by
  rw [enqueue, List.mem_append, List.mem_cons, or_left_comm, ← List.mem_append, List.takeWhile_append_dropWhile]

theorem device_of_postQueue {r x : Request} {q q' : List Request} (h : postQueue r q = some q') (hx : x ∈ q') :
    x.device = r.device ∨ x ∈ q := by
  unfold postQueue at h
  repeat' split at h
  · obtain rfl := Option.some.inj h
    obtain ⟨y, hy, rfl⟩ := List.mem_map.mp hx
    split
    · exact .inl rfl
    · exact .inr hy
  · obtain rfl := Option.some.inj h
    exact (mem_enqueue.mp hx).imp (congrArg Request.device) fun hx => List.mem_of_mem_filter hx
  · obtain rfl := Option.some.inj h
    exact (mem_enqueue.mp hx).imp_left (congrArg Request.device)
  · cases h

/-- No request of a device waits. -/
def Unposted (d : Device) (q : List Request) : Prop := ∀ r ∈ q, r.device ≠ d

theorem unposted_zoneSteps {d : Device} {q q' : List Request} (hd : ∀ z, Device.zone z ≠ d)
    (hsteps : Relation.ReflTransGen ZoneStep q q') (h : Unposted d q) : Unposted d q' := by
  induction hsteps with
  | refl => exact h
  | tail _ hstep ih =>
    cases hstep with
    | withdrawn z => exact fun r hr => ih r (List.mem_of_mem_filter hr)
    | posted r z hr _ hpost =>
      intro x hx
      obtain hsame | hx := device_of_postQueue hpost hx
      · exact hsame.trans hr ▸ hd z
      · exact ih x hx

theorem barrierMove_queue (b : BarrierId) (m : BarrierMode) (w : Word) (s : State) :
    (barrierMove b m w s).lau.queue = s.lau.queue := by
  rw [barrierMove, barrierGo_queue]
  exact congrArg Lau.queue (commandPoint_lau ..)

theorem gateMove_queue (m : GateMode) (w : Word) (s : State) : (gateMove m w s).lau.queue = s.lau.queue := by
  rw [gateMove, gateGo_lau]
  exact (congrArg Lau.queue (commandPoint_lau s.cfg.gate.drive w s) :)

/-- A grant leaves the requests behind it as they are. -/
theorem deliverGrant_queue (d : Device) (s : State) : (deliverGrant d s).lau.queue = s.lau.queue := by
  cases d with
  | pump p =>
    change (pumpGrant p s).lau.queue = _
    unfold pumpGrant
    split
    · rw [pumpGo_queue, commandPoint_lau]
      rfl
    · rfl
  | barrier b =>
    change (barrierGrant b s).lau.queue = _
    unfold barrierGrant
    repeat' split
    · exact barrierMove_queue ..
    · exact barrierGo_queue ..
    · exact barrierMove_queue ..
    · rfl
  | gate =>
    change (gateGrant s).lau.queue = _
    unfold gateGrant
    split
    · exact gateMove_queue ..
    · exact gateMove_queue ..
    · rfl
  | zone z =>
    change (zoneGrant z s).lau.queue = _
    unfold zoneGrant
    split <;> rfl

theorem unposted_judged {d : Device} (hd : ∀ z, Device.zone z ≠ d) : Judged (fun s => Unposted d s.lau.queue) where
  free hfree h := unposted_zoneSteps hd hfree.queue h
  grant {s r rest} hq _ h := by
    have hrest : (grantHead r rest s).lau.queue = rest := deliverGrant_queue ..
    rw [hrest]
    exact fun x hx => h x (hq ▸ List.mem_cons_of_mem _ hx)

/-! ## The derivation of an UNKNOWN barrier between its limits -/

/-- A post of class 2 of a device with no request leads the queue, or is answered FULL and leaves the queue as it is (R120). -/
theorem post_leads {d : Device} (hline : s.flc.line ≠ .quenched) (h : Unposted d s.lau.queue) (kw factor inrush : Nat) :
    Leads d (post d 2 kw factor inrush s).1.lau.queue ∨ Unposted d (post d 2 kw factor inrush s).1.lau.queue := by
  have hfind : s.lau.queue.find? (fun x => x.device == d) = none := List.find?_eq_none.mpr fun r hr => by simpa using h r hr
  unfold post
  rw [if_neg hline]
  simp only [postQueue, hfind]
  split
  · next q hq =>
    split at hq
    · obtain rfl := Option.some.inj hq
      exact .inl (leads_enqueue_self (r := { device := d, cls := 2, runKw := kw, extra := _, inrush := inrush, arrival := s.now }) rfl _)
    · cases hq
  · exact .inr h

/-- A barrier between its limits, with no demand to close (Table 9-6). -/
structure Between (b : BarrierId) (s : State) : Prop where
  mode : (s.barrier b).mode = .unknown
  fault : (s.barrier b).fault = 0
  good : s.limitsGood b = true
  notOpen : s.limitSet (s.barrierCfg b).openLimit = false
  notClosed : s.limitSet (s.barrierCfg b).closedLimit = false
  demand : s.closureDemand b = false

section
variable {b : BarrierId} (h : Between b s)
include h

theorem Between.derive : barrierDerive b s = barrierPostStay b 2 (barrierGo b .queuedOpen s) := by
  simp [barrierDerive, h.fault, h.notOpen, h.notClosed, h.demand]

/-- Outside RUNNING such a barrier posts with class 2 and is not evaluated (R164). -/
theorem Between.rederive (hhold : s.stc.hold ≠ .running) :
    barrierRederiveUnknown b s = aspectJudge true b (barrierPostStay b 2 (barrierGo b .queuedOpen s)) := by
  unfold barrierRederiveUnknown
  simp only [h.mode, if_true, if_neg hhold]
  split <;> exact (if_pos h.good).trans (congrArg (aspectJudge true b) h.derive)

theorem Between.rederive_leads (hhold : s.stc.hold = .stepping) (hline : s.flc.line ≠ .quenched)
    (hposts : Unposted (.barrier b) s.lau.queue) :
    Leads (.barrier b) (barrierRederiveUnknown b s).lau.queue ∨ Unposted (.barrier b) (barrierRederiveUnknown b s).lau.queue := by
  have hgo : (barrierGo b .queuedOpen s).stc.hold = s.stc.hold :=
    (congrArg (fun x : State => x.stc.hold) (barrierGo_steady s b .queuedOpen) :)
  have hgoLine : (barrierGo b .queuedOpen s).flc.line = s.flc.line :=
    (congrArg (fun x : State => x.flc.line) (barrierGo_steady s b .queuedOpen) :)
  rw [h.rederive (by rw [hhold]; decide), aspectJudge_lau, barrierPostStay, if_neg (by rw [hgo, hhold]; decide)]
  exact post_leads (hgoLine ▸ hline) (by rw [barrierGo_queue]; exact hposts) ..

theorem Between.rederive_other (hhold : s.stc.hold ≠ .running) {o : BarrierId} (ho : o ≠ b) :
    (barrierRederiveUnknown b s).barrier o = s.barrier o := by
  have hpost : ∀ v : State, (barrierPostStay b 2 v).barrier o = v.barrier o := fun v => by
    unfold barrierPostStay
    split
    · exact State.barrier_modBarrier_ne ho ..
    · exact (State.barrier_modBarrier_ne ho ..).trans (post_barrier ..)
  rw [h.rederive hhold, aspectJudge_barrier_ne ho, hpost, barrierGo_barrier_ne ho]
end

/-! ## The counterexample -/

/-- BARRIER_SET of the first barrier, enabled: drive 0, OPEN limit 1, CLOSED limit 2, presence 3, no other point, 1 kW. -/
def strandedWords : List Word := [1, 1, 0, 1, 2, 3, 256, 256, 1, 5, 5, 5]

/-- The record of strandedWords. -/
def strandedCfg : BarrierCfg :=
  { enable := true, drive := some 0, openLimit := some 1, closedLimit := some 2, presence1 := some 3, motorKw := 1
    warn := 5, clearance := 5, travel := 5 }

/-- A step is under way, clear-to-start is not asserted, and the motor part holds a load of the first barrier, which does not move. The
second barrier waits in QUEUED_OPEN with a request of class 3. -/
def stranded : State :=
  { State.reset with
    cfg := { State.reset.cfg with
      points := Tab.put (Tab.put (Tab.put (Tab.put State.reset.cfg.points 0 { kind := .command }) 1 { kind := .discrete }) 2
        { kind := .discrete }) 3 { kind := .discrete } }
    pim := { State.reset.pim with
      points := Tab.put (Tab.put State.reset.pim.points 1 { quality := .good }) 2 { quality := .good } }
    stc := { State.reset.stc with hold := .stepping }
    gsq := { State.reset.gsq with barriers := Tab.put (Tab.put State.reset.gsq.barriers 0 { mode := .opened }) 1 { mode := .queuedOpen } }
    lau := { State.reset.lau with
      clearToStart := false, motorLoad := Tab.put State.reset.lau.motorLoad 0 1
      queue := [{ device := .barrier 1, cls := 3, runKw := 0, extra := 0, inrush := 2, arrival := 0 }] } }

theorem stranded_altering : stranded.Altering := ⟨⟨⟨rfl, rfl⟩, rfl⟩, rfl⟩

theorem parseBarrier_stranded : parseBarrier strandedWords = some (0, strandedCfg) := by decide +kernel

/-- The second barrier OPENING, the first with a request, clear-to-start not asserted, no override, and the line RUNNING. -/
def intruded (t : State) : Bool :=
  (t.barrier 1).mode == .opening && t.lau.queue.any (fun r => r.device == .barrier 0) && t.lau.clearToStart == false &&
    t.cau.overrides == [] && t.flc.line == .running

/-- The model grants the second barrier at the report of the first, and then posts the first. -/
theorem exec_stranded : (match exec (.barrierSet 0 strandedWords) stranded with
    | .next t => intruded t
    | _ => false) = true := by decide +kernel

theorem intruded_of_exec (h : exec (.barrierSet 0 strandedWords) stranded = .next t) : intruded t = true := by
  have hrun := exec_stranded
  rw [h] at hrun
  exact hrun

/-- The record may name its points: they have their kinds and no owner. -/
theorem stranded_lawful :
    let commandable := fun o : Option PointId => ∀ q, o = some q → (stranded.pcfg q).kind = .command ∧
      (ownerOf stranded.cfg q = .nobody ∨ ownerOf stranded.cfg q ∈ [Owner.barrier 0, .signal 0])
    commandable strandedCfg.drive ∧ commandable strandedCfg.head ∧
      ∀ o ∈ [strandedCfg.openLimit, strandedCfg.closedLimit, strandedCfg.presence1, strandedCfg.presence2], ∀ q, o = some q →
        (stranded.pcfg q).kind = .discrete := by
  have hdrive : (stranded.pcfg 0).kind = .command ∧ ownerOf stranded.cfg 0 = .nobody := by decide +kernel
  have hlimits : ∀ q ∈ [(1 : PointId), 2, 3], (stranded.pcfg q).kind = .discrete := by decide +kernel
  refine ⟨fun q hq => ?_, nofun, fun o ho q hq => hlimits q ?_⟩
  · obtain rfl := Option.some.inj hq
    exact ⟨hdrive.1, .inl hdrive.2⟩
  · subst hq
    simpa [strandedCfg] using ho

/-- What a BARRIER_SET that leaves every other barrier as it was would have made of the stranded state before the derivation. -/
structure StrandedSet (h : State) : Prop where
  cfg : h.cfg = { stranded.cfg with barriers := Tab.put stranded.cfg.barriers 0 strandedCfg }
  stage : h.stc.stage = .clear
  hold : h.stc.hold = .stepping
  points : ∀ q, (h.point q).raw = (stranded.point q).raw ∧ (h.point q).quality = (stranded.point q).quality
  other : (h.barrier 1).mode = .queuedOpen
  posts : Unposted (.barrier 0) h.lau.queue
  mode : (h.barrier 0).mode = .unknown
  fault : (h.barrier 0).fault = 0

theorem StrandedSet.between {h : State} (g : StrandedSet h) (hover : h.cau.overrides = []) : Between 0 h := by
  have hcfg : h.barrierCfg 0 = strandedCfg := (congrArg (fun x : Tables => Tab.get x.barriers 0) g.cfg).trans (Tab.get_put_self ..)
  have hlimit : ∀ q ∈ [(1 : PointId), 2], (h.point q).raw = 0 ∧ (h.point q).quality = .good := fun q hq => by
    have hstranded : ∀ q ∈ [(1 : PointId), 2], (stranded.point q).raw = 0 ∧ (stranded.point q).quality = .good := by decide +kernel
    rw [(g.points q).1, (g.points q).2]
    exact hstranded q hq
  obtain ⟨hopen, hopenGood⟩ := hlimit 1 (by decide)
  obtain ⟨hclosed, hclosedGood⟩ := hlimit 2 (by decide)
  exact {
    mode := g.mode
    fault := g.fault
    good := by simp [State.limitsGood, State.isGood, hcfg, strandedCfg, hopenGood, hclosedGood]
    notOpen := by simp [State.limitSet, State.goodAt, hcfg, strandedCfg, hopen]
    notClosed := by simp [State.limitSet, State.goodAt, hcfg, strandedCfg, hclosed]
    demand := by simp [State.closureDemand, State.overrideIs, State.override, hcfg, strandedCfg, g.stage, hover] }

/-- From such a state the second barrier is not granted, or the first has no request. -/
theorem StrandedSet.not_intruded {h : State} (g : StrandedSet h) (tag : Tag) :
    intruded (settledAnswer tag 22 (barrierRederiveUnknown 0 h)) = false := by
  refine Bool.eq_false_iff.mpr fun hintruded => ?_
  simp only [intruded, Bool.and_eq_true, beq_iff_eq, List.any_eq_true] at hintruded
  obtain ⟨⟨⟨⟨hmoving, r, hr, hdevice⟩, hclear⟩, hover⟩, hline⟩ := hintruded
  let w := answer tag 22 stDone [] (barrierRederiveUnknown 0 h)
  have hanswered : w.lau = (barrierRederiveUnknown 0 h).lau := answer_lau ..
  have hderived := barrierRederiveUnknown_steady 0 h
  have hsettled : (settledAnswer tag 22 (barrierRederiveUnknown 0 h)).steady = w.steady := quiesce_steady w
  have hderivedClear : (barrierRederiveUnknown 0 h).lau.clearToStart = false :=
    (congrArg Lau.clearToStart hanswered).symm.trans ((congrArg (fun x : State => x.lau.clearToStart) hsettled :).symm.trans hclear)
  have hbeforeOver : h.cau.overrides = [] :=
    (congrArg (fun x : State => x.cau.overrides) hderived :).symm.trans
      ((congrArg Cau.overrides (settledAnswer_cau tag 22 (barrierRederiveUnknown 0 h))).symm.trans hover)
  have hbeforeLine : h.flc.line = .running :=
    (congrArg (fun x : State => x.flc.line) hderived :).symm.trans
      ((congrArg Flc.line (answer_flc ..) : w.flc.line = _).symm.trans
        ((congrArg (fun x : State => x.flc.line) hsettled :).symm.trans hline))
  have hhold : w.stc.hold = .stepping :=
    (congrArg Stc.hold (answer_stc ..)).trans ((congrArg (fun x : State => x.stc.hold) hderived :).trans g.hold)
  have hbetween := g.between hbeforeOver
  have hother : (w.barrier 1).mode = .queuedOpen := by
    rw [State.barrier_congr (answer_gsq ..), hbetween.rederive_other (by rw [g.hold]; decide) (by decide)]
    exact g.other
  have hzone : ∀ z, Device.zone z ≠ .barrier 0 := nofun
  obtain hleads | hposts := hbetween.rederive_leads g.hold (by rw [hbeforeLine]; decide) g.posts
  · have hheld : HeldBack (.barrier 0) 1 .queuedOpen w := ⟨hanswered ▸ hleads, hanswered ▸ hderivedClear, hother⟩
    have hkept := ((heldBack_judged hzone 1 .queuedOpen).quiesce (by rw [hhold]; decide) hheld).mode
    exact absurd (hkept.symm.trans hmoving) (by decide)
  · exact (unposted_judged hzone).quiesce (s := w) (by rw [hhold]; decide) (hanswered ▸ hposts) r hr hdevice

/-- Refutes O53: in the state `stranded` the report of the first barrier lets the LAU grant the second, although no request of the first
waits; and no state before the derivation that has the second barrier as it was ends there, since the post of the first barrier leads
the queue. -/
theorem not_deviceSettings : ¬ Obligations.DeviceSettings := by
  rintro ⟨-, -, -, -, hset⟩
  obtain ⟨hbarrier, -, -⟩ := hset 0 strandedWords stranded stranded_altering
  obtain ⟨-, hset⟩ := hbarrier 0 strandedCfg parseBarrier_stranded
  obtain ⟨-, hset, -, -⟩ := hset fun _ => stranded_lawful
  obtain ⟨u, hexec, -, -, hset⟩ := hset rfl
  obtain ⟨h, hu, ⟨hcfg, ⟨-, hstage, hhold, hpoints⟩, hother, hposts⟩, hself⟩ := hset rfl rfl
  have hbefore : StrandedSet h :=
    { cfg := hcfg, stage := hstage, hold := hhold, points := hpoints
      other := congrArg BarrierState.mode (hother 1 (by decide) (by decide +kernel))
      posts := hposts (.inl rfl)
      mode := congrArg BarrierState.mode hself
      fault := congrArg BarrierState.fault hself }
  have hintruded : intruded (settledAnswer 0 22 (barrierRederiveUnknown 0 h)) = true := intruded_of_exec (hu ▸ hexec)
  exact absurd (hintruded.symm.trans (hbefore.not_intruded 0)) (by decide)

end Sys2Proof.Machine
end

section
/-! SUPPORT. The arithmetic of the computation of one sump (R65, R70 to R79): the bounds of its quantities. -/

set_option Elab.async false

namespace Sys2Proof.Machine

/-! ## The formulas -/

theorem clamp16_bounds (i : Int) : -32768 ≤ clamp16 i ∧ clamp16 i ≤ 32767 := by
  unfold clamp16
  omega

theorem sum_le_length_mul {l : List Int} {b : Int} (h : ∀ x ∈ l, x ≤ b) : l.sum ≤ l.length * b := by
  simpa using List.sum_le_card_nsmul l b h

/-- A rounded mean is at most a bound of what it is the mean of; the mean of nothing is 0. -/
theorem meanOf_toNat_le {l : List Int} {b : Nat} (h : ∀ x ∈ l, x ≤ b) : (meanOf l.sum l.length).toNat ≤ b := by
  have hsum := sum_le_length_mul h
  unfold meanOf
  rcases Nat.eq_zero_or_pos l.length with hl | hl
  · simp [hl]
  · have hlt : (2 * l.sum + l.length) / (2 * (l.length : Int)) < b + 1 := by
      rw [Int.ediv_lt_iff_lt_mul (by omega)]
      nlinarith
    omega

/-- A primed filter moves towards the level and not past it (R72). -/
theorem filterStep_bounds {k level : Nat} {f : Int} (hk : k ≤ 16) (hlevel : level ≤ 20000) (h0 : 0 ≤ f) (h1 : f ≤ 320000) :
    0 ≤ filterStep k f level ∧ filterStep k f level ≤ 320000 := by
  have hlo : -f ≤ ((16 * level - f) * k + 8) / 16 := by
    rw [Int.le_ediv_iff_mul_le (by norm_num)]
    nlinarith
  have hhi : ((16 * level - f) * k + 8) / 16 < 320000 - f + 1 := by
    rw [Int.ediv_lt_iff_lt_mul (by norm_num)]
    nlinarith
  unfold filterStep
  omega

/-! ## The volume -/

theorem validGeometry_some {v : Vector (Option Breakpoint) 8} {l : List Breakpoint} (h : validGeometry v = some l) :
    presentPrefix v = some l ∧ 2 ≤ l.length ∧ chained (fun a b => decide (a.x < b.x ∧ a.y ≤ b.y)) l = true ∧
      ∀ b ∈ l, b.y ≤ 100000000 := by
  unfold validGeometry at h
  split at h
  · rename_i l' hl
    split at h
    · rename_i hok
      obtain ⟨hlen, hchain, hall⟩ := hok
      cases h
      exact ⟨hl, hlen, hchain, by simpa using hall⟩
    · cases h
  · cases h

/-- An interpolated volume lies between the volumes it is interpolated from (R73). -/
theorem interpolated_bounds {xa xb ya yb : Nat} {f : Int} (hy : ya ≤ yb) (hlo : 16 * (xa : Int) ≤ f) (hhi : f < 16 * xb) :
    0 ≤ ((yb : Int) - ya) * (f - 16 * xa) / (16 * ((xb : Int) - xa)) ∧
      ((yb : Int) - ya) * (f - 16 * xa) / (16 * ((xb : Int) - xa)) ≤ yb - ya := by
  have hden : (0 : Int) < 16 * ((xb : Int) - xa) := by omega
  refine ⟨Int.ediv_nonneg (mul_nonneg (by omega) (by omega)) hden.le, ?_⟩
  refine Int.le_of_lt_add_one ((Int.ediv_lt_iff_lt_mul hden).mpr ?_)
  nlinarith

theorem volumeAt_le {b : Nat} (f : Int) : ∀ {l : List Breakpoint},
    chained (fun a b => decide (a.x < b.x ∧ a.y ≤ b.y)) l = true → (∀ p ∈ l, p.y ≤ b) → volumeAt f l ≤ b
  | [], _, _ => Nat.zero_le b
  | [p], _, h => h p (by simp)
  | p :: q :: rest, hchain, h => by
    have hp : p.y ≤ b := h p (by simp)
    have hq : q.y ≤ b := h q (by simp)
    simp only [chained, Bool.and_eq_true, decide_eq_true_eq] at hchain
    obtain ⟨⟨-, hy⟩, hrest⟩ := hchain
    unfold volumeAt
    split
    · exact hp
    · split
      · have := interpolated_bounds (xa := p.x) (xb := q.x) (f := f) hy (by omega) (by omega)
        omega
      · exact volumeAt_le f hrest fun x hx => h x (List.mem_cons_of_mem _ hx)

end Sys2Proof.Machine
end

section
/-! SUPPORT. The ranges of the quantities of one sump, kept by every operation on its record (R64 to R81). -/

set_option Elab.async false

namespace Sys2Proof.Machine

variable {t : SumpState}

/-! ## The computation -/

theorem SumpState.hold_inRange (h : t.InRange) : t.hold.InRange := by
  obtain ⟨hlevel, hf0, hf1, hvolume, hi0, hi1, hr0, hr1, -, hring⟩ := h
  exact ⟨hlevel, hf0, hf1, hvolume, hi0, hi1, hr0, hr1, Nat.min_le_left .., hring⟩

theorem SumpState.switch_inRange (h : t.InRange) (src : Source) : (t.switch src).InRange := by
  unfold SumpState.switch
  split
  · exact h
  · obtain ⟨hlevel, hf0, hf1, hvolume, hi0, hi1, hr0, hr1, hblind, -⟩ := h
    exact ⟨hlevel, hf0, hf1, hvolume, hi0, hi1, hr0, hr1, hblind, Nat.zero_le _⟩

theorem SumpState.takeLevel_inRange {c : SumpCfg} (hk : c.filterK ≤ 16) (h : t.InRange) (interval : Nat) (usable : List LevelEntry) :
    (t.takeLevel c interval usable).InRange := by
  obtain ⟨-, hf0, hf1, hvolume, hi0, hi1, hr0, hr1, -, hring⟩ := h
  have hlevel : (t.takeLevel c interval usable).cycleLevel ≤ 20000 := meanOf_toNat_le fun x hx => by
    obtain ⟨y, -, rfl⟩ := List.mem_map.mp hx
    omega
  have hfilter : 0 ≤ (t.takeLevel c interval usable).filter ∧ (t.takeLevel c interval usable).filter ≤ 320000 := by
    cases hp : t.primed with
    | true =>
      rw [show (t.takeLevel c interval usable).filter = filterStep c.filterK t.filter (t.takeLevel c interval usable).cycleLevel by
        simp [SumpState.takeLevel, hp]]
      exact filterStep_bounds hk hlevel hf0 hf1
    | false =>
      rw [show (t.takeLevel c interval usable).filter = 16 * (t.takeLevel c interval usable).cycleLevel by
        simp [SumpState.takeLevel, hp]]
      omega
  have hrate : -32768 ≤ (t.takeLevel c interval usable).rate ∧ (t.takeLevel c interval usable).rate ≤ 32767 := by
    unfold SumpState.takeLevel
    dsimp only
    split
    · exact clamp16_bounds _
    · exact ⟨hr0, hr1⟩
  exact ⟨hlevel, hfilter.1, hfilter.2, hvolume, hi0, hi1, hrate.1, hrate.2, Nat.zero_le _, hring⟩

theorem SumpState.takeInflow_inRange {c : SumpCfg} (hn : c.ringSize ≤ 16) {volume : Nat} (hv : volume ≤ 100000000) (h : t.InRange)
    (interval outflow : Nat) (closed : Bool) (base : Nat) : (t.takeInflow c interval outflow closed volume base).InRange := by
  obtain ⟨hlevel, hf0, hf1, -, -, -, hr0, hr1, hblind, hring⟩ := h
  refine ⟨hlevel, hf0, hf1, hv, (clamp16_bounds _).1, (clamp16_bounds _).2, hr0, hr1, hblind, ?_⟩
  simp only [SumpState.takeInflow, List.length_append, List.length_drop, List.length_singleton]
  omega

theorem SumpState.takeVolume_inRange {c : SumpCfg} (hn : c.ringSize ≤ 16) (h : t.InRange) (geometry : Vector (Option Breakpoint) 8)
    (interval outflow : Nat) (closed : Bool) : (t.takeVolume c geometry interval outflow closed).InRange := by
  unfold SumpState.takeVolume
  split
  · exact h
  · rename_i l hl
    obtain ⟨-, -, hchain, hall⟩ := validGeometry_some hl
    have hv := volumeAt_le t.filter hchain hall
    dsimp only
    split
    · obtain ⟨hlevel, hf0, hf1, -, hi0, hi1, hr0, hr1, hblind, -⟩ := h
      exact ⟨hlevel, hf0, hf1, hv, hi0, hi1, hr0, hr1, hblind, Nat.zero_le _⟩
    · exact SumpState.takeInflow_inRange (t := { t with geometryValid := true }) hn hv h interval outflow closed _

theorem computeSump_inRange {c : SumpCfg} (hk : c.filterK ≤ 16) (hn : c.ringSize ≤ 16) (h : t.InRange)
    (geometry : Vector (Option Breakpoint) 8) (interval outflow : Nat) (closed : Bool) (primary backup : Option Drain) :
    (computeSump c geometry interval outflow closed primary backup t).InRange := by
  have hswitch := SumpState.switch_inRange h (sourceOf primary backup)
  unfold computeSump
  dsimp only
  split
  · exact SumpState.hold_inRange hswitch
  · exact SumpState.takeVolume_inRange hn (SumpState.takeLevel_inRange hk hswitch interval _) ..
  · exact SumpState.takeVolume_inRange hn (SumpState.takeLevel_inRange hk hswitch interval _) ..

/-! ## The other operations -/

theorem SumpState.fresh_inRange (h : t.InRange) : t.fresh.InRange := by
  obtain ⟨-, -, -, -, -, -, -, -, hblind, -⟩ := h
  simp [SumpState.InRange, SumpState.fresh, hblind]

theorem SumpState.inRange_of_eq {t u : SumpState} (he : { u with inflowGood := false } = { t with inflowGood := false })
    (h : t.InRange) : u.InRange := by
  have hflag : ∀ x : SumpState, ({ x with inflowGood := false } : SumpState).InRange ↔ x.InRange := fun _ => Iff.rfl
  rwa [← hflag, he, hflag]

theorem SumpState.default_inRange : ({} : SumpState).InRange := by
  simp [SumpState.InRange]

end Sys2Proof.Machine
end

section
/-! SUPPORT. What the work of the stage controller leaves of the state (R86 to R98): everything but its own record, the Override
Table, the hold state that the PSC keeps, and what the delivery of events changes. -/

set_option Elab.async false

namespace Sys2Proof.Machine

variable {s t : State}

/-- The steady part of the state less the records of the STC and the CAU and the hold state that the PSC keeps (R108, R147). -/
def State.plant (s : State) : State :=
  { s.steady with stc := {}, cau := {}, psc := { duty := s.psc.duty, step := s.psc.step, data := s.psc.data } }

theorem plant_of_steady (h : t.steady = s.steady) : t.plant = s.plant :=
  congrArg (fun x : State =>
    { x with stc := {}, cau := {}, psc := { duty := x.psc.duty, step := x.psc.step, data := x.psc.data } }) h

theorem modStc_plant (f : Stc → Stc) (s : State) : (s.modStc f).plant = s.plant := rfl

theorem cancelOverrides_plant (c : OverrideCause) (code : Nat) (s : State) : (cancelOverrides c code s).plant = s.plant := by
  have hfold : (s.cau.overrides.foldl (fun s e => s.tellOwner e.point (ownerOf s.cfg e.point) none c) s).plant = s.plant :=
    foldl_field State.plant (g := fun s (e : Override) => s.tellOwner e.point (ownerOf s.cfg e.point) none c) (fun _ _ => rfl) _ s
  unfold cancelOverrides
  dsimp only
  split
  · exact hfold
  · exact hfold

theorem stageChange_plant (new : Stage) (c : Cause) (s : State) : (stageChange new c s).plant = s.plant := by
  unfold stageChange
  dsimp only
  split
  · exact (cancelOverrides_plant ..).trans rfl
  · rfl

theorem stageTo_plant (new : Stage) (c : Cause) (s : State) : (stageTo new c s).plant = s.plant := by
  have hone := stageChange_plant new c s
  unfold stageTo
  dsimp only
  split
  · split
    · exact (stageChange_plant ..).trans hone
    · exact hone
  · split
    · exact (stageChange_plant ..).trans hone
    · exact hone
  · exact hone

theorem evaluateBelow_plant (d : Stage) (c : Cause) (s : State) : (evaluateBelow d c s).plant = s.plant := by
  unfold evaluateBelow
  dsimp only
  split
  · exact stageTo_plant ..
  · split
    · split
      · rfl
      · exact stageTo_plant ..
    · split <;> rfl

theorem stageEvaluate_plant (s : State) : (stageEvaluate s).plant = s.plant := by
  unfold stageEvaluate
  dsimp only
  split
  · exact evaluateBelow_plant ..
  · exact evaluateBelow_plant ..
  · exact evaluateBelow_plant ..
  · rfl
  · rfl
  · split
    · exact stageTo_plant ..
    · rfl

theorem derive_plant (s : State) : (derive s).plant = s.plant := by
  unfold derive
  dsimp only
  repeat' split
  · exact stageTo_plant ..
  · exact stageTo_plant ..
  · rfl
  · exact stageTo_plant ..
  · rfl

theorem descend_plant (s : State) : (descend s).plant = s.plant := by
  have hfall : ∀ new : Stage, ∀ u : State, u.plant = s.plant → (if (stageTo new { sump := 0, test := 11 } u).stc.demanded.code < new.code
      then (stageTo new { sump := 0, test := 11 } u).modStc fun c =>
        { c with descent := (stageTo new { sump := 0, test := 11 } u).descentTimer }
      else stageTo new { sump := 0, test := 11 } u).plant = s.plant := by
    intro new u hu
    split
    · exact (stageTo_plant ..).trans hu
    · exact (stageTo_plant ..).trans hu
  unfold descend
  dsimp only
  split
  · exact hfall .watch _ rfl
  · exact hfall .clear _ rfl
  · rfl

/-! ## The control hold -/

theorem gsqHold_steady (s : State) : (gsqHold s).steady = s.steady :=
  foldl_field State.steady (g := fun s b => barrierHold b s) (fun _ _ => rfl) fourIds s

theorem setHold_plant (h : HoldState) (s : State) : (setHold h s).plant = s.plant := by
  unfold setHold
  dsimp only
  split
  · exact (plant_of_steady (gsqHold_steady _)).trans rfl
  · rfl

theorem breakHeld_plant (d : SumpData) (s : State) : (breakHeld d s).plant = s.plant := by
  unfold breakHeld
  dsimp only
  refine (plant_of_steady (raiseNotice_steady ..)).trans ((stageTo_plant ..).trans ?_)
  exact (plant_of_steady (rederiveAll_steady _)).trans ((setHold_plant ..).trans rfl)

theorem breakStepping_plant (d : SumpData) (s : State) : (breakStepping d s).plant = s.plant := by
  unfold breakStepping
  split
  · dsimp only
    split
    · rfl
    · refine (plant_of_steady (raiseNotice_steady ..)).trans ?_
      split
      · rfl
      · exact (stageTo_plant ..).trans rfl
  · rfl

theorem stcCompletion_plant (s : State) : (stcCompletion s).plant = s.plant := by
  unfold stcCompletion
  split
  · split
    · exact derive_plant s
    · split
      · exact setHold_plant ..
      · exact stageEvaluate_plant s
  · split
    · exact breakHeld_plant ..
    · rfl
  · split
    · exact breakStepping_plant ..
    · rfl

end Sys2Proof.Machine
end

section
/-! SUPPORT. The ranges of the sumps' quantities (R66 to R80) through the work of the blocks, and what leaves them as they are. -/

set_option Elab.async false

namespace Sys2Proof.Machine

variable {s t u : State}

/-! ## The part of the state that the ranges speak of -/

/-- The records of the sumps less the inflow quality, with their settings in force, in the store and in a commit. -/
def State.sumpSide (s : State) : Vector SumpState 4 × Vector SumpCfg 4 × Option StoreImage × Option Commit :=
  (s.sau.sumps.map fun x => { x with inflowGood := false }, s.cfg.sumps, s.mgu.store, s.mgu.commit)

/-- The ranges of the sumps are kept from one state to another. -/
structure KeepsRange (s t : State) : Prop where
  keeps : s.SumpsInRange → t.SumpsInRange

theorem KeepsRange.refl (s : State) : KeepsRange s s := ⟨id⟩

/-- The last thing done first: a proof about a composed operation follows the operation from the outside inwards. -/
theorem KeepsRange.after (g : KeepsRange t u) (h : KeepsRange s t) : KeepsRange s u := ⟨g.keeps ∘ h.keeps⟩

theorem KeepsRange.ite {c : Prop} [Decidable c] (h : KeepsRange s t) (g : KeepsRange s u) : KeepsRange s (if c then t else u) := by
  split
  · exact h
  · exact g

/-- The state in the answer of an operation without data, and with data. -/
theorem KeepsRange.snd {α : Type} {a : α} (h : KeepsRange s t) : KeepsRange s (a, t).2 := h
theorem KeepsRange.third {α β : Type} {a : α} {b : β} (h : KeepsRange s t) : KeepsRange s (a, b, t).2.2 := h

theorem KeepsRange.iteSnd {α : Type} {c : Prop} [Decidable c] {x y : α × State} (h : KeepsRange s x.2) (g : KeepsRange s y.2) :
    KeepsRange s (if c then x else y).2 := by
  split
  · exact h
  · exact g

theorem KeepsRange.foldl {α : Type} {f : State → α → State} (h : ∀ s a, KeepsRange s (f s a)) (l : List α) (s : State) :
    KeepsRange s (l.foldl f s) := by
  induction l generalizing s with
  | nil => exact .refl s
  | cons a l ih => exact .after (ih _) (h s a)

/-- Sumps with records in range, settings as they stood, and a store and a commit in range. -/
theorem KeepsRange.of_image (hsumps : s.SumpsInRange → ∀ k, (t.sump k).InRange) (hcfg : t.cfg.sumps = s.cfg.sumps)
    (hstore : s.SumpsInRange → ∀ i, t.mgu.store = some i → i.tables.SumpsInRange)
    (hcommit : s.SumpsInRange → ∀ c, t.mgu.commit = some c → c.image.tables.SumpsInRange) : KeepsRange s t :=
  ⟨fun hs => ⟨hsumps hs, fun k => by
    rw [hcfg]
    exact hs.2.1 k, hstore hs, hcommit hs⟩⟩

/-- Sumps with records in range and with the settings, the store and the commit of a state in range. -/
theorem KeepsRange.of_records (hsumps : s.SumpsInRange → ∀ k, (t.sump k).InRange) (hcfg : t.cfg.sumps = s.cfg.sumps)
    (hmgu : (t.mgu.store, t.mgu.commit) = (s.mgu.store, s.mgu.commit)) : KeepsRange s t := by
  obtain ⟨hst, hco⟩ := (Prod.mk.injEq ..).mp hmgu
  refine .of_image hsumps hcfg (fun ⟨_, _, hstore, _⟩ i hi => ?_) fun ⟨_, _, _, hcommit⟩ c hc => ?_
  · exact hstore i (hst ▸ hi)
  · exact hcommit c (hco ▸ hc)

theorem KeepsRange.of_side (h : t.sumpSide = s.sumpSide) : KeepsRange s t := by
  obtain ⟨hsumps, hcfgmgu⟩ := (Prod.mk.injEq ..).mp h
  obtain ⟨hcfg, hmgu⟩ := (Prod.mk.injEq ..).mp hcfgmgu
  refine .of_records (fun hs k => SumpState.inRange_of_eq ?_ (hs.1 k)) hcfg hmgu
  simpa only [State.sump, Tab.get_map] using congrArg (fun v => Tab.get v k) hsumps

theorem KeepsRange.of_inert (h : t.inert = s.inert) : KeepsRange s t :=
  .of_side (congrArg (fun x : State => (x.sau.sumps, x.cfg.sumps, x.mgu.store, x.mgu.commit)) h :)
theorem KeepsRange.of_core (h : t.core = s.core) : KeepsRange s t := .of_inert (inert_of_core h)
theorem KeepsRange.of_steady (h : t.steady = s.steady) : KeepsRange s t := .of_core (core_of_steady h)
theorem KeepsRange.of_plant (h : t.plant = s.plant) : KeepsRange s t :=
  .of_side (congrArg (fun x : State => (x.sau.sumps, x.cfg.sumps, x.mgu.store, x.mgu.commit)) h :)
theorem KeepsRange.of_traces (h : Traces s t) : KeepsRange s t :=
  .of_side (congrArg State.sumpSide h.same :)

theorem quiesce_keepsRange : KeepsRange s (quiesce s) := .of_steady (quiesce_steady s)

/-! ## The records of the other blocks, settings and answers -/

theorem modPim_keepsRange (f : Pim → Pim) : KeepsRange s (s.modPim f) := .of_side rfl
theorem modFlc_keepsRange (f : Flc → Flc) : KeepsRange s (s.modFlc f) := .of_side rfl
theorem modUpp_keepsRange (f : Upp → Upp) : KeepsRange s (s.modUpp f) := .of_side rfl
theorem modStc_keepsRange (f : Stc → Stc) : KeepsRange s (s.modStc f) := .of_side rfl
theorem modLau_keepsRange (f : Lau → Lau) : KeepsRange s (s.modLau f) := .of_side rfl
theorem modPsc_keepsRange (f : Psc → Psc) : KeepsRange s (s.modPsc f) := .of_side rfl
theorem modGsq_keepsRange (f : Gsq → Gsq) : KeepsRange s (s.modGsq f) := .of_side rfl
theorem advance_keepsRange (n : Nat) : KeepsRange s (s.advance n) := .of_side rfl
theorem nextFree_keepsRange : KeepsRange s s.nextFree := .of_side rfl
theorem modPoint_keepsRange (p : PointId) (f : PointState → PointState) : KeepsRange s (s.modPoint p f) := .of_side rfl
theorem raiseNotice_keepsRange (code : Nat) (data : List Word) : KeepsRange s (raiseNotice code data s) := .of_side rfl

/-- A setting that is not one of the sumps. -/
theorem modCfg_keepsRange {f : Tables → Tables} (h : (f s.cfg).sumps = s.cfg.sumps) : KeepsRange s (s.modCfg f) :=
  .of_records And.left h rfl

theorem modMgu_keepsRange {f : Mgu → Mgu} (h : ((f s.mgu).store, (f s.mgu).commit) = (s.mgu.store, s.mgu.commit)) :
    KeepsRange s (s.modMgu f) := .of_records And.left rfl h

theorem offerUp_keepsRange (e : UpEntry) : KeepsRange s (offerUp e s) := by
  refine .of_records (fun hs k => ?_) (congrArg Tables.sumps (offerUp_cfg s e)) ?_
  · rw [State.sump, offerUp_sau]
    exact hs.1 k
  · unfold offerUp
    repeat' split
    · rfl
    · rfl
    · rw [logFault_mgu]
      rfl
    · rw [logFault_mgu]

theorem answer_keepsRange (tag : Tag) (code status : Nat) (data : List Word) : KeepsRange s (answer tag code status data s) :=
  offerUp_keepsRange _
theorem refuse_keepsRange (w : Frame) (reason : Nat) : KeepsRange s (refuse w reason s) := offerUp_keepsRange _
theorem logFault_keepsRange (x : FaultUpdate) : KeepsRange s (logFault x s) := .of_traces (logFault_traces x)

theorem onExpiry_keepsRange {x : Timer} {act : State → State} (h : ∀ s, KeepsRange s (act s)) :
    KeepsRange s (onExpiry x s act) := by
  unfold onExpiry
  split
  · exact .after (h _) (advance_keepsRange _)
  · exact .refl s

/-! ## Point events and command outcomes -/

theorem observe_keepsRange (p : PointId) (v : Bool) (f : PointState → PointState) : KeepsRange s (observe p v f s) :=
  .after (.of_inert ((observe_inert p v f s).trans rfl)) (modPoint_keepsRange p f)

theorem restartAge_keepsRange (p : PointId) : KeepsRange s (restartAge p s) := .of_side rfl

theorem commandOutcome_keepsRange (p : PointId) (failed : Bool) : KeepsRange s (commandOutcome p failed s) := by
  by_cases hk : (s.pcfg p).kind = .command
  · exact .of_core (commandOutcome_core failed hk)
  · rw [commandOutcome, if_neg hk]
    exact .refl s

theorem applySample_keepsRange (p : PointId) (w : Word) (invalid : Bool) : KeepsRange s (applySample p w invalid s) := by
  have hage := restartAge_keepsRange (s := s) p
  unfold applySample
  dsimp only
  split
  · exact .refl s
  · exact .refl s
  · refine .after (observe_keepsRange ..) ?_
    split
    · exact .after (modPim_keepsRange _) hage
    · exact hage
  · exact .after (observe_keepsRange ..) hage
  · exact .ite (.after (observe_keepsRange ..) hage) (.after (observe_keepsRange ..) hage)
  · exact .after (observe_keepsRange ..) hage

theorem applyEcho_keepsRange (p : PointId) (w : Word) : KeepsRange s (applyEcho p w s) :=
  .ite (.after (observe_keepsRange ..) (restartAge_keepsRange p)) (.refl s)

theorem applyValues_keepsRange (quality : Word) (i : Nat) (l : List (Lookup × Word)) : KeepsRange s (applyValues quality i l s) := by
  rw [applyValues_eq_foldl]
  refine .foldl (fun s x => ?_) _ s
  split
  · exact applySample_keepsRange ..
  · exact .refl s

theorem observeValue_keepsRange (f : Frame) : KeepsRange s (observeValue f s) :=
  .after (applyValues_keepsRange ..) (.of_traces (lookups_traces ..))

theorem observeEcho_keepsRange (f : Frame) : KeepsRange s (observeEcho f s) := by
  refine .after (.foldl (fun s x => ?_) _ _) (.of_traces (lookups_traces s.planInForce f.src .command kindEcho f.channel.toNat
    f.payload.length))
  split
  · exact applyEcho_keepsRange ..
  · exact .refl s

theorem freshnessExpiry_keepsRange (p : PointId) : KeepsRange s (freshnessExpiry p s) :=
  .ite (.after (observe_keepsRange ..) (modPoint_keepsRange p _)) (modPoint_keepsRange p _)

theorem changeKind_keepsRange (p : PointId) (c : PointCfg) : KeepsRange s (changeKind p c s) := by
  refine .after (.of_inert (changeKind_inert p c s)) ?_
  refine .of_side ?_
  unfold startedAfresh
  dsimp only
  repeat' split
  all_goals rfl

/-! ## Lighting evaluations and the entry into QUENCHED -/

theorem dimmerRetry_steady (z : ZoneId) (before : Nat) (s : State) : (dimmerRetry z before s).steady = s.steady := by
  unfold dimmerRetry
  dsimp only
  repeat' split
  all_goals simp

theorem lampJudge_steady (z : ZoneId) (s : State) : (lampJudge z s).steady = s.steady := by
  unfold lampJudge
  dsimp only
  repeat' split
  all_goals simp

theorem zoneAct_steady (z : ZoneId) (s : State) : (zoneAct z s).steady = s.steady := by
  unfold zoneAct
  split
  · split
    · rfl
    · exact zoneRederive_steady ..
    · exact (dimmerRetry_steady ..).trans (zoneRamp_steady ..)
    · refine (dimmerRetry_steady ..).trans ?_
      split
      · rfl
      · exact restorationPost_steady ..
    · exact (dimmerRetry_steady ..).trans (restorationUpdate_steady ..)
  · rfl

theorem reserveCheck_steady (z : ZoneId) (s : State) : (reserveCheck z s).steady = s.steady := rfl

theorem zoneEval_steady (acting : Bool) (z : ZoneId) (s : State) : (zoneEval acting z s).steady = s.steady := by
  unfold zoneEval
  dsimp only
  split
  · rfl
  · rw [zoneReport_steady, reserveCheck_steady]
    split
    · rw [lampJudge_steady, reserveCheck_steady, zoneAct_steady]
      rfl
    · rfl

theorem ltuEvaluate_steady (acting : Bool) (s : State) : (ltuEvaluate acting s).steady = s.steady :=
  eachDevice_steady s _ _ (zoneEval_steady acting)

theorem pumpQuench_steady (p : PumpId) (s : State) : (pumpQuench p s).steady = s.steady := by
  unfold pumpQuench
  split <;> simp

theorem barrierQuench_steady (b : BarrierId) (s : State) : (barrierQuench b s).steady = s.steady := by
  unfold barrierQuench
  split <;> simp

theorem gateQuench_steady (s : State) : (gateQuench s).steady = s.steady := by
  unfold gateQuench
  split <;> simp

theorem zoneQuench_steady (z : ZoneId) (s : State) : (zoneQuench z s).steady = s.steady := by
  unfold zoneQuench
  split <;> simp

theorem quenchJobs_steady (s : State) : (quenchJobs s).steady = s.steady := by
  have hpsc : (pscQuench s).steady = s.steady := foldl_steady _ _ (fun s p => pumpQuench_steady p s) s
  have hgsq : (gsqQuench (pscQuench s)).steady = (pscQuench s).steady :=
    (gateQuench_steady _).trans (foldl_steady _ _ (fun s b => barrierQuench_steady b s) _)
  have hltu : (ltuQuench (gsqQuench (pscQuench s))).steady = (gsqQuench (pscQuench s)).steady :=
    foldl_steady _ _ (fun s z => zoneQuench_steady z s) _
  exact (quiesce_steady _).trans (hltu.trans (hgsq.trans hpsc))

/-! ## The Override Table and the points of a role -/

theorem removeOverride_keepsRange (p : PointId) (o : Owner) (c : OverrideCause) : KeepsRange s (removeOverride p o c s) :=
  .ite (.of_side rfl) (.refl s)

theorem releaseRole_keepsRange (o : Owner) (x y : Bool) (old new : Option PointId) : KeepsRange s (releaseRole o x y old new s) := by
  unfold releaseRole
  split
  · refine .ite ?_ (.refl s)
    unfold releasePoint
    dsimp only
    refine .ite (.ite (.after (modFlc_keepsRange _) (removeOverride_keepsRange ..))
      (.after (modPoint_keepsRange ..) (.after (modFlc_keepsRange _) (removeOverride_keepsRange ..)))) (removeOverride_keepsRange ..)
  · exact .refl s

theorem dutyAfter_keepsRange (p : PumpId) (old new : PumpCfg) : KeepsRange s (dutyAfter p old new s) :=
  .ite (modPsc_keepsRange _) (.ite (.after (modPsc_keepsRange _) (modPsc_keepsRange _)) (.refl s))

end Sys2Proof.Machine
end

section
/-! PROOFS. The ranges of the sumps' quantities (R66 to R80): each command keeps them. -/

set_option Elab.async false

namespace Sys2Proof.Machine

variable {s t u : State}

/-! ## The records and settings of the sumps -/

/-- The new record of one sump is in range. -/
theorem modSump_keepsRange {k : SumpId} {f : SumpState → SumpState} (h : s.SumpsInRange → (f (s.sump k)).InRange) :
    KeepsRange s (s.modSump k f) := by
  refine .of_records (fun hs j => ?_) rfl rfl
  rw [sump_modSump]
  split
  · exact h hs
  · exact hs.1 j

/-- An operation that keeps the ranges of any record. -/
theorem modSump_keepsRange_of_forall {k : SumpId} {f : SumpState → SumpState} (h : ∀ x, x.InRange → (f x).InRange) :
    KeepsRange s (s.modSump k f) := modSump_keepsRange fun hs => h _ (hs.1 k)

theorem modSau_keepsRange {f : Sau → Sau} (h : (f s.sau).sumps = s.sau.sumps) : KeepsRange s (s.modSau f) :=
  .of_records (fun hs k => by
    rw [State.sump, State.modSau_sau, h]
    exact hs.1 k) rfl rfl

theorem sumpSettings_keepsRange {k : SumpId} {c : SumpCfg} (hk : c.filterK ≤ 16) (hn : c.ringSize ≤ 16) :
    KeepsRange s (s.modCfg fun t => { t with sumps := Tab.put t.sumps k c }) := by
  refine ⟨fun hs => ⟨hs.1, fun j => ?_, hs.2.2.1, hs.2.2.2⟩⟩
  simp only [State.modCfg, Tab.get_put]
  split
  · exact ⟨hk, hn⟩
  · exact hs.2.1 j

theorem opIn_le {ops : List Word} {i lo hi n : Nat} (h : opIn ops i lo hi = some n) : n ≤ hi := by
  rw [opIn_eq_ite] at h
  split at h
  · rename_i hin
    obtain ⟨-, -, hle⟩ := hin
    exact Option.some.inj h ▸ hle
  · cases h

/-- The filter constant and the ring size of a record that is formed are in range (Table 4-1). -/
theorem parseSump_bounds {ops : List Word} {k : SumpId} {c : SumpCfg} (h : parseSump ops = some (k, c)) :
    c.filterK ≤ 16 ∧ c.ringSize ≤ 16 := by
  simp only [parseSump, Option.bind_eq_bind, Option.bind_eq_some_iff, Option.some.injEq, Prod.mk.injEq] at h
  obtain ⟨_, -, _, -, _, -, _, -, _, -, filterK, hfilter, ring, hring, _, -, _, -, _, -, _, -, -, rfl⟩ := h
  exact ⟨opIn_le hfilter, opIn_le hring⟩

theorem sumpSetOp_keepsRange (ops : List Word) : KeepsRange s (sumpSetOp ops s).2 := by
  unfold sumpSetOp
  split
  · exact .refl s
  · rename_i k c h
    obtain ⟨hk, hn⟩ := parseSump_bounds h
    have hrecord : ∀ b : Bool, ∀ x : SumpState, x.InRange →
        (if b then { x with primed := false, base := none, inflowGood := false } else x.fresh).InRange := by
      intro b x hx
      split
      · exact hx
      · exact SumpState.fresh_inRange hx
    split
    · have hset := KeepsRange.after (modSump_keepsRange_of_forall (k := k) (hrecord ((s.sumpCfg k).configured && c.configured)))
        (sumpSettings_keepsRange (s := s) (k := k) hk hn)
      exact .snd (.ite hset (.after (modPsc_keepsRange _) hset))
    · exact .refl s

theorem geometrySetOp_keepsRange (ops : List Word) : KeepsRange s (geometrySetOp ops s).2 := by
  unfold geometrySetOp
  split
  · exact .refl s
  · refine .snd (.after (modSump_keepsRange_of_forall fun x hx => ?_) (modCfg_keepsRange rfl))
    dsimp only
    split
    · exact hx
    · exact hx

theorem clearSumps_keepsRange : KeepsRange s (clearSumps s) := by
  refine .of_records (fun hs k => ?_) rfl rfl
  rw [State.sump, clearSumps, State.modSau_sau, Tab.get_map]
  exact hs.1 k

theorem sumpRead_keepsRange (ops : List Word) : KeepsRange s (sumpRead ops s).2.2 := by
  unfold sumpRead recordOp
  split
  · exact .ite (modSump_keepsRange_of_forall fun _ hx => hx) (.refl s)
  · exact .refl s

/-! ## The DRAINAGE CYCLE -/

theorem cycleStart_keepsRange : KeepsRange s (cycleStart s) := by
  cases h : s.sau.cycle with
  | some c =>
    rw [cycleStart_inFlight (by simp [h])]
    exact .refl s
  | none =>
    rw [cycleStart_eq h]
    refine .of_records (fun hs k => ?_) rfl rfl
    have hdrains : (drainPoints s.drainNames s).2.sump k = s.sump k := by
      rw [drainPoints_rest]
      rfl
    refine (show ((noteCycleDrains s.cycleBegun.drains (drainPoints s.drainNames s).2).sump k).InRange from ?_)
    rw [noteCycleDrains_sump, hdrains]
    split
    · exact hs.1 k
    · exact hs.1 k

theorem completeSump_keepsRange (c : Cycle) (k : SumpId) : KeepsRange s (completeSump c k s) := by
  have hcompute := fun outflow closed primary backup => modSump_keepsRange (s := s) (k := k)
    (f := fun _ => computeSump (s.sumpCfg k) (Tab.get s.cfg.geometry k) c.interval outflow closed primary backup (s.sump k))
    fun hs => computeSump_inRange (hs.2.1 k).1 (hs.2.1 k).2 (hs.1 k) ..
  unfold completeSump
  exact .ite (.after (raiseNotice_keepsRange _ _) (hcompute ..)) (hcompute ..)

theorem completionEvent_keepsRange (d : List SumpData) : KeepsRange s (completionEvent d s) := by
  have hstc : KeepsRange s (quiesce (stcCompletion (s.modStc fun c => { c with data := some d }))) :=
    .after quiesce_keepsRange (.after (.of_plant (stcCompletion_plant _)) (modStc_keepsRange _))
  have hpsc := KeepsRange.after (modPsc_keepsRange _ : KeepsRange _ (pscData d _)) hstc
  refine .after quiesce_keepsRange (.ite (.after (.of_steady (gsqEvaluate_steady _)) ?_) ?_)
  all_goals exact .after (modGsq_keepsRange _) (.after quiesce_keepsRange
    (.ite (.after (.of_steady (pscEvaluate_steady _)) hpsc) hpsc))

theorem cycleCompute_keepsRange (c : Cycle) : KeepsRange s (cycleCompute c s) :=
  .after (completionEvent_keepsRange _) (.after (.foldl (fun _ k => completeSump_keepsRange c k) _ _) (modSau_keepsRange rfl))

/-! ## The taking of an operation -/

theorem takeOp_keepsRange {tag : Tag} {code : Nat} {stored : Bool} {act : State → State} (h : KeepsRange s (act s)) :
    KeepsRange s (takeOp tag code stored act s) := .ite (answer_keepsRange ..) h

theorem configure_keepsRange {tag : Tag} {code : Nat} {op : State → Nat × State} (h : KeepsRange s (op s).2) :
    KeepsRange s (configure tag code op s) := takeOp_keepsRange (.after (answer_keepsRange ..) h)

theorem takeData_keepsRange {tag : Tag} {code : Nat} {stored : Bool} {op : State → Nat × List Word × State}
    (h : KeepsRange s (op s).2.2) : KeepsRange s (takeOp tag code stored (fun s => replyData tag code (op s)) s) :=
  takeOp_keepsRange (.after (answer_keepsRange ..) h)

theorem takeSumpSet_keepsRange (tag : Tag) (ops : List Word) : KeepsRange s (takeSumpSet tag ops s) :=
  .ite (answer_keepsRange ..) (.after (answer_keepsRange ..) (sumpSetOp_keepsRange ops))

theorem takeGeometrySet_keepsRange (tag : Tag) (ops : List Word) : KeepsRange s (takeGeometrySet tag ops s) :=
  .ite (answer_keepsRange ..) (.after (answer_keepsRange ..) (geometrySetOp_keepsRange ops))

theorem deferOp_keepsRange (d : Deferred) : KeepsRange s (deferOp d s) := modSau_keepsRange rfl

theorem takeDeferred_keepsRange (d : Deferred) : KeepsRange s (takeDeferred d s) := by
  refine .after quiesce_keepsRange ?_
  cases d with
  | sumpSet tag ops => exact takeSumpSet_keepsRange tag ops
  | geometrySet tag ops => exact takeGeometrySet_keepsRange tag ops
  | recordSump tag ops => exact .after (answer_keepsRange ..) (sumpRead_keepsRange ops)
  | statusClear tag => exact .after (answer_keepsRange ..) clearSumps_keepsRange

theorem cycleCompletes_keepsRange : KeepsRange s (cycleCompletes s) := by
  unfold cycleCompletes
  split
  · exact .after (.foldl (fun _ d => takeDeferred_keepsRange d) _ _) (.after (cycleCompute_keepsRange _) (modSau_keepsRange rfl))
  · exact .refl s

/-! ## Maps, points and the scan -/

theorem putEntry_keepsRange (l : MapLoc) (e : MapEntry) : KeepsRange s (s.putEntry l e) := .of_traces (putEntry_traces l e)

theorem placePinned_keepsRange {f : MapFields} {r : MapLoc × State} (h : placePinned f s = some r) : KeepsRange s r.2 := by
  unfold placePinned at h
  dsimp only at h
  split at h
  · exact Option.some.inj h ▸ .snd (.after (putEntry_keepsRange ..) (.foldl (fun _ _ => putEntry_keepsRange ..) _ _))
  · split at h
    · exact Option.some.inj h ▸ .snd (putEntry_keepsRange ..)
    · split at h
      · exact Option.some.inj h ▸ .snd (putEntry_keepsRange ..)
      · split at h
        · exact Option.some.inj h ▸ .snd (.after (putEntry_keepsRange ..) (.of_side rfl))
        · cases h

theorem placeSet_keepsRange (f : MapFields) : KeepsRange s (placeSet f s).2 := by
  unfold placeSet
  dsimp only
  repeat' split
  case isFalse.isFalse.isFalse.isFalse.isFalse.isFalse =>
    exact .snd (.after (putEntry_keepsRange ..) (.after (putEntry_keepsRange ..) (putEntry_keepsRange ..)))
  all_goals exact .snd (putEntry_keepsRange ..)

theorem writeSet_keepsRange (i : Fin 128) (w : Fin 2) (f : MapFields) : KeepsRange s (writeSet i w f s) := by
  unfold writeSet
  exact .after (putEntry_keepsRange ..) (.ite (putEntry_keepsRange ..) (.refl s))

theorem mapWriteOp_keepsRange (ops : List Word) : KeepsRange s (mapWriteOp ops s).2.2 := by
  unfold mapWriteOp
  split
  · exact .refl s
  · split
    · exact .third (putEntry_keepsRange ..)
    · exact .third (.after (putEntry_keepsRange ..) (.foldl (fun _ _ => putEntry_keepsRange ..) _ s))
    · split
      · exact placePinned_keepsRange ‹_›
      · exact .refl s
    · split
      · exact .third (writeSet_keepsRange _ _ _)
      · exact .refl s
    · exact placeSet_keepsRange _

theorem demapKeyOp_keepsRange (ops : List Word) : KeepsRange s (demapKeyOp ops s).2.2 := by
  unfold demapKeyOp
  split
  · exact .of_traces (invalidateAll_traces _)
  · exact .refl s

theorem demapPlanOp_keepsRange (ops : List Word) : KeepsRange s (demapPlanOp ops s).2.2 := by
  unfold demapPlanOp
  split
  · exact .of_side rfl
  · exact .refl s

theorem faultGetOp_keepsRange (ops : List Word) : KeepsRange s (faultGetOp ops s).2.2 := by
  unfold faultGetOp
  split
  · exact .ite (.of_side rfl) (.refl s)
  · exact .refl s

theorem missGetOp_keepsRange (ops : List Word) : KeepsRange s (missGetOp ops s).2.2 := by
  unfold missGetOp
  split
  · exact .ite (.of_side rfl) (.refl s)
  · exact .refl s

theorem mapReadOp_keepsRange (ops : List Word) : KeepsRange s (mapReadOp ops s).2.2 := by
  unfold mapReadOp
  split
  · exact .refl s
  · exact .refl s

theorem pointSetOp_keepsRange (ops : List Word) : KeepsRange s (pointSetOp ops s).2 := by
  unfold pointSetOp
  dsimp only
  repeat' split
  · exact .refl s
  · exact .refl s
  · exact .refl s
  · exact .snd (modCfg_keepsRange rfl)
  · exact .snd (changeKind_keepsRange ..)

theorem pointGetOp_keepsRange (ops : List Word) : KeepsRange s (pointGetOp ops s).2.2 := by
  unfold pointGetOp
  split
  · exact .third (.after (modPoint_keepsRange ..) nextFree_keepsRange)
  · exact .refl s

theorem scanSetOp_keepsRange (ops : List Word) : KeepsRange s (scanSetOp ops s).2 := by
  unfold scanSetOp
  split
  · exact .refl s
  · exact .ite (.after (modPim_keepsRange _) (modCfg_keepsRange rfl)) (.after (modPim_keepsRange _) (modCfg_keepsRange rfl))

/-! ## Settings of the other blocks and the devices -/

theorem stageSetOp_keepsRange (ops : List Word) : KeepsRange s (stageSetOp ops s).2 := by
  unfold stageSetOp
  repeat' split
  · exact .refl s
  · exact .snd (modCfg_keepsRange rfl)
  · exact .refl s
  · exact .snd (modCfg_keepsRange rfl)
  · exact .refl s

theorem planSetOp_keepsRange (ops : List Word) : KeepsRange s (planSetOp ops s).2 := by
  unfold planSetOp
  split
  · exact .snd (modCfg_keepsRange rfl)
  · exact .refl s

theorem lineSetOp_keepsRange (ops : List Word) : KeepsRange s (lineSetOp ops s).2 := by
  unfold lineSetOp
  split
  · exact .snd (modCfg_keepsRange rfl)
  · exact .refl s

theorem curveSetOp_keepsRange (ops : List Word) : KeepsRange s (curveSetOp ops s).2 := by
  unfold curveSetOp
  split
  · exact .snd (modCfg_keepsRange rfl)
  · exact .refl s

theorem supplySetOp_keepsRange (ops : List Word) : KeepsRange s (supplySetOp ops s).2 := by
  unfold supplySetOp
  dsimp only
  repeat' split
  · exact .refl s
  · exact .after (.of_inert (keyJudge_inert _)) (.after (.of_inert (judgeSupply_inert _))
      (.after (modLau_keepsRange _) (modCfg_keepsRange rfl)))
  · exact .refl s

theorem pumpSetOp_keepsRange (ops : List Word) : KeepsRange s (pumpSetOp ops s).2 := by
  unfold pumpSetOp
  split
  · exact .refl s
  · rename_i p c h
    have hstored : KeepsRange s ((dutyAfter p (s.pumpCfg p) c (releaseRole (.pump p) (s.pumpCfg p).enable c.enable
        (s.pumpCfg p).runPoint c.runPoint (s.modCfg fun t => { t with pumps := Tab.put t.pumps p c }))).modPump p
          fun t => { t with postDeferred := false }) :=
      .after (modPsc_keepsRange _) (.after (dutyAfter_keepsRange ..) (.after (releaseRole_keepsRange ..) (modCfg_keepsRange rfl)))
    dsimp only
    split
    · exact .refl s
    · split
      case h_6 =>
        exact .ite (.after (.of_steady (pumpGo_steady ..)) hstored) (.ite hstored
          (.after (.of_steady (pumpRederive_steady ..)) (.after (.of_steady (pumpGo_steady ..)) hstored)))
      all_goals exact .refl s

theorem pumpingSetOp_keepsRange (ops : List Word) : KeepsRange s (pumpingSetOp ops s).2 := by
  unfold pumpingSetOp
  repeat' split
  · exact .refl s
  · exact .refl s
  · exact .snd (.after (modPsc_keepsRange _) (modCfg_keepsRange rfl))

theorem barrierSetOp_keepsRange (ops : List Word) : KeepsRange s (barrierSetOp ops s).2 := by
  unfold barrierSetOp
  split
  · exact .refl s
  · rename_i b c h
    have hroles : KeepsRange s (releaseRole (.signal b) (s.barrierCfg b).enable c.enable (s.barrierCfg b).head c.head
        (releaseRole (.barrier b) (s.barrierCfg b).enable c.enable (s.barrierCfg b).drive c.drive
          (s.modCfg fun t => { t with barriers := Tab.put t.barriers b c }))) :=
      .after (releaseRole_keepsRange ..) (.after (releaseRole_keepsRange ..) (modCfg_keepsRange rfl))
    have hstored : KeepsRange s (if (s.barrierCfg b).head = c.head then _ else _) :=
      .ite hroles (.after (.of_steady (modBarrier_steady _ b fun t => { t with aspectSent := none })) hroles)
    dsimp only
    split
    · exact .refl s
    · split
      · exact .refl s
      · refine .ite (.after (.of_steady ?_) hstored) (.ite (.after (.of_steady (summaryReport_steady _)) hstored)
          (.after (.of_steady ?_) hstored))
        · simp
        · simp

theorem gateSetOp_keepsRange (ops : List Word) : KeepsRange s (gateSetOp ops s).2 := by
  unfold gateSetOp
  split
  · exact .refl s
  · rename_i c h
    have hstored : KeepsRange s (releaseRole .gate s.cfg.gate.enable c.enable s.cfg.gate.drive c.drive
        (s.modCfg fun t => { t with gate := c })) := .after (releaseRole_keepsRange ..) (modCfg_keepsRange rfl)
    dsimp only
    split
    · exact .refl s
    · split
      · exact .refl s
      · refine .ite (.after (.of_steady ?_) hstored) (.ite hstored (.after (.of_steady ?_) hstored))
        · simp
        · simp

theorem zoneSetOp_keepsRange (ops : List Word) : KeepsRange s (zoneSetOp ops s).2 := by
  unfold zoneSetOp
  split
  · exact .refl s
  · rename_i z c h
    have hstored : KeepsRange s (releaseRole (.zone z) (s.zoneCfg z).enable c.enable (s.zoneCfg z).dim c.dim
        (s.modCfg fun t => { t with zones := Tab.put t.zones z c })) := .after (releaseRole_keepsRange ..) (modCfg_keepsRange rfl)
    dsimp only
    split
    · exact .refl s
    · refine .after (.of_steady ?_) hstored
      split <;> simp

theorem pumpResetOp_keepsRange (ops : List Word) : KeepsRange s (pumpResetOp ops s).2 := by
  unfold pumpResetOp
  split
  · exact .refl s
  · exact .iteSnd (.snd (.after (.of_steady (pumpSettle_steady ..)) (modPsc_keepsRange _))) (.refl s)

theorem barrierResetOp_keepsRange (ops : List Word) : KeepsRange s (barrierResetOp ops s).2 := by
  have hgate : KeepsRange s (gateReset s).2 := by
    unfold gateReset
    dsimp only
    repeat' split
    · exact .of_steady (by simp)
    · exact .of_steady (by simp)
    all_goals exact .refl s
  have hone : ∀ b, KeepsRange s (barrierResetOne b s).2 := by
    intro b
    unfold barrierResetOne
    dsimp only
    repeat' split
    · exact .of_steady (by simp)
    · exact .of_steady (by simp)
    · exact .refl s
    · exact .refl s
    · exact .of_steady (aspectJudge_steady ..)
    · exact .refl s
  unfold barrierResetOp
  repeat' split
  · exact .refl s
  · exact hgate
  · exact hone _
  · exact .refl s

/-! ## Reads, the control hold, STATUS_CLEAR and the store -/

theorem recordOp_keepsRange {n first : Nat} {data : State → Fin n → List Word} {clear : Fin n → State → State}
    (h : ∀ i, KeepsRange s (clear i s)) (ops : List Word) : KeepsRange s (recordOp n first data clear ops s).2.2 := by
  unfold recordOp
  split
  · exact .ite (h _) (.refl s)
  · exact .refl s

theorem queueRead_keepsRange (ops : List Word) : KeepsRange s (queueRead ops s).2.2 :=
  recordOp_keepsRange (fun _ => modPim_keepsRange _) ops

theorem snapshotNextOp_keepsRange : KeepsRange s (snapshotNextOp s).2.2 := by
  unfold snapshotNextOp
  repeat' split
  · exact .third (modMgu_keepsRange rfl)
  · exact .refl s
  · exact .refl s

theorem gateRead_keepsRange (tag : Tag) (ops : List Word) : KeepsRange s (manageRecordGate tag ops s) :=
  takeData_keepsRange (op := fun s => ((gateRead ops s).1, (gateRead ops s).2.1, s.nextFree)) (.third nextFree_keepsRange)

theorem queueRecord_keepsRange (tag : Tag) (ops : List Word) : KeepsRange s (manageRecordQueue tag ops s) :=
  takeData_keepsRange (op := fun s => ((queueRead ops s).1, (queueRead ops s).2.1, (queueRead ops s).2.2.nextFree))
    (.third (.after nextFree_keepsRange (queueRead_keepsRange ops)))

theorem manageRecordGet_keepsRange (tag : Tag) (ops : List Word) : KeepsRange s (manageRecordGet tag ops s) := by
  have hrange : KeepsRange s (takeOp tag 32 false (fun s => answer tag 32 stRange [] s) s) := takeOp_keepsRange (answer_keepsRange ..)
  have hread := fun (n first : Nat) (data : State → Fin n → List Word) (ops : List Word) =>
    takeData_keepsRange (tag := tag) (code := 32) (stored := false)
      (recordOp_keepsRange (s := s) (first := first) (data := data) (clear := fun _ s => s) (fun _ => .refl s) ops)
  unfold manageRecordGet
  split
  · exact hrange
  · split
    · exact hread ..
    · exact hread ..
    · exact takeData_keepsRange (recordOp_keepsRange (fun _ => .of_side rfl) _)
    · exact takeOp_keepsRange (.ite (deferOp_keepsRange _) (.after (answer_keepsRange ..) (sumpRead_keepsRange _)))
    · exact hread ..
    · exact hread ..
    · exact gateRead_keepsRange tag _
    · exact hread ..
    · exact queueRecord_keepsRange tag _
    · exact hrange

theorem advanceOp_keepsRange (tag : Tag) : KeepsRange s (advanceOp tag s) := by
  refine .ite (.after (modStc_keepsRange _) (.after quiesce_keepsRange ?_)) (answer_keepsRange ..)
  refine .after (.of_steady (ltuEvaluate_steady ..)) (.after (.of_steady (gsqEvaluate_steady _)) (.after
    (.of_steady (pscEvaluate_steady _)) (.after quiesce_keepsRange (.after (.of_plant (stageEvaluate_plant _)) ?_))))
  exact .after (.of_steady (rederiveAll_steady _)) (.after (.of_plant (setHold_plant ..)) (modStc_keepsRange _))

theorem setHold_keepsRange (h : HoldState) : KeepsRange s (setHold h s) := .of_plant (setHold_plant h s)

theorem stepEndOp_keepsRange : KeepsRange s (stepEndOp s) := by
  have hends : ∀ r, KeepsRange s (stepEnds r s) := by
    intro r
    have hstep : KeepsRange s (s.modStc fun c => { c with step := none }) := modStc_keepsRange _
    have hleft := KeepsRange.after (setHold_keepsRange .running) (.after (modStc_keepsRange fun c => { c with holdRequest := false })
      hstep)
    have hnext : KeepsRange s (if Stage.closing.code ≤ s.stc.stage.code then
        (if r.broken then _ else raiseNotice 6 [0, word s.stc.stage.code] _)
      else if s.stc.holdRequest then _ else _) :=
      .ite (.ite hleft (.after (raiseNotice_keepsRange _ _) hleft))
        (.ite (.after (setHold_keepsRange .held) hstep) (.after (setHold_keepsRange .running) hstep))
    exact .after quiesce_keepsRange (.after (answer_keepsRange ..) (.ite (.after (raiseNotice_keepsRange _ _) hnext) hnext))
  unfold stepEndOp
  split
  · exact .ite (hends _) (.refl s)
  · exact .refl s

theorem linkLost_keepsRange : KeepsRange s (linkLost s) := by
  unfold linkLost
  dsimp only
  split
  · exact modStc_keepsRange _
  · exact .after (.of_steady (rederiveAll_steady _)) (.after (raiseNotice_keepsRange _ _)
      (.after (setHold_keepsRange _) (modStc_keepsRange _)))
  · exact .after (modStc_keepsRange _) (modStc_keepsRange _)

theorem releaseOp_keepsRange (tag : Tag) : KeepsRange s (releaseOp tag s) :=
  .ite (.after quiesce_keepsRange (.after (answer_keepsRange ..) (.of_plant (stageTo_plant ..)))) (answer_keepsRange ..)

theorem statusClearOp_keepsRange (tag : Tag) : KeepsRange s (statusClearOp tag s) :=
  .ite (.after (deferOp_keepsRange _) (modPim_keepsRange _))
    (.after (answer_keepsRange ..) (.after clearSumps_keepsRange (modPim_keepsRange _)))

/-- A commit takes the settings in force, and the store is empty while it is rewritten (R183). -/
theorem commitBegins_keepsRange (tag : Tag) (l : Vector MapFields 16) (v : Vector MapFields 256) : KeepsRange s
    (s.modMgu fun m => { m with commit := some { tag := tag, image := { tables := s.cfg, pinned := l, sets := v } }, store := none }) :=
  .of_image And.left rfl (fun _ _ h => nomatch h) fun ⟨_, hcfg, _, _⟩ _ hc => Option.some.inj hc ▸ hcfg

theorem commitOp_keepsRange (tag : Tag) : KeepsRange s (commitOp tag s) :=
  .ite (answer_keepsRange ..) (commitBegins_keepsRange tag ..)

/-- A commit that completes is the store (R183). -/
theorem commitStored_keepsRange {c : Commit} (h : s.mgu.commit = some c) : KeepsRange s
    (s.modMgu fun m => { m with commit := none, store := some c.image, storeInvalid := false }) :=
  .of_image And.left rfl (fun ⟨_, _, _, hcommit⟩ _ hi => Option.some.inj hi ▸ hcommit c h) fun _ _ h => nomatch h

theorem commitCompletes_keepsRange : KeepsRange s (commitCompletes s) := by
  unfold commitCompletes
  split
  · exact .after (answer_keepsRange ..) (commitStored_keepsRange ‹_›)
  · exact .refl s

theorem restartOp_keepsRange (tag : Tag) : KeepsRange s (restartOp tag s) :=
  .after (offerUp_keepsRange _) (modMgu_keepsRange rfl)

/-! ## Resets -/

theorem resetSau_inRange (t : Tables) (now : Nat) (k : SumpId) : (Tab.get (resetSau t now).sumps k).InRange := by
  simp [resetSau, Tab.get_map, SumpState.InRange]

theorem defaults_sumpsInRange : ({} : Tables).SumpsInRange := fun _ => by
  simp

theorem firstReports_keepsRange : KeepsRange s (firstReports s) :=
  .after quiesce_keepsRange (.after (.of_steady (gsqReadiness_steady _)) (.after (.of_steady (summaryReport_steady _))
    (.of_steady (pscReadiness_steady _))))

theorem por_keepsRange : KeepsRange s (por s) := by
  refine .after firstReports_keepsRange ⟨fun ⟨_, _, hstore, _⟩ => ⟨fun k => resetSau_inRange _ 0 k, ?_, hstore, fun _ h => nomatch h⟩⟩
  dsimp only
  split
  · exact hstore _ ‹_›
  · exact defaults_sumpsInRange

theorem restartPerformed_keepsRange : KeepsRange s (restartPerformed s) :=
  .after firstReports_keepsRange (.of_records (fun _ k => resetSau_inRange s.cfg s.now k) rfl rfl)

/-! ## The field line -/

theorem refuseAuthority_keepsRange (w : Frame) (reason : Nat) (key : Option Key) : KeepsRange s (refuseAuthority w reason key s) :=
  .after (logFault_keepsRange _) (refuse_keepsRange ..)

theorem adopt_keepsRange (w : Frame) (p : PointId) (v : Word) : KeepsRange s (adopt w p v s) :=
  .ite (refuseAuthority_keepsRange ..) (.after (.of_steady (emit_steady ..)) (.after (offerUp_keepsRange _) (.of_side rfl)))

theorem sendField_keepsRange (o : Origin) (f : Frame) : KeepsRange s (sendField o f s) := modFlc_keepsRange _

theorem sendOwn_keepsRange (o : Origin) (f : Frame) : KeepsRange s (sendOwn o f s) :=
  .after (modFlc_keepsRange _) (sendField_keepsRange ..)

theorem judgeWrite_keepsRange (w : Frame) : KeepsRange s (judgeWrite w s) := by
  have hlook : KeepsRange s (lookups s.planInForce w.dst .command kindWrite w.channel.toNat w.payload.length s).2 :=
    .of_traces (lookups_traces ..)
  have hsend := KeepsRange.after (sendField_keepsRange (.supervisory w) w) hlook
  unfold judgeWrite
  dsimp only
  split
  · exact .after (refuse_keepsRange w 10) hlook
  · split
    · split
      · exact hsend
      · exact .after (refuseAuthority_keepsRange ..) hlook
      · exact .after quiesce_keepsRange (.after (adopt_keepsRange ..) hlook)
    · split
      · exact .ite (.after (logFault_keepsRange _) (.after (refuse_keepsRange w 9) hlook)) hsend
      · exact hsend

theorem takeSupervisory_keepsRange (w : Frame) : KeepsRange s (takeSupervisory w s) :=
  .ite (sendField_keepsRange ..) (.ite (.ite (sendField_keepsRange ..) (refuseAuthority_keepsRange ..)) (judgeWrite_keepsRange w))

theorem takeCommand_keepsRange (e : CommandEntry) : KeepsRange s (takeCommand e s) := by
  have hsearch : KeepsRange s (commandSearch e.point s).2 := .of_traces (commandSearch_traces e.point)
  unfold takeCommand
  split
  · rename_i a s1 h
    rw [h] at hsearch
    exact .after (sendOwn_keepsRange ..) hsearch
  · rename_i s1 h
    rw [h] at hsearch
    exact .after (commandOutcome_keepsRange ..) hsearch

theorem serveDownstream_keepsRange (w : Frame) (ws : List Frame) : KeepsRange s (grantLine.serveDownstream w ws s) :=
  .after (takeSupervisory_keepsRange w) (.after (modFlc_keepsRange _) (modUpp_keepsRange _))

theorem serveScan_keepsRange (e : ScanId) (es : List ScanId) : KeepsRange s (grantLine.serveScan e es s) :=
  .after (.ite (sendOwn_keepsRange ..) (.refl _)) (modFlc_keepsRange _)

theorem grantLine_keepsRange (h : grantLine s = some t) : KeepsRange s t := by
  unfold grantLine at h
  split at h
  · split at h
    · exact Option.some.inj h ▸ .after (takeCommand_keepsRange _) (modFlc_keepsRange _)
    · split at h
      · exact Option.some.inj h ▸ serveDownstream_keepsRange ..
      · exact Option.some.inj h ▸ serveScan_keepsRange ..
    · exact Option.some.inj h ▸ serveDownstream_keepsRange ..
    · exact Option.some.inj h ▸ serveScan_keepsRange ..
    · cases h
  · cases h

theorem grantLoop_keepsRange (n : Nat) : KeepsRange s (grantLoop n s) := by
  induction n generalizing s with
  | zero => exact .refl s
  | succ n ih =>
    unfold grantLoop
    split
    · exact .after ih (grantLine_keepsRange ‹_›)
    · exact .refl s

theorem enterQuenched_keepsRange : KeepsRange s (enterQuenched s) := by
  have hstop : KeepsRange s (stopLine s) :=
    .after (.foldl (fun _ w => refuse_keepsRange w 5) _ _) (.after (modUpp_keepsRange _) (modFlc_keepsRange _))
  have hcommands : KeepsRange (stopLine s) (purgeCommands (stopLine s)) :=
    .after (.foldl (fun _ (e : CommandEntry) => modPoint_keepsRange e.point _) _ _) (modFlc_keepsRange _)
  have hquench : ∀ u, KeepsRange u (lauQuench u) := fun _ => modLau_keepsRange _
  have hpurge : KeepsRange s (purgeWork s) := .after (hquench _) (.after hcommands hstop)
  rw [enterQuenched_eq]
  exact .after (.foldl (fun _ _ => answer_keepsRange ..) _ _) (.after (.of_steady (quenchJobs_steady _)) hpurge)

theorem quenchOp_keepsRange (tag : Tag) : KeepsRange s (quenchOp tag s) := by
  unfold quenchOp
  split
  · exact answer_keepsRange ..
  · exact modFlc_keepsRange _
  · exact .ite (.after enterQuenched_keepsRange (modFlc_keepsRange _)) (.after (modFlc_keepsRange _) (modFlc_keepsRange _))

theorem unquenchOp_keepsRange (tag : Tag) : KeepsRange s (unquenchOp tag s) :=
  .ite (.after quiesce_keepsRange (.after (.of_steady (ltuUnquench_steady _)) (.after (.of_steady (gsqUnquench_steady _))
    (.after (.of_steady (pscUnquench_steady _)) (.after (answer_keepsRange ..) (modFlc_keepsRange _)))))) (answer_keepsRange ..)

theorem endSupervisory_keepsRange (w : Frame) (o : FieldOutcome) : KeepsRange s (endSupervisory w o s) := by
  cases o with
  | reply f => exact .after (offerUp_keepsRange _) (.ite (observeValue_keepsRange f) (.ite (observeEcho_keepsRange f) (.refl s)))
  | corrupt => exact refuse_keepsRange w 3
  | noReply => exact refuse_keepsRange w 2
  | guardEnd => exact .refl s

theorem retryCommand_keepsRange (p : PointId) (v : Word) (n : Nat) : KeepsRange s (retryCommand p v n s) :=
  .ite (modFlc_keepsRange _) (commandOutcome_keepsRange p true)

theorem endCommand_keepsRange (p : PointId) (v : Word) (n : Nat) (o : FieldOutcome) : KeepsRange s (endCommand p v n o s) := by
  cases o with
  | reply f =>
    have hecho : KeepsRange s (if f.kind = kindEcho then applyEcho p (f.payload.head?.getD 0) s else s) :=
      .ite (applyEcho_keepsRange ..) (.refl s)
    exact .ite hecho (.after (commandOutcome_keepsRange ..) hecho)
  | corrupt | noReply | guardEnd => exact .ite (.refl s) (retryCommand_keepsRange ..)

theorem endOrigin_keepsRange (x : Transaction) (o : FieldOutcome) : KeepsRange s (endOrigin x o s) := by
  unfold endOrigin
  split
  · exact endSupervisory_keepsRange ..
  · exact endCommand_keepsRange ..
  · split
    · exact .ite (observeValue_keepsRange _) (.refl s)
    · exact .refl s

theorem endTransaction_keepsRange (x : Transaction) (o : FieldOutcome) : KeepsRange s (endTransaction x o s) := by
  have hend := KeepsRange.after (endOrigin_keepsRange x o) (modFlc_keepsRange (s := s) fun f => { f with transaction := none })
  rw [endTransaction_eq]
  exact .ite (.after enterQuenched_keepsRange hend) hend

theorem fieldArrival_keepsRange (ws : List Word) : KeepsRange s (fieldArrival ws s) := by
  unfold fieldArrival
  split
  · split
    · split
      · exact endTransaction_keepsRange ..
      · exact .ite (endTransaction_keepsRange ..) (.refl s)
    · exact .refl s
  · exact .refl s

theorem fieldExpiry_keepsRange (phase : Phase) (o : FieldOutcome) : KeepsRange s (fieldExpiry phase o s) := by
  unfold fieldExpiry
  split
  · exact .ite (onExpiry_keepsRange fun _ => endTransaction_keepsRange _ o) (.refl s)
  · exact .refl s

theorem fieldSendEnds_keepsRange : KeepsRange s (fieldSendEnds s) := by
  unfold fieldSendEnds
  split
  · exact .ite (modFlc_keepsRange _) (.refl s)
  · exact .refl s

/-! ## The upstream port -/

theorem manage_keepsRange (tag : Tag) (op : Word) (ops : List Word) : KeepsRange s (manage tag op ops s) := by
  unfold manage
  split
  · exact takeData_keepsRange (mapWriteOp_keepsRange ops)
  · exact takeData_keepsRange (mapReadOp_keepsRange ops)
  · exact takeData_keepsRange (demapKeyOp_keepsRange ops)
  · exact takeData_keepsRange (demapPlanOp_keepsRange ops)
  · exact takeData_keepsRange (op := demapAllOp) (.of_side rfl)
  · exact takeData_keepsRange (missGetOp_keepsRange ops)
  · exact configure_keepsRange (pointSetOp_keepsRange ops)
  · exact takeData_keepsRange (pointGetOp_keepsRange ops)
  · exact configure_keepsRange (scanSetOp_keepsRange ops)
  · exact takeOp_keepsRange (.ite (deferOp_keepsRange _) (takeSumpSet_keepsRange tag ops))
  · exact takeOp_keepsRange (.ite (deferOp_keepsRange _) (takeGeometrySet_keepsRange tag ops))
  · unfold managePumpSet
    split
    · exact .ite (configure_keepsRange (pumpingSetOp_keepsRange _)) (configure_keepsRange (pumpSetOp_keepsRange _))
    · exact configure_keepsRange (pumpSetOp_keepsRange _)
  · exact configure_keepsRange (barrierSetOp_keepsRange ops)
  · exact configure_keepsRange (gateSetOp_keepsRange ops)
  · exact configure_keepsRange (zoneSetOp_keepsRange ops)
  · exact configure_keepsRange (curveSetOp_keepsRange ops)
  · exact configure_keepsRange (stageSetOp_keepsRange ops)
  · exact configure_keepsRange (planSetOp_keepsRange ops)
  · exact configure_keepsRange (supplySetOp_keepsRange ops)
  · exact configure_keepsRange (lineSetOp_keepsRange ops)
  · exact manageRecordGet_keepsRange tag ops
  · exact takeData_keepsRange (faultGetOp_keepsRange ops)
  · exact takeData_keepsRange (op := snapshotTakeOp) (.third (.after (modMgu_keepsRange rfl) nextFree_keepsRange))
  · exact takeData_keepsRange snapshotNextOp_keepsRange
  · exact takeOp_keepsRange (.after (answer_keepsRange ..) (modStc_keepsRange _))
  · exact takeOp_keepsRange (.after (answer_keepsRange ..) (modStc_keepsRange _))
  · exact takeOp_keepsRange (advanceOp_keepsRange tag)
  · exact takeOp_keepsRange (releaseOp_keepsRange tag)
  · exact takeOp_keepsRange (quenchOp_keepsRange tag)
  · exact takeOp_keepsRange (unquenchOp_keepsRange tag)
  · exact takeOp_keepsRange (statusClearOp_keepsRange tag)
  · exact takeOp_keepsRange (.after (answer_keepsRange ..) (pumpResetOp_keepsRange ops))
  · exact takeOp_keepsRange (.after (answer_keepsRange ..) (barrierResetOp_keepsRange ops))
  · exact takeOp_keepsRange (commitOp_keepsRange tag)
  · exact takeOp_keepsRange (restartOp_keepsRange tag)
  · exact takeOp_keepsRange (answer_keepsRange ..)

theorem linkArrival_keepsRange : KeepsRange s (linkArrival s) := by
  unfold linkArrival
  dsimp only
  refine .ite (.ite (.after (raiseNotice_keepsRange 17 []) ?_) (.after (raiseNotice_keepsRange 1 []) (modUpp_keepsRange _)))
    (modUpp_keepsRange _)
  exact .after (modMgu_keepsRange rfl) (.after (raiseNotice_keepsRange 1 []) (modUpp_keepsRange _))

theorem sortFrame_keepsRange (f : Frame) : KeepsRange s (sortFrame f s) := by
  unfold sortFrame
  refine .ite ?_ (.ite (.ite (refuse_keepsRange f 5) (.ite (refuse_keepsRange f 1) (modUpp_keepsRange _))) (refuse_keepsRange f 4))
  split
  · exact manage_keepsRange ..
  · exact .refl s

theorem upstreamArrival_keepsRange (ws : List Word) : KeepsRange s (upstreamArrival ws s) := by
  unfold upstreamArrival
  split
  · exact logFault_keepsRange _
  · exact .after (sortFrame_keepsRange _) linkArrival_keepsRange

theorem transmitHead_keepsRange : KeepsRange s (transmitHead s) := by
  unfold transmitHead
  split
  · exact modUpp_keepsRange _
  · exact .refl s

theorem transmitEnds_keepsRange : KeepsRange s (transmitEnds s) := by
  unfold transmitEnds
  split
  · exact .ite (.after (modMgu_keepsRange rfl) (modUpp_keepsRange _)) (modUpp_keepsRange _)
  · exact .refl s

/-! ## The other expiries -/

theorem scanFallsDue_keepsRange (e : ScanId) : KeepsRange s (scanFallsDue e s) :=
  .ite (modPim_keepsRange _) (.after (modFlc_keepsRange _) (modPim_keepsRange _))

theorem startUnconfirmed_keepsRange (p : PumpId) : KeepsRange s (startUnconfirmed p s) :=
  .ite (.of_steady (pumpFault_steady ..)) (modPsc_keepsRange _)

theorem stopUnconfirmed_keepsRange (p : PumpId) : KeepsRange s (stopUnconfirmed p s) :=
  .ite (.of_steady (pumpFault_steady ..)) (modPsc_keepsRange _)

theorem offTimePasses_keepsRange (p : PumpId) : KeepsRange s (offTimePasses p s) :=
  .ite (.after (.of_steady (pumpSettle_steady ..)) (modPsc_keepsRange _)) (modPsc_keepsRange _)

theorem hourPasses_keepsRange (p : PumpId) : KeepsRange s (hourPasses p s) :=
  .ite (.after (.of_steady (pumpSettle_steady ..)) (modPsc_keepsRange _)) (modPsc_keepsRange _)

theorem warnPasses_keepsRange (b : BarrierId) : KeepsRange s (warnPasses b s) :=
  .ite (.after (.of_steady (toClearing_steady ..)) (modGsq_keepsRange _)) (modGsq_keepsRange _)

theorem clearancePasses_keepsRange (b : BarrierId) : KeepsRange s (clearancePasses b s) :=
  .ite (.after (.of_steady (closingPost_steady ..)) (modGsq_keepsRange _)) (modGsq_keepsRange _)

theorem travelPasses_keepsRange (b : BarrierId) : KeepsRange s (travelPasses b s) :=
  .ite (.of_steady (barrierFault_steady ..)) (modGsq_keepsRange _)

theorem dwellPasses_keepsRange : KeepsRange s (dwellPasses s) :=
  .ite (.after (.of_steady (gatePostGo_steady ..)) (modGsq_keepsRange _)) (modGsq_keepsRange _)

theorem gateTravelPasses_keepsRange : KeepsRange s (gateTravelPasses s) :=
  .ite (.of_steady (gateFault_steady ..)) (modGsq_keepsRange _)

theorem lightingTick_keepsRange : KeepsRange s (lightingTick s) :=
  .after (.of_steady (ltuEvaluate_steady ..)) (.of_side rfl)

/-! ## Each command -/

/-- A command ends with the blocks at rest. -/
theorem KeepsRange.next (h : KeepsRange s u) (ht : (Host.Outcome.next (quiesce u) : Host.Outcome State Fault Refusal) = .next t) :
    KeepsRange s t := by
  cases ht
  exact .after quiesce_keepsRange h

theorem operation_keepsRange {c : Instr} {f : Frame} (h : exec c s = .next t) (hf : commandFrame c = some f)
    (hc : ∀ tag w, c ≠ .unknownOp tag w) : KeepsRange s t := by
  obtain ⟨tag, op, ops, -, hexec⟩ := exec_operation hf hc
  exact (manage_keepsRange tag op ops).next ((hexec s).symm.trans h)

theorem exec_keepsRange (c : Instr) (h : exec c s = .next t) : KeepsRange s t := by
  cases c with
  | powerOn | resetInput => exact por_keepsRange.next h
  | upstreamFrameArrival words => exact (upstreamArrival_keepsRange words).next h
  | linkSilenceExpiry => exact (onExpiry_keepsRange fun _ => .after linkLost_keepsRange (modUpp_keepsRange _)).next h
  | upstreamTransmit => exact transmitHead_keepsRange.next h
  | upstreamTransmitEnd => exact transmitEnds_keepsRange.next h
  | fieldArbiterGrant => exact (grantLoop_keepsRange 256).next h
  | fieldSendEnd => exact fieldSendEnds_keepsRange.next h
  | fieldFrameArrival words => exact (fieldArrival_keepsRange words).next h
  | replyWindowExpiry => exact (fieldExpiry_keepsRange .awaiting .noReply).next h
  | guardExpiry => exact (fieldExpiry_keepsRange .guard .guardEnd).next h
  | pointFreshnessExpiry p => exact (onExpiry_keepsRange fun _ => freshnessExpiry_keepsRange p).next h
  | scanDueExpiry e => exact (onExpiry_keepsRange fun _ => scanFallsDue_keepsRange e).next h
  | mapStorageFault l flips => exact (putEntry_keepsRange l _).next h
  | stepEnd => exact stepEndOp_keepsRange.next h
  | storeCommitComplete => exact commitCompletes_keepsRange.next h
  | restartPerform => exact (KeepsRange.ite restartPerformed_keepsRange (.refl s)).next h
  | unknownOp tag w => exact (takeOp_keepsRange (answer_keepsRange ..)).next h
  | drainageCycleStart => exact (onExpiry_keepsRange fun _ => cycleStart_keepsRange).next h
  | drainageCycleCompletion => exact cycleCompletes_keepsRange.next h
  | descentTimerExpiry => exact (onExpiry_keepsRange fun _ => .of_plant (descend_plant _)).next h
  | reopenTimerExpiry | deriveTimerExpiry => exact (onExpiry_keepsRange fun _ => modStc_keepsRange _).next h
  | overrideExpiry p => exact (onExpiry_keepsRange fun _ => removeOverride_keepsRange p _ .expired).next h
  | inrushWindowExpiry => exact (onExpiry_keepsRange fun _ => modLau_keepsRange _).next h
  | pumpStartConfirmExpiry p => exact (onExpiry_keepsRange fun _ => startUnconfirmed_keepsRange p).next h
  | pumpStopConfirmExpiry p => exact (onExpiry_keepsRange fun _ => stopUnconfirmed_keepsRange p).next h
  | pumpMinimumOffExpiry p => exact (onExpiry_keepsRange fun _ => offTimePasses_keepsRange p).next h
  | pumpHourWindowExpiry p => exact (onExpiry_keepsRange fun _ => hourPasses_keepsRange p).next h
  | barrierWarnExpiry b => exact (onExpiry_keepsRange fun _ => warnPasses_keepsRange b).next h
  | barrierClearanceExpiry b => exact (onExpiry_keepsRange fun _ => clearancePasses_keepsRange b).next h
  | barrierTravelExpiry b => exact (onExpiry_keepsRange fun _ => travelPasses_keepsRange b).next h
  | gateOpenDwellExpiry => exact (onExpiry_keepsRange fun _ => dwellPasses_keepsRange).next h
  | gateTravelExpiry => exact (onExpiry_keepsRange fun _ => gateTravelPasses_keepsRange).next h
  | lightingEvaluation => exact (onExpiry_keepsRange fun _ => lightingTick_keepsRange).next h
  | _ => exact operation_keepsRange h rfl nofun

theorem step_keepsRange (h : step s = .next t) : KeepsRange s t := by
  unfold step at h
  split at h
  · cases h
    exact advance_keepsRange _
  · exact .after (exec_keepsRange _ h) (.of_side rfl)

/-- Settles O36: every command keeps the ranges (`step_keepsRange`), the computation of a sump by `computeSump_inRange`. -/
theorem sumpQuantitiesStayInRange : Obligations.SumpQuantitiesStayInRange := fun _ _ hs h => (step_keepsRange h).keeps hs

end Sys2Proof.Machine
end

section
/-! PROOFS. Which geometries are VALID (R65), and the volume of a filter state over one (R73). -/

set_option Elab.async false

namespace Sys2Proof.Machine

/-! ## VALID geometries -/

theorem eq_map_some_of_isSome {α : Type} {l : List (Option α)} (h : ∀ x ∈ l, x.isSome = true) :
    l = (l.filterMap id).map some := by
  induction l with
  | nil => rfl
  | cons x l ih =>
    obtain ⟨y, rfl⟩ := Option.isSome_iff_exists.mp (h x List.mem_cons_self)
    simpa using ih fun z hz => h z (List.mem_cons_of_mem _ hz)

/-- A table starts with its PRESENT breakpoints and has none after them (R65). -/
theorem presentPrefix_eq_some {v : Vector (Option Breakpoint) 8} {l : List Breakpoint} :
    presentPrefix v = some l ↔ v.toList = l.map some ++ List.replicate (8 - l.length) none := by
  have hprefix : v.toList.takeWhile Option.isSome ++ v.toList.drop (v.toList.takeWhile Option.isSome).length = v.toList :=
    List.prefix_iff_eq_append.mp (List.takeWhile_prefix _)
  have hsome : v.toList.takeWhile Option.isSome = ((v.toList.takeWhile Option.isSome).filterMap id).map some :=
    eq_map_some_of_isSome fun _ hx => List.mem_takeWhile_imp hx
  unfold presentPrefix
  dsimp only
  constructor
  · intro h
    split at h
    · rename_i hnone
      have hl : v.toList.takeWhile Option.isSome = l.map some := hsome.trans (congrArg _ (Option.some.inj h))
      rw [hl, List.length_map] at hprefix hnone
      have hrest : v.toList.drop l.length = List.replicate (8 - l.length) none :=
        List.eq_replicate_iff.mpr ⟨by simp, fun x hx => Option.isNone_iff_eq_none.mp (List.all_eq_true.mp hnone x hx)⟩
      rw [← hprefix, hrest]
    · cases h
  · intro h
    have hhead : v.toList.takeWhile Option.isSome = l.map some := by
      rw [h, List.takeWhile_append_of_pos (by simp), List.takeWhile_replicate]
      simp
    rw [hhead, h]
    simp

theorem chained_eq_true_iff {α : Type} {f : α → α → Bool} : ∀ {l : List α}, chained f l = true ↔ l.IsChain (fun a b => f a b = true)
  | [] => by simp [chained]
  | [a] => by simp [chained]
  | a :: b :: l => by
    rw [chained, Bool.and_eq_true, chained_eq_true_iff, List.isChain_cons_cons]

/-- Levels that ascend and volumes that do not descend between neighbours do so throughout. -/
theorem chained_breakpoints_iff {l : List Breakpoint} : chained (fun a b => decide (a.x < b.x ∧ a.y ≤ b.y)) l = true ↔
    l.Pairwise (fun a b => a.x < b.x) ∧ l.Pairwise (fun a b => a.y ≤ b.y) := by
  have : IsTrans Breakpoint (fun a b => a.x < b.x ∧ a.y ≤ b.y) := ⟨fun _ _ _ h g => ⟨h.1.trans g.1, h.2.trans g.2⟩⟩
  simp only [chained_eq_true_iff, decide_eq_true_eq]
  rw [List.isChain_iff_pairwise, List.pairwise_and_iff]

theorem validGeometry_eq_some {v : Vector (Option Breakpoint) 8} {l : List Breakpoint} : validGeometry v = some l ↔
    presentPrefix v = some l ∧ 2 ≤ l.length ∧ chained (fun a b => decide (a.x < b.x ∧ a.y ≤ b.y)) l = true ∧
      ∀ b ∈ l, b.y ≤ 100000000 := by
  refine ⟨validGeometry_some, fun ⟨hl, hlen, hchain, hall⟩ => ?_⟩
  unfold validGeometry
  rw [hl]
  exact if_pos ⟨hlen, hchain, by simpa using hall⟩

/-! ## The volume -/

theorem volumeAt_below {a : Breakpoint} {f : Int} {rest : List Breakpoint} (h : f < 16 * a.x) : volumeAt f (a :: rest) = a.y := by
  cases rest with
  | nil => rfl
  | cons b rest => exact if_pos h

/-- A filter state at or above a level is not judged by the breakpoints before it. -/
theorem volumeAt_append {a : Breakpoint} {f : Int} {after : List Breakpoint} (hf : 16 * (a.x : Int) ≤ f) : ∀ {before : List Breakpoint},
    (before ++ a :: after).Pairwise (fun a b => a.x < b.x) → volumeAt f (before ++ a :: after) = volumeAt f (a :: after)
  | [], _ => rfl
  | p :: before, hlevels => by
    obtain ⟨hp, hrest⟩ := List.pairwise_cons.mp hlevels
    have hpa : p.x < a.x := hp a (by simp)
    rw [← volumeAt_append hf hrest, List.cons_append]
    cases before with
    | nil =>
      rw [List.nil_append, volumeAt, if_neg (by omega), if_neg (by omega)]
    | cons q before =>
      have hqa : q.x ≤ a.x := (List.rel_of_pairwise_cons hrest (by simp : a ∈ before ++ a :: after)).le
      rw [List.cons_append, volumeAt, if_neg (by omega), if_neg (by omega)]

/-- The interpolation between two breakpoints (R73) is not negative. -/
theorem volumeAt_between {a b : Breakpoint} {f : Int} {rest : List Breakpoint} (hy : a.y ≤ b.y) (hlo : 16 * (a.x : Int) ≤ f)
    (hhi : f < 16 * b.x) : (volumeAt f (a :: b :: rest) : Int) =
      a.y + (((b.y : Int) - a.y) * (f - 16 * a.x)) / (16 * ((b.x : Int) - a.x)) := by
  have hbounds := interpolated_bounds hy hlo hhi
  rw [volumeAt, if_neg (by omega), if_pos hhi]
  omega

/-- Settles O35: VALID by `presentPrefix_eq_some` and `chained_breakpoints_iff`, the volume by induction over the breakpoints below
the filter state (`volumeAt_append`). -/
theorem geometryAndVolume : Obligations.GeometryAndVolume := by
  refine ⟨fun v l => ?_, fun v l before after a b f hvalid => ?_⟩
  · rw [validGeometry_eq_some, presentPrefix_eq_some, chained_breakpoints_iff]
    tauto
  · obtain ⟨-, -, hchain, -⟩ := validGeometry_some hvalid
    obtain ⟨hlevels, hvolumes⟩ := chained_breakpoints_iff.mp hchain
    refine ⟨?_, ?_, ?_⟩
    · rintro rest rfl hf
      exact volumeAt_below hf
    · rintro rfl hf
      exact (volumeAt_append hf hlevels).trans rfl
    · rintro rfl hlo hhi
      rw [volumeAt_append hlo hlevels]
      have hab := (List.pairwise_append.mp hvolumes).2.1
      exact volumeAt_between (List.rel_of_pairwise_cons hab (by simp)) hlo hhi

end Sys2Proof.Machine
end

section
/-! PROOFS. The computation of one sump (R68 to R80). -/

set_option Elab.async false

namespace Sys2Proof.Machine

variable {t : SumpState} {c : SumpCfg} {g : Vector (Option Breakpoint) 8} {dt out : Nat} {closed : Bool} {primary backup : Option Drain}

/-! ## The source -/

/-- A change of source empties the ring, the filter and the volume base (R68). -/
theorem SumpState.switch_eq (t : SumpState) (src : Source) : t.switch src =
    { t with source := src, ring := if src = t.source then t.ring else [], primed := t.primed && decide (src = t.source)
             base := if src = t.source then t.base else none } := by
  unfold SumpState.switch
  split
  · rename_i h
    simp [h]
  · rename_i h
    simp [h]

/-- What a change of source leaves (R68). -/
theorem SumpState.switch_rest (t : SumpState) (src : Source) :
    { t.switch src with source := .held, ring := [], primed := false, base := none } =
      { t with source := .held, ring := [], primed := false, base := none } := by
  rw [SumpState.switch_eq]

/-- A point is FIT for the cycle (R67). -/
def fitDrain (o : Option Drain) : Prop := ∃ x, o = some x ∧ x.fit = true

theorem fitDrain_iff {o : Option Drain} : fitDrain o ↔ (o.map Drain.fit).getD false = true := by
  cases o with
  | none => simp [fitDrain]
  | some x => simp [fitDrain]

theorem sourceOf_held (hp : ¬ fitDrain primary) (hb : ¬ fitDrain backup) : sourceOf primary backup = .held := by
  rw [fitDrain_iff] at hp hb
  rw [sourceOf, if_neg hp, if_neg hb]

theorem sourceOf_primary (hp : fitDrain primary) : sourceOf primary backup = .primary := if_pos (fitDrain_iff.mp hp)

theorem sourceOf_backup (hp : ¬ fitDrain primary) (hb : fitDrain backup) : sourceOf primary backup = .backup := by
  rw [fitDrain_iff] at hp hb
  rw [sourceOf, if_neg hp, if_pos hb]

theorem computeSump_held (hp : ¬ fitDrain primary) (hb : ¬ fitDrain backup) :
    computeSump c g dt out closed primary backup t = (t.switch .held).hold := by
  unfold computeSump
  simp only [sourceOf_held hp hb]

/-- The source of a cycle with the drain that its samples come from (R68). -/
def IsSource (primary backup : Option Drain) (src : Source) (x : Drain) : Prop :=
  (src = .primary ∧ primary = some x ∧ x.fit = true) ∨ (src = .backup ∧ ¬ fitDrain primary ∧ backup = some x ∧ x.fit = true)

theorem computeSump_source {src : Source} {x : Drain} (h : IsSource primary backup src x) :
    computeSump c g dt out closed primary backup t =
      SumpState.takeVolume c g dt out closed ((t.switch src).takeLevel c dt x.usable) := by
  unfold computeSump
  obtain ⟨rfl, rfl, hx⟩ | ⟨rfl, hp, rfl, hx⟩ := h
  · simp only [sourceOf_primary ⟨x, rfl, hx⟩]
    rfl
  · simp only [sourceOf_backup hp ⟨x, rfl, hx⟩]
    rfl

/-! ## Volume and inflow -/

/-- The fields of a sump that the volume and the inflow leave as they are. -/
structure SameLevel (x y : SumpState) : Prop where
  source : y.source = x.source
  levelQuality : y.levelQuality = x.levelQuality
  cycleLevel : y.cycleLevel = x.cycleLevel
  filter : y.filter = x.filter
  primed : y.primed = x.primed
  rate : y.rate = x.rate
  blindCount : y.blindCount = x.blindCount
  overrun : y.overrun = x.overrun
  invalidSeen : y.invalidSeen = x.invalidSeen

theorem SumpState.takeVolume_invalid (h : validGeometry g = none) : t.takeVolume c g dt out closed =
    { t with geometryValid := false, base := none, inflowGood := false } := by
  rw [SumpState.takeVolume, h]

theorem SumpState.takeVolume_unbased {l : List Breakpoint} (h : validGeometry g = some l) (hb : t.base = none) :
    t.takeVolume c g dt out closed =
      { t with geometryValid := true, volume := volumeAt t.filter l, base := some (volumeAt t.filter l), ring := []
               inflowGood := false } := by
  simp only [SumpState.takeVolume, h, hb]

theorem SumpState.takeVolume_based {l : List Breakpoint} {b : Nat} (h : validGeometry g = some l) (hb : t.base = some b) :
    t.takeVolume c g dt out closed =
      SumpState.takeInflow c dt out closed (volumeAt t.filter l) b { t with geometryValid := true } := by
  simp only [SumpState.takeVolume, h, hb]

theorem SumpState.takeVolume_sameLevel (t : SumpState) (c : SumpCfg) (g : Vector (Option Breakpoint) 8) (dt out : Nat) (closed : Bool) :
    SameLevel t (t.takeVolume c g dt out closed) := by
  cases hg : validGeometry g with
  | none =>
    rw [SumpState.takeVolume_invalid hg]
    constructor <;> rfl
  | some l =>
    cases hb : t.base with
    | none =>
      rw [SumpState.takeVolume_unbased hg hb]
      constructor <;> rfl
    | some b =>
      rw [SumpState.takeVolume_based hg hb]
      constructor <;> rfl

theorem SumpState.takeVolume_geometryValid : (t.takeVolume c g dt out closed).geometryValid = (validGeometry g).isSome := by
  cases hg : validGeometry g with
  | none => rw [SumpState.takeVolume_invalid hg, Option.isSome_none]
  | some l =>
    cases hb : t.base with
    | none => rw [SumpState.takeVolume_unbased hg hb, Option.isSome_some]
    | some b =>
      rw [SumpState.takeVolume_based hg hb, Option.isSome_some]
      rfl

theorem SumpState.takeVolume_volume {l : List Breakpoint} (h : validGeometry g = some l) :
    (t.takeVolume c g dt out closed).volume = volumeAt t.filter l ∧
      (t.takeVolume c g dt out closed).base = some (volumeAt t.filter l) := by
  cases hb : t.base with
  | none =>
    rw [SumpState.takeVolume_unbased h hb]
    exact ⟨rfl, rfl⟩
  | some b =>
    rw [SumpState.takeVolume_based h hb]
    exact ⟨rfl, rfl⟩

/-- The ring, the inflow register and the marks of a cycle with a contribution at the volume v over the base b, from the ring, LIMITED
and GROWTH as they stood (R75 to R78, R80). -/
structure InflowTaken (c : SumpCfg) (dt out v b : Nat) (old : List Int) (limitedWas growthWas : Bool) (y : SumpState) (w : Int) :
    Prop where
  volume : y.volume = v
  ring : y.ring = old.drop (old.length + 1 - c.ringSize) ++ [(((v : Int) - b) * 1000).tdiv dt]
  wanted : w = scaleInflow c.scale (meanOf y.ring.sum y.ring.length + out)
  inflow : y.inflow = clamp16 w
  controlInflow : y.controlInflow = controlOf c.scale y.inflow
  inflowLimited : y.inflowLimited = !(clamp16 w == w)
  limited : y.limited = (limitedWas || !(clamp16 w == w))
  growth : y.growth = (growthWas || decide (8192 ≤ y.inflow.natAbs))

theorem SumpState.takeInflow_taken (t : SumpState) (v b : Nat) : ∃ w,
    InflowTaken c dt out v b t.ring t.limited t.growth (t.takeInflow c dt out closed v b) w :=
  ⟨_, rfl, rfl, rfl, rfl, rfl, rfl, rfl, rfl⟩

/-- The inflow is GOOD only over a volume base (R78). -/
theorem SumpState.takeVolume_inflowGood : (t.takeVolume c g dt out closed).inflowGood = true ↔
    (validGeometry g).isSome = true ∧ t.base.isSome = true ∧ t.levelQuality = .good ∧ (c.gateLink = true → closed = true) := by
  cases hg : validGeometry g with
  | none =>
    rw [SumpState.takeVolume_invalid hg]
    simp
  | some l =>
    cases hb : t.base with
    | none =>
      rw [SumpState.takeVolume_unbased hg hb]
      simp
    | some b =>
      rw [SumpState.takeVolume_based hg hb]
      cases hlink : c.gateLink <;> simp [SumpState.takeInflow, hlink]

/-! ## The level -/

theorem mean_nonneg {l : List Int} (h : ∀ x ∈ l, 0 ≤ x) : 0 ≤ meanOf l.sum l.length := by
  have := List.sum_nonneg h
  exact Int.ediv_nonneg (by omega) (by omega)

/-- The cycle level is the rounded mean of the clamped samples (R70, R71). -/
theorem SumpState.takeLevel_cycleLevel (t : SumpState) (c : SumpCfg) (dt : Nat) (usable : List LevelEntry) :
    ((t.takeLevel c dt usable).cycleLevel : Int) =
      (2 * (((usable.map (convert c)).map fun y => max 0 (min 20000 y)).sum) + usable.length) / (2 * (usable.length : Int)) := by
  refine (Int.toNat_of_nonneg (mean_nonneg fun x hx => ?_)).trans ?_
  · obtain ⟨y, -, rfl⟩ := List.mem_map.mp hx
    exact le_max_left _ _
  · rw [List.length_map, List.length_map]
    rfl

theorem SumpState.takeLevel_filter (t : SumpState) (c : SumpCfg) (dt : Nat) (usable : List LevelEntry) :
    (t.takeLevel c dt usable).filter = if t.primed = true then
      t.filter + ((16 * (t.takeLevel c dt usable).cycleLevel - t.filter) * c.filterK + 8) / 16
    else 16 * ((t.takeLevel c dt usable).cycleLevel : Int) := rfl

theorem SumpState.takeLevel_rate (t : SumpState) (c : SumpCfg) (dt : Nat) (usable : List LevelEntry) :
    (t.takeLevel c dt usable).rate = if t.primed = true then
      clamp16 ((((t.takeLevel c dt usable).filter - t.filter) * 60000).tdiv (16 * dt)) else t.rate := rfl

theorem SumpState.takeLevel_levelQuality (t : SumpState) (c : SumpCfg) (dt : Nat) (usable : List LevelEntry) :
    (t.takeLevel c dt usable).levelQuality = if ∃ y ∈ usable.map (convert c), 20000 < y then .suspect else .good := by
  simp [SumpState.takeLevel]

/-- LIMITED is set when a sample is clamped, and when the rate is (R71, R79). -/
theorem SumpState.takeLevel_limited (t : SumpState) (c : SumpCfg) (dt : Nat) (usable : List LevelEntry) :
    (t.takeLevel c dt usable).limited = true ↔ t.limited = true ∨ (∃ y ∈ usable.map (convert c), y < 0 ∨ 20000 < y) ∨
      t.primed = true ∧ clamp16 ((((t.takeLevel c dt usable).filter - t.filter) * 60000).tdiv (16 * dt)) ≠
        (((t.takeLevel c dt usable).filter - t.filter) * 60000).tdiv (16 * dt) := by
  simp [SumpState.takeLevel, or_assoc]

/-- A primed filter without a change of source (R68, R72). -/
theorem SumpState.switch_primed (t : SumpState) (src : Source) :
    (t.switch src).primed = true ↔ t.primed = true ∧ src = t.source := by
  rw [SumpState.switch_eq]
  simp

/-! ## The completion of one sump -/

/-- The computed state of a sump at the completion of a cycle (R66). -/
def State.computed (s : State) (x : Cycle) (k : SumpId) : SumpState :=
  computeSump (s.sumpCfg k) (Tab.get s.cfg.geometry k) x.interval (Tab.get x.outflow k) (s.gsq.gate.mode == .closed)
    (x.drainOf (s.sumpCfg k).primary) (x.drainOf (s.sumpCfg k).backup) (s.sump k)

/-- SUMP_BLIND is raised when the blind count rises from 2 to 3 (R69). -/
theorem completeSump_eq (x : Cycle) (k : SumpId) (s : State) : completeSump x k s =
    if (s.sump k).blindCount = 2 ∧ (s.computed x k).blindCount = 3 then
      raiseNotice 4 [word (k.val + 1), 3, word (filteredOf (s.computed x k).filter)] (s.modSump k fun _ => s.computed x k)
    else s.modSump k fun _ => s.computed x k := by
  have hcomplete : completeSump x k s = if (s.computed x k).blindCount = 3 ∧ (s.sump k).blindCount = 2 then
      raiseNotice 4 [word (k.val + 1), word (s.computed x k).blindCount, word (filteredOf (s.computed x k).filter)]
        (s.modSump k fun _ => s.computed x k)
    else s.modSump k fun _ => s.computed x k := rfl
  rw [hcomplete]
  by_cases h : (s.computed x k).blindCount = 3 ∧ (s.sump k).blindCount = 2
  · rw [if_pos h, if_pos h.symm, h.1]
    rfl
  · rw [if_neg h, if_neg fun g => h g.symm]

/-! ## The obligation -/

/-- The computation leaves OVERRUN and INVALID_SEEN to the drains (R67). -/
theorem computeSump_drainFlags : (computeSump c g dt out closed primary backup t).overrun = t.overrun ∧
    (computeSump c g dt out closed primary backup t).invalidSeen = t.invalidSeen := by
  have hvolume := fun u : SumpState => SumpState.takeVolume_sameLevel u c g dt out closed
  unfold computeSump
  simp only [SumpState.switch_eq]
  split
  · exact ⟨rfl, rfl⟩
  · exact ⟨(hvolume _).overrun, (hvolume _).invalidSeen⟩
  · exact ⟨(hvolume _).overrun, (hvolume _).invalidSeen⟩

/-- Settles O34: the fields of the level from the `SumpState.takeLevel` lemmas over `SumpState.switch_eq`, those of the volume and the
inflow by the three cases of `SumpState.takeVolume`. -/
theorem sumpComputation : Obligations.SumpComputation := by
  refine ⟨fun c k s => completeSump_eq c k s, fun c g dt out closed primary backup old => ?_⟩
  intro t fit clamp
  refine ⟨computeSump_drainFlags.1, computeSump_drainFlags.2, fun hp hb => ?_, fun src x hsource => ?_⟩
  · rw [show t = _ from computeSump_held hp hb, SumpState.switch_eq]
    refine ⟨rfl, rfl, rfl, rfl, rfl, rfl, rfl, rfl, rfl, rfl, rfl, rfl, rfl, rfl, ?_, ?_, ?_⟩
    · simp only [SumpState.hold, eq_comm]
    · simp only [SumpState.hold, eq_comm]
    · simp only [SumpState.hold, Bool.beq_eq_decide_eq, eq_comm]
  · intro levels n level primed base ring rate limited stands
    have ht : t = SumpState.takeVolume c g dt out closed ((old.switch src).takeLevel c dt x.usable) := computeSump_source hsource
    have hlevel := SumpState.takeVolume_sameLevel ((old.switch src).takeLevel c dt x.usable) c g dt out closed
    rw [← ht] at hlevel
    have hbase : ((old.switch src).takeLevel c dt x.usable).base = base := by
      rw [SumpState.switch_eq]
      rfl
    have hold := SumpState.switch_rest old src
    have hfilter : (old.switch src).filter = old.filter := (congrArg SumpState.filter hold :)
    have hrate : (old.switch src).rate = old.rate := (congrArg SumpState.rate hold :)
    have hvolume : (old.switch src).volume = old.volume := (congrArg SumpState.volume hold :)
    have hflag : (old.switch src).limited = old.limited := (congrArg SumpState.limited hold :)
    have hgrowth : (old.switch src).growth = old.growth := (congrArg SumpState.growth hold :)
    have hring : ((old.switch src).takeLevel c dt x.usable).ring = ring := by
      rw [SumpState.switch_eq]
      rfl
    have hlimited : ((old.switch src).takeLevel c dt x.usable).limited = true ↔ limited := by
      rw [SumpState.takeLevel_limited, SumpState.switch_primed, ← hlevel.filter, hfilter, hflag]
      rfl
    have hstands : ∀ u : SumpState, t = u → u.inflow = (old.switch src).inflow → u.controlInflow = (old.switch src).controlInflow →
        u.inflowLimited = (old.switch src).inflowLimited → u.limited = ((old.switch src).takeLevel c dt x.usable).limited →
        u.growth = (old.switch src).growth → stands := by
      rintro u rfl hinflow hcontrol hmark hlim hgrow
      refine ⟨hinflow.trans (congrArg SumpState.inflow hold :), hcontrol.trans (congrArg SumpState.controlInflow hold :),
        hmark.trans (congrArg SumpState.inflowLimited hold :), ?_, hgrow.trans hgrowth⟩
      rw [hlim, hlimited]
    have hmean := SumpState.takeLevel_cycleLevel (old.switch src) c dt x.usable
    refine ⟨?_, hlevel.blindCount.trans rfl, hlevel.primed.trans rfl, ?_, ?_, ?_, ?_, ?_, ?_, ?_, ?_, ?_, ?_⟩
    · rw [hlevel.source, SumpState.switch_eq]
      rfl
    · rw [hlevel.cycleLevel]
      exact hmean
    · rw [hlevel.filter, SumpState.takeLevel_filter, hmean, hfilter]
      simp only [SumpState.switch_primed]
      rfl
    · rw [hlevel.levelQuality, SumpState.takeLevel_levelQuality]
      rfl
    · rw [hlevel.rate, SumpState.takeLevel_rate, ← hlevel.filter, hfilter, hrate]
      simp only [SumpState.switch_primed]
      rfl
    · rw [ht, SumpState.takeVolume_geometryValid]
    · intro l hg
      rw [hlevel.filter, ht, (SumpState.takeVolume_volume hg).1, (SumpState.takeVolume_volume hg).2]
      exact ⟨rfl, rfl⟩
    · intro hg
      rw [SumpState.takeVolume_invalid hg] at ht
      exact ⟨(congrArg SumpState.volume ht).trans hvolume, congrArg SumpState.base ht, (congrArg SumpState.ring ht).trans hring,
        hstands _ ht rfl rfl rfl rfl rfl⟩
    · intro hg hnone
      obtain ⟨l, hl⟩ := Option.isSome_iff_exists.mp hg
      rw [SumpState.takeVolume_unbased hl (hbase.trans hnone)] at ht
      exact ⟨congrArg SumpState.ring ht, hstands _ ht rfl rfl rfl rfl rfl⟩
    · intro b hg hb contribution m inflow wanted
      obtain ⟨l, hl⟩ := Option.isSome_iff_exists.mp hg
      rw [SumpState.takeVolume_based hl (hbase.trans hb)] at ht
      obtain ⟨w, htaken⟩ : ∃ w, InflowTaken c dt out (volumeAt ((old.switch src).takeLevel c dt x.usable).filter l) b
          ((old.switch src).takeLevel c dt x.usable).ring ((old.switch src).takeLevel c dt x.usable).limited
          (old.switch src).growth t w := by
        rw [ht]
        exact SumpState.takeInflow_taken { (old.switch src).takeLevel c dt x.usable with geometryValid := true } _ b
      have hwanted : w = wanted := by
        rw [htaken.wanted]
        cases hscale : c.scale <;> simp [wanted, hscale, scaleInflow, inflow, m, meanOf]
      rw [hwanted, hring, hgrowth] at htaken
      refine ⟨?_, htaken.inflow, ?_, ?_, ?_, ?_⟩
      · rw [htaken.ring, ← htaken.volume]
      · rw [htaken.inflowLimited]
        simp [clamp, clamp16]
      · rw [htaken.controlInflow]
        cases hscale : c.scale <;> simp [controlOf]
      · rw [htaken.limited, Bool.or_eq_true, hlimited]
        simp [clamp, clamp16]
      · rw [htaken.growth, Bool.or_eq_true, decide_eq_true_eq]
    · rw [show t.inflowGood = _ from congrArg SumpState.inflowGood ht, SumpState.takeVolume_inflowGood, hbase, hlevel.levelQuality]
      by_cases hsame : src = old.source
      · simp [base, hsame]
      · simp [base, hsame]

end Sys2Proof.Machine
end

section
/-! PROOFS. The operand words of SUMP_SET (Table 4-1) and GEOMETRY_SET (R65), and what the two operations do (R64 to R66, R132). -/

set_option Elab.async false

namespace Sys2Proof.Machine

variable {s : State} {ops more : List Word} {k : SumpId}

/-! ## Operand words -/

section
variable {kw primary backup gain offset filterK ring scale link : Word}

/-- The two level points of a sump are distinct (R64). -/
theorem namedPoint_beq (a b : Word) : (namedPoint a == namedPoint b) = true ↔
    a.toNat = b.toNat ∨ 256 ≤ a.toNat ∧ 256 ≤ b.toNat := by
  rw [beq_iff_eq]
  unfold namedPoint
  split <;> split <;> simp <;> omega

theorem parseSump_eq (hk : kw.toNat = k.val + 1) :
    parseSump (kw :: primary :: backup :: gain :: offset :: filterK :: ring :: scale :: link :: more) =
      if primary.toNat ≤ 256 ∧ backup.toNat ≤ 256 ∧ 1 ≤ filterK.toNat ∧ filterK.toNat ≤ 16 ∧ 1 ≤ ring.toNat ∧ ring.toNat ≤ 16 ∧
          scale.toNat ≤ 2 ∧ link.toNat ≤ 1 ∧ (primary = 256 → backup = 256) ∧ (primary = backup → primary = 256) then
        some (k, { primary := namedPoint primary, backup := namedPoint backup, gain := gain.toNat, offset := offset.toInt
                   filterK := filterK.toNat, ringSize := ring.toNat
                   scale := if scale = 0 then .plain else if scale = 1 then .down else .up, gateLink := link == 1 })
      else none := by
  have hoffset : opInt (kw :: primary :: backup :: gain :: offset :: filterK :: ring :: scale :: link :: more) 4 = some offset.toInt :=
    rfl
  rw [parseSump, opIndex_eq (first := 1) (k := k) rfl hk, hoffset]
  simp only [opFlag_eq_ite, opIn_eq_ite, opPoint_eq_ite, ite_bind, opCheck_bind, ← ite_and, Option.bind_eq_bind, Option.bind_some,
    List.getD_cons_succ, List.getD_cons_zero, List.length_cons]
  have hnone : (256 : Word).toNat = 256 := rfl
  have hzero : (0 : Word).toNat = 0 := rfl
  have hone : (1 : Word).toNat = 1 := rfl
  refine if_congr ?_ ?_ rfl
  · have hgain := gain.isLt
    simp only [Bool.or_eq_true, Bool.not_eq_true', Option.isNone_iff_eq_none, ← Option.not_isSome_iff_eq_none, ← Bool.not_eq_true,
      namedPoint_isSome, namedPoint_beq, BitVec.toNat_eq, hnone]
    omega
  · rw [toNat_beq_one]
    simp only [BitVec.toNat_eq, hzero, hone]

theorem opInt_bind_eq_none {α : Type} {i : Nat} {f : Int → Option α} :
    (opInt ops i >>= f) = none ↔ (i < ops.length → f (ops.getD i 0).toInt = none) := by
  rw [opInt, getElem?_eq_ite, apply_ite (Option.map _)]
  exact ite_bind_eq_none

theorem parseSump_outside (h : ops.length < 9 ∨ ¬ (1 ≤ (ops.getD 0 0).toNat ∧ (ops.getD 0 0).toNat ≤ 4)) : parseSump ops = none := by
  simp only [parseSump, opIn_bind_eq_none, opIndex_bind_eq_none, opFlag_bind_eq_none, opPoint_bind_eq_none, opInt_bind_eq_none]
  intros
  omega

end

section
variable {kw iw present level high low : Word} {i : Fin 8}

theorem parseGeometry_absent (hk : kw.toNat = k.val + 1) (hi : iw.toNat = i.val) :
    parseGeometry (kw :: iw :: 0 :: more) = some (k, i, none) := by
  rw [parseGeometry, opIndex_eq (first := 1) (k := k) rfl hk, opIndex_eq (first := 0) (k := i) (i := 1) rfl hi,
    opFlag_eq (i := 2) (w := 0) rfl (by decide)]
  rfl

theorem parseGeometry_present (hk : kw.toNat = k.val + 1) (hi : iw.toNat = i.val) :
    parseGeometry (kw :: iw :: 1 :: level :: high :: low :: more) =
      if level.toNat ≤ 20000 then some (k, i, some { x := level.toNat, y := 65536 * high.toNat + low.toNat }) else none := by
  rw [parseGeometry, opIndex_eq (first := 1) (k := k) rfl hk, opIndex_eq (first := 0) (k := i) (i := 1) rfl hi,
    opFlag_eq (i := 2) (w := 1) rfl (by decide)]
  simp only [opIn_eq_ite]
  simp [ite_bind]

/-- A PRESENT breakpoint takes three words more. -/
theorem parseGeometry_short (h : more.length < 3) : parseGeometry (kw :: iw :: 1 :: more) = none := by
  simp only [parseGeometry, opIndex_bind_eq_none, opFlag_bind_eq_none]
  intro hkw hiw hflag
  split
  · simp only [opIn_bind_eq_none, getElem?_bind_eq_none, List.length_cons]
    omega
  · rename_i habsent
    exact absurd rfl habsent

theorem parseGeometry_outside (h : ops.length < 3 ∨ ¬ (1 ≤ (ops.getD 0 0).toNat ∧ (ops.getD 0 0).toNat ≤ 4) ∨
    7 < (ops.getD 1 0).toNat ∨ 1 < (ops.getD 2 0).toNat) : parseGeometry ops = none := by
  simp only [parseGeometry, opIndex_bind_eq_none, opFlag_bind_eq_none]
  intro hkw hiw hflag
  omega

end

/-! ## What the operations do -/

/-- A SUMP_SET or GEOMETRY_SET that waits for the completion of the cycle in flight (R66). -/
theorem exec_deferred {c : Instr} {tag : Tag} {code : Nat} {d : Deferred} {take : State → State} (hs : s.Taking)
    (hcycle : s.sau.cycle.isSome = true)
    (hc : exec c s = .next (quiesce (takeOp tag code false (fun s => if s.sau.cycle.isSome then deferOp d s else take s) s))) :
    exec c s = .next (deferOp d s) := by
  refine exec_of_rest (hc.trans (congrArg (fun t => Host.Outcome.next (quiesce t)) ?_)) (hs.atRest.of_same rfl rfl)
  rw [takeOp_of_taking hs]
  exact if_pos hcycle

/-- The record of a sump after a SUMP_SET (R64): a sump that stays CONFIGURED keeps its computed values, any other starts afresh. -/
def SumpState.setAnew (stays : Bool) (t : SumpState) : SumpState :=
  if stays then { t with primed := false, base := none, inflowGood := false } else t.fresh

theorem sumpSetOp_done {c : SumpCfg} (h : parseSump ops = some (k, c)) (hp : s.kindOk .level c.primary = true)
    (hb : s.kindOk .level c.backup = true) : sumpSetOp ops s = (0,
      { s with
        cfg := { s.cfg with sumps := Tab.put s.cfg.sumps k c }
        sau := { s.sau with sumps := Tab.put s.sau.sumps k ((s.sump k).setAnew ((s.sumpCfg k).configured && c.configured)) }
        psc := { s.psc with step := if c.primary.isSome = true then s.psc.step else Tab.put s.psc.step k (some 0) } }) := by
  rw [sumpSetOp, h]
  simp only [hp, hb, Bool.and_self, if_true]
  cases hc : c.primary.isSome with
  | true =>
    rw [show c.configured = true from hc]
    rfl
  | false =>
    rw [show c.configured = false from hc]
    rfl

theorem sumpSetOp_kind {c : SumpCfg} (h : parseSump ops = some (k, c))
    (hkind : ¬ (s.kindOk .level c.primary = true ∧ s.kindOk .level c.backup = true)) : sumpSetOp ops s = (2, s) := by
  rw [sumpSetOp, h]
  exact if_neg (by rwa [Bool.and_eq_true])

theorem geometrySetOp_done {i : Fin 8} {b : Option Breakpoint} (h : parseGeometry ops = some (k, i, b)) :
    geometrySetOp ops s = (0,
      { s with
        cfg := { s.cfg with geometry := Tab.put s.cfg.geometry k (Tab.put (Tab.get s.cfg.geometry k) i b) }
        sau := { s.sau with sumps := Tab.put s.sau.sumps k { s.sump k with
          geometryValid := (validGeometry (Tab.put (Tab.get s.cfg.geometry k) i b)).isSome
          base := if (s.sumpCfg k).primary.isSome = true then none else (s.sump k).base
          inflowGood := if (s.sumpCfg k).primary.isSome = true then false else (s.sump k).inflowGood } } }) := by
  rw [geometrySetOp, h]
  dsimp only
  cases hc : (s.sumpCfg k).primary.isSome with
  | true =>
    rw [show (s.sumpCfg k).configured = true from hc]
    rfl
  | false =>
    rw [show (s.sumpCfg k).configured = false from hc]
    rfl

theorem takeSumpSet_of_altering (hs : s.Altering) (tag : Tag) {r : Nat × State} (h : sumpSetOp ops s = r) :
    takeSumpSet tag ops s = answer tag 19 r.1 [] r.2 := by
  rw [takeSumpSet, hs.2, h]
  rfl

theorem takeGeometrySet_of_altering (hs : s.Altering) (tag : Tag) {r : Nat × State} (h : geometrySetOp ops s = r) :
    takeGeometrySet tag ops s = answer tag 20 r.1 [] r.2 := by
  rw [takeGeometrySet, hs.2, h]
  rfl

/-- Settles O31: the operand words by `parseSump_eq` and `parseGeometry_present`, the operations by `sumpSetOp_done` and
`geometrySetOp_done`, their deferral by `exec_deferred`. -/
theorem sumpAndGeometrySet : Obligations.SumpAndGeometrySet := by
  refine ⟨fun kw primary backup gain offset filterK ring scale link more => ⟨fun k hk => parseSump_eq hk, fun hk => ?_⟩,
    fun kw iw present more => ⟨fun k i hk hi => ⟨?_, ?_, ?_⟩, fun h => ?_⟩,
    fun ops => ⟨fun h => parseSump_outside (.inl h), fun h => parseGeometry_outside (.inl h)⟩,
    fun tag ops s hs => ⟨fun hcycle => ⟨?_, ?_⟩, fun hcycle => ⟨fun k c hparse => ⟨fun hkind => ?_, fun p hp hkind => ?_⟩,
      fun k i b hparse => ?_⟩⟩⟩
  · refine parseSump_outside (.inr ?_)
    rw [List.getD_cons_zero]
    rcases hk with rfl | hk
    · decide
    · omega
  · rintro rfl
    exact parseGeometry_absent hk hi
  · rintro rfl level high low rest rfl
    exact parseGeometry_present hk hi
  · rintro rfl h
    exact parseGeometry_short h
  · refine parseGeometry_outside (.inr ?_)
    simp only [List.getD_cons_zero, List.getD_cons_succ]
    rcases h with rfl | h
    · exact .inl (by decide)
    · omega
  · exact exec_deferred hs.1 hcycle rfl
  · exact exec_deferred hs.1 hcycle rfl
  · have hprimary := (kindOk_iff (s := s) .level c.primary).mpr fun p hp => hkind p (.inl hp)
    have hbackup := (kindOk_iff (s := s) .level c.backup).mpr fun p hp => hkind p (.inr hp)
    have hset := takeSumpSet_of_altering hs tag (sumpSetOp_done hparse hprimary hbackup)
    simp only [SumpState.setAnew, SumpCfg.configured, Bool.and_eq_true] at hset
    refine exec_undeferred hs.1 hcycle rfl hset (answer_atRest ?_ ..)
    exact hs.atRest.of_same rfl rfl
  · have hset := sumpSetOp_kind (s := s) hparse fun ⟨hprimary, hbackup⟩ => hkind
      (hp.elim ((kindOk_iff _ _).mp hprimary p) ((kindOk_iff _ _).mp hbackup p))
    exact exec_undeferred hs.1 hcycle rfl (takeSumpSet_of_altering hs tag hset) (answer_atRest hs.atRest ..)
  · refine exec_undeferred hs.1 hcycle rfl (takeGeometrySet_of_altering hs tag (geometrySetOp_done hparse)) (answer_atRest ?_ ..)
    exact hs.atRest.of_same rfl rfl

end Sys2Proof.Machine
end

section
/-! PROOFS. RECORD_GET of the classes SUMP (R82), PUMP (R146), BARRIER and GATE (R165) and ZONE (R175). -/

set_option Elab.async false

namespace Sys2Proof.Machine

variable {s : State} {tag : Tag} {i clear : Word} {ops more : List Word}

/-! ## Operands and words -/

theorem opFlag_outside (h : 1 < clear.toNat) : opFlag (i :: clear :: more) 1 = none := by
  rw [opFlag_eq_ite]
  exact if_neg fun ⟨_, hle⟩ => absurd h (Nat.not_lt.mpr hle)

/-- A record index or a clear operand outside its range. -/
theorem recordOperands_outside {n : Nat} (h : 1 < clear.toNat ∨ i = 0 ∨ n < i.toNat) :
    opIndex n (i :: clear :: more) 0 1 = none ∨ opFlag (i :: clear :: more) 1 = none := by
  obtain h | h := h
  · exact .inr (opFlag_outside h)
  · left
    rw [opIndex_eq_none_iff, List.getD_cons_zero]
    obtain rfl | h := h
    · simp
    · omega

theorem opFlag_missing (h : ops.length < 2) : opFlag ops 1 = none := by
  rw [opFlag_eq_ite]
  exact if_neg fun ⟨hlen, _⟩ => by omega

theorem opFlag_clear (h : clear.toNat ≤ 1) : opFlag (i :: clear :: more) 1 = some (clear == 1) := opFlag_eq rfl h

theorem lowWord_eq (n : Nat) : lowWord n = BitVec.ofNat 16 (n % 65536) := BitVec.eq_of_toNat_eq (by simp [lowWord])

theorem secondsLeft_eq (now : Nat) (t : Timer) : secondsLeft now t = word ((t.left now + 999) / 1000) := by
  rw [secondsLeft, ceilDiv_thousand]

theorem wordBool_eq_flagBit (b : Bool) : wordBool b = flagBit 0 b := rfl

theorem entryTag_eq (s : State) (o : Option PointId) (n : Nat) :
    s.entryTag o n = ((s.override o).map fun e => BitVec.ofNat 16 (e.tag.toNat * 2 ^ n)).getD 0 := by
  unfold State.entryTag
  cases s.override o with
  | none => rfl
  | some e =>
    refine BitVec.eq_of_toNat_eq ?_
    have := e.tag.isLt
    simp [BitVec.toNat_shiftLeft, Nat.shiftLeft_eq, Nat.mod_eq_of_lt (show e.tag.toNat < 65536 by omega)]

theorem entryWords_eq (s : State) (o : Option PointId) : s.entryWords o = match s.override o with
    | some e => [e.value, word ((e.expiry - s.now + 59999) / 60000)]
    | none => [0, 0] := by
  have hminutes : ∀ n : Nat, ceilDiv n 60000 = (n + 59999) / 60000 := fun n => by rw [ceilDiv, Nat.add_sub_assoc (by decide)]
  unfold State.entryWords Override.minutesLeft
  simp only [hminutes] <;> rfl

theorem goodAt_eq_any (s : State) (o : Option PointId) (v : Word) :
    s.goodAt o v = o.any fun p => (s.point p).quality == .good && (s.point p).raw == v := by
  cases o <;> rfl

theorem occupied_eq_any (s : State) (o : Option PointId) :
    s.occupied o = o.any fun p => (s.point p).raw == 1 || !((s.point p).quality == .good) := by
  cases o <;> rfl

/-! ## The words of the records -/

theorem sumpShown_eq (s : State) (k : SumpId) : s.sumpShown k =
    if (s.sumpCfg k).primary.isSome = true then s.sump k else { geometryValid := (s.sump k).geometryValid } := rfl

theorem sumpWords_eq (s : State) (k : SumpId) : sumpWords s k =
    let x := s.sumpShown k
    [word x.source.code, word x.levelQuality.code, word x.cycleLevel, word ((x.filter + 8) / 16).toNat,
      BitVec.ofNat 16 (x.filter.toNat / 65536), BitVec.ofNat 16 (x.filter.toNat % 65536), BitVec.ofNat 16 (x.volume / 65536),
      BitVec.ofNat 16 (x.volume % 65536), BitVec.ofInt 16 x.inflow, flagBit 0 (!x.inflowGood), BitVec.ofInt 16 x.rate,
      word x.blindCount, word x.ring.length,
      flagBit 0 x.limited ||| flagBit 1 x.growth ||| flagBit 2 x.overrun ||| flagBit 3 x.invalidSeen ||| flagBit 4 x.geometryValid |||
        flagBit 5 x.base.isSome ||| flagBit 6 x.primed ||| flagBit 7 (s.sumpCfg k).primary.isSome ||| flagBit 8 x.inflowLimited] := by
  unfold sumpWords State.sumpFlags
  simp only [lowWord_eq, flagWord_eq_foldl, List.foldl_cons, List.foldl_nil, BitVec.zero_or]
  rfl

/-- The place of a pump in its duty list (R146). -/
theorem dutyPlace_eq (s : State) (p : PumpId) : s.dutyPlace p =
    if (s.pump p).mode ≠ .disabled ∧ p ∈ s.dutyList (s.pumpCfg p).sump then (s.dutyList (s.pumpCfg p).sump).idxOf p + 1 else 0 := by
  unfold State.dutyPlace
  by_cases hmode : (s.pump p).mode = .disabled
  · simp [hmode]
  · by_cases hmem : p ∈ s.dutyList (s.pumpCfg p).sump
    · have hfind : (s.dutyList (s.pumpCfg p).sump).findIdx? (fun q => q == p) = some ((s.dutyList (s.pumpCfg p).sump).idxOf p) :=
        List.findIdx?_eq_some_of_exists ⟨p, hmem, beq_self_eq_true p⟩
      simp [hmode, hmem, hfind]
    · have hfind : (s.dutyList (s.pumpCfg p).sump).findIdx? (fun q => q == p) = none :=
        List.findIdx?_eq_none_iff.mpr fun x hx => beq_eq_false_iff_ne.mpr fun h => hmem (h ▸ hx)
      simp [hmem, hfind]

theorem pumpWords_eq (s : State) (p : PumpId) : pumpWords s p =
    let x := s.pump p
    let o := (s.pumpCfg p).runPoint
    let minutes := min 4294967295 ((x.runMs + (x.runningSince.map fun t => s.now - t).getD 0) / 60000)
    [word x.mode.code, word x.stopReason.code, word x.fault, word (s.dutyPlace p), BitVec.ofNat 16 (minutes / 65536),
      BitVec.ofNat 16 (minutes % 65536), BitVec.ofNat 16 (x.startCount / 65536), BitVec.ofNat 16 (x.startCount % 65536),
      word x.startsInWindow, word ((x.hourWindow.left s.now + 999) / 1000), word ((x.offTimer.left s.now + 999) / 1000),
      flagBit 0 x.postDeferred ||| flagBit 1 (s.override o).isSome ||| flagBit 2 (s.lau.shedOrder == some p) |||
        ((s.override o).map fun e => BitVec.ofNat 16 (e.tag.toNat * 2 ^ 4)).getD 0] ++ s.entryWords o := by
  have hminutes : s.runMinutes p =
      min 4294967295 (((s.pump p).runMs + ((s.pump p).runningSince.map fun t => s.now - t).getD 0) / 60000) := by
    unfold State.runMinutes State.runTime
    cases (s.pump p).runningSince <;> rfl
  unfold pumpWords State.pumpFlags
  simp only [lowWord_eq, hminutes, secondsLeft_eq, entryTag_eq, flagWord_eq_foldl, List.foldl_cons, List.foldl_nil, BitVec.zero_or]
  rfl

theorem barrierWords_eq (s : State) (b : BarrierId) : barrierWords s b =
    let x := s.barrier b
    let c := s.barrierCfg b
    let isSet := fun o : Option PointId => o.any fun p => (s.point p).quality == .good && (s.point p).raw == 1
    let occupied := fun o : Option PointId => o.any fun p => (s.point p).raw == 1 || !((s.point p).quality == .good)
    [word x.mode.code, word x.fault, word x.reversals, (x.aspect.map fun a => word a.code).getD 4,
      (if x.warnTimer.isRunning = true then word ((x.warnTimer.left s.now + 999) / 1000)
        else if x.clearTimer.isRunning = true then word ((x.clearTimer.left s.now + 999) / 1000) else 0),
      word ((x.travelTimer.left s.now + 999) / 1000),
      flagBit 0 x.postDeferred ||| flagBit 1 (!occupied c.presence1 && !occupied c.presence2) ||| flagBit 2 (isSet c.openLimit) |||
        flagBit 3 (isSet c.closedLimit) ||| flagBit 4 x.headFault ||| flagBit 5 (s.override c.drive).isSome |||
        flagBit 6 (s.override c.head).isSome ||| ((s.override c.drive).map fun e => BitVec.ofNat 16 (e.tag.toNat * 2 ^ 8)).getD 0] ++
      s.entryWords c.drive ++ s.entryWords c.head := by
  unfold barrierWords State.barrierFlags State.barrierClear State.limitSet runningSeconds
  simp only [secondsLeft_eq, entryTag_eq, flagWord_eq_foldl, goodAt_eq_any, occupied_eq_any, List.foldl_cons, List.foldl_nil,
    BitVec.zero_or]
  cases (s.barrier b).aspect <;> rfl

theorem dataFor_eq_find? (d : Option (List SumpData)) (k : SumpId) : dataFor d k = (d.getD []).find? fun x => x.sump == k := by
  cases d <;> rfl

/-- The two tests of the gate (R160), the close test first. -/
theorem gateTests_eq (s : State) : (s.closeTest, s.openTest) =
    match s.override s.cfg.gate.drive with
    | some e => (e.value == 2, e.value == 1)
    | none => match s.cfg.gate.outfall, (s.gsq.data.getD []).find? fun d => d.sump == s.cfg.gate.linkedSump with
      | some p, some d =>
        if (s.point p).quality = .good then
          (decide ((d.filtered : Int) + s.cfg.gate.margin ≤ (s.point p).raw.toInt),
            decide ((s.point p).raw.toInt ≤ (d.filtered : Int) - s.cfg.gate.margin))
        else (true, false)
      | _, _ => (true, false) := by
  unfold State.closeTest State.openTest State.closeLevels State.openLevels State.gateOpenEntry State.overrideIs State.outfall
  rw [dataFor_eq_find?]
  cases s.override s.cfg.gate.drive with
  | some e => rfl
  | none =>
    cases s.cfg.gate.outfall with
    | none => rfl
    | some p =>
      by_cases hgood : (s.point p).quality = .good
      all_goals
        simp only [hgood, if_true, if_false]
        cases (s.gsq.data.getD []).find? fun d => d.sump == s.cfg.gate.linkedSump with
        | none => rfl
        | some d => simp [hgood]

theorem gateWords_eq (s : State) : gateWords s =
    let x := s.gsq.gate
    let c := s.cfg.gate
    let linked := (s.gsq.data.getD []).find? fun d => d.sump == c.linkedSump
    let isSet := fun o : Option PointId => o.any fun p => (s.point p).quality == .good && (s.point p).raw == 1
    [word x.mode.code, word x.fault, (c.outfall.map fun p => (s.point p).raw).getD (Config.unstatedWord 0 s.free),
      (linked.map fun d => word d.filtered).getD (Config.unstatedWord 1 s.free), word ((x.dwellTimer.left s.now + 999) / 1000),
      word ((x.travelTimer.left s.now + 999) / 1000),
      flagBit 0 x.postDeferred ||| flagBit 1 s.closeTest ||| flagBit 2 s.openTest ||| flagBit 3 (isSet c.openLimit) |||
        flagBit 4 (isSet c.closedLimit) ||| flagBit 5 (s.override c.drive).isSome |||
        ((s.override c.drive).map fun e => BitVec.ofNat 16 (e.tag.toNat * 2 ^ 8)).getD 0] ++ s.entryWords c.drive := by
  unfold gateWords State.gateFlags State.limitSet
  simp only [secondsLeft_eq, entryTag_eq, flagWord_eq_foldl, goodAt_eq_any, dataFor_eq_find?, List.foldl_cons, List.foldl_nil,
    BitVec.zero_or]
  cases s.cfg.gate.outfall <;> cases (s.gsq.data.getD []).find? fun d => d.sump == s.cfg.gate.linkedSump <;> rfl

theorem increment_eq (s : State) (z : ZoneId) : s.increment z =
    if (s.zone z).mode = .shed ∨ (s.zone z).mode = .restoreQueued then
      ((s.zoneCfg z).ratedKw * (s.zone z).target + 99) / 100 - ((s.zoneCfg z).ratedKw * (s.zoneCfg z).safety + 99) / 100
    else 0 := by
  unfold State.increment levelLoad
  simp only [ceilDiv_hundred]
  cases (s.zone z).mode <;> rfl

theorem zoneWords_eq (s : State) (z : ZoneId) : zoneWords s z =
    let x := s.zone z
    let c := s.zoneCfg z
    [word x.mode.code, word x.level, word x.target, word x.curveValue, word c.safety, word (s.increment z),
      (x.reserve.map word).getD 0, word (Tab.get s.lau.zoneLoad z), word x.faultCounter,
      word ((c.current.map fun p => (s.point p).raw.toInt.toNat).getD 0), word (c.ratedCurrent * x.level / 100),
      flagBit 0 x.postDeferred ||| flagBit 1 x.lampFault ||| flagBit 2 x.dimmerFault ||| flagBit 3 x.reserve.isSome |||
        flagBit 4 (s.override c.dim).isSome ||| flagBit 5 (validCurve (Tab.get s.cfg.curves c.curve)).isSome |||
        ((s.override c.dim).map fun e => BitVec.ofNat 16 (e.tag.toNat * 2 ^ 8)).getD 0] ++ s.entryWords c.dim := by
  unfold zoneWords State.zoneFlags State.measured State.expected
  simp only [entryTag_eq, flagWord_eq_foldl, List.foldl_cons, List.foldl_nil, BitVec.zero_or]
  cases (s.zone z).reserve <;> cases (s.zoneCfg z).current <;> rfl

/-! ## The reads -/

/-- A read whose clear operand clears nothing. -/
theorem recordOp_kept {n first : Nat} {k : Fin n} {c : Bool} (data : State → Fin n → List Word)
    (hk : opIndex n ops 0 first = some k) (hc : opFlag ops 1 = some c) :
    recordOp n first data (fun _ s => s) ops s = (stDone, data s k, s) := by
  rw [recordOp_done data _ hk hc, ite_self]

section
variable (hs : s.Taking)
include hs

/-- A read of class SUMP with no cycle in flight (R66). -/
theorem exec_recordGetSump {status : Nat} {data : List Word} {t : State} (hcycle : s.sau.cycle = none)
    (h : sumpRead ops s = (status, data, t)) (ht : t.AtRest) :
    exec (.recordGetSump tag ops) s = .next (answer tag 32 status data t) := by
  refine exec_undeferred hs hcycle rfl ?_ (answer_atRest ht ..)
  rw [h]
  rfl

theorem exec_recordGetPump {r : Nat × List Word} (h : pumpRead ops s = (r.1, r.2, s)) :
    exec (.recordGetPump tag ops) s = .next (answer tag 32 r.1 r.2 s) := exec_read hs rfl h hs.atRest

theorem exec_recordGetBarrier {r : Nat × List Word} (h : barrierRead ops s = (r.1, r.2, s)) :
    exec (.recordGetBarrier tag ops) s = .next (answer tag 32 r.1 r.2 s) := exec_read hs rfl h hs.atRest

theorem exec_recordGetZone {r : Nat × List Word} (h : zoneRead ops s = (r.1, r.2, s)) :
    exec (.recordGetZone tag ops) s = .next (answer tag 32 r.1 r.2 s) := exec_read hs rfl h hs.atRest

/-- A read of class GATE takes the next index of free words (log entry 7). -/
theorem exec_recordGetGate {r : Nat × List Word} (h : gateRead ops s = (r.1, r.2, s)) :
    exec (.recordGetGate tag ops) s = .next (answer tag 32 r.1 r.2 { s with free := s.free + 1 }) :=
  exec_read (t := s.nextFree) hs rfl (by rw [h]) (hs.atRest.of_same rfl rfl)

theorem exec_recordGetSump_range (hcycle : s.sau.cycle = none) (h : opIndex 4 ops 0 1 = none ∨ opFlag ops 1 = none) :
    exec (.recordGetSump tag ops) s = .next (answer tag 32 2 [] s) :=
  exec_recordGetSump hs hcycle (recordOp_range _ _ h) hs.atRest

theorem exec_recordGetPump_range (h : opIndex 8 ops 0 1 = none ∨ opFlag ops 1 = none) :
    exec (.recordGetPump tag ops) s = .next (answer tag 32 2 [] s) :=
  exec_recordGetPump (r := (2, [])) hs (recordOp_range _ _ h)

theorem exec_recordGetBarrier_range (h : opIndex 4 ops 0 1 = none ∨ opFlag ops 1 = none) :
    exec (.recordGetBarrier tag ops) s = .next (answer tag 32 2 [] s) :=
  exec_recordGetBarrier (r := (2, [])) hs (recordOp_range _ _ h)

theorem exec_recordGetZone_range (h : opIndex 6 ops 0 1 = none ∨ opFlag ops 1 = none) :
    exec (.recordGetZone tag ops) s = .next (answer tag 32 2 [] s) :=
  exec_recordGetZone (r := (2, [])) hs (recordOp_range _ _ h)

theorem exec_recordGetGate_range (h : opIndex 1 ops 0 0 = none ∨ opFlag ops 1 = none) :
    ∃ n, exec (.recordGetGate tag ops) s = .next (answer tag 32 2 [] { s with free := n }) :=
  ⟨s.free + 1, exec_recordGetGate (r := (2, [])) hs (recordOp_range _ _ h)⟩
end

/-- Settles O58: the words of each record by its equation, the operands by `recordOperands_outside` and `opFlag_missing`. -/
theorem deviceReads : Obligations.DeviceReads := by
  intro tag i clear more s hs ops bit secs high low entry stands tagAt isSet occupied
  refine ⟨fun k hk hclear hcycle => ?_, fun hcycle => exec_deferred hs hcycle rfl, fun p hp hclear => ?_, fun b hb hclear => ?_,
    fun hi hclear => ?_, fun z hz hclear => ?_, fun h => ⟨fun hcycle => exec_recordGetSump_range hs hcycle (recordOperands_outside h),
      exec_recordGetBarrier_range hs (recordOperands_outside h)⟩,
    fun h => exec_recordGetPump_range hs (recordOperands_outside h), fun h => exec_recordGetZone_range hs (recordOperands_outside h),
    fun h => exec_recordGetGate_range hs ?_, fun few hfew => ?_⟩
  · intro unset x cleared
    have hread : sumpRead ops s = (0, sumpWords s k, if clear = 1 then s.modSump k SumpState.clearSticky else s) :=
      (recordOp_done _ _ (opIndex_eq rfl hk) (opFlag_clear hclear)).trans (by simp only [beq_iff_eq]; rfl)
    rw [exec_recordGetSump hs hcycle hread (by split <;> exact hs.atRest), sumpWords_eq, sumpShown_eq]
    rfl
  · have hread := recordOp_kept (s := s) pumpWords (opIndex_eq rfl hp) (opFlag_clear (i := i) (more := more) hclear)
    refine (exec_recordGetPump (r := (0, pumpWords s p)) hs hread).trans ?_
    simp only [pumpWords_eq, entryWords_eq, dutyPlace_eq]
    rfl
  · have hread := recordOp_kept (s := s) barrierWords (opIndex_eq rfl hb) (opFlag_clear (i := i) (more := more) hclear)
    refine (exec_recordGetBarrier (r := (0, barrierWords s b)) hs hread).trans ?_
    simp only [barrierWords_eq, entryWords_eq]
    rfl
  · have hindex : opIndex 1 ops 0 0 = some 0 := opIndex_eq rfl (by rw [hi]; rfl)
    have hread := recordOp_kept (s := s) (fun s _ => gateWords s) hindex (opFlag_clear hclear)
    intro x c linked tests
    have htests : (s.closeTest, s.openTest) = tests := gateTests_eq s
    obtain ⟨hclose, hopen⟩ := Prod.mk.inj htests
    refine (exec_recordGetGate (r := (0, gateWords s)) hs hread).trans ?_
    simp only [gateWords_eq, entryWords_eq, hclose, hopen]
    rfl
  · have hread := recordOp_kept (s := s) zoneWords (opIndex_eq rfl hz) (opFlag_clear (i := i) (more := more) hclear)
    refine (exec_recordGetZone (r := (0, zoneWords s z)) hs hread).trans ?_
    simp only [zoneWords_eq, entryWords_eq, increment_eq]
    rfl
  · refine h.symm.imp (fun hi => ?_) fun hc => ?_
    · refine opIndex_beyond (Nat.one_le_iff_ne_zero.mpr fun h0 => hi (BitVec.eq_of_toNat_eq h0)) _
    · exact opFlag_outside hc
  · exact ⟨fun hcycle => exec_recordGetSump_range hs hcycle (.inr (opFlag_missing hfew)),
      exec_recordGetPump_range hs (.inr (opFlag_missing hfew)), exec_recordGetBarrier_range hs (.inr (opFlag_missing hfew)),
      exec_recordGetZone_range hs (.inr (opFlag_missing hfew)), exec_recordGetGate_range hs (.inr (opFlag_missing hfew))⟩

end Sys2Proof.Machine
end

section
/-! SUPPORT. What the events between the blocks leave of the record of the STC: all of it but its reported flags (R89, R93), until a report
of the barriers is delivered. -/

set_option Elab.async false

namespace Sys2Proof.Machine

/-- The record of the STC less the flags that the PSC and the GSQ report to it (R89, R93). -/
def State.course (s : State) : Stc := { s.stc with allClosed := false, allOpen := false, pscReady := false, gsqReady := false }

variable (s : State)

/-! ## Updates of the other blocks -/

@[simp] theorem raiseNotice_course (code : Nat) (data : List Word) : (raiseNotice code data s).course = s.course := rfl
@[simp] theorem modPump_course (p : PumpId) (f : PumpState → PumpState) : (s.modPump p f).course = s.course := rfl
@[simp] theorem modBarrier_course (b : BarrierId) (f : BarrierState → BarrierState) : (s.modBarrier b f).course = s.course := rfl
@[simp] theorem modGate_course (f : GateState → GateState) : (s.modGate f).course = s.course := rfl
@[simp] theorem modZone_course (z : ZoneId) (f : ZoneState → ZoneState) : (s.modZone z f).course = s.course := rfl
@[simp] theorem modLau_course (f : Lau → Lau) : (s.modLau f).course = s.course := rfl

theorem foldl_course {α : Type} (l : List α) (f : State → α → State) (h : ∀ s a, (f s a).course = s.course) (s : State) :
    (l.foldl f s).course = s.course := foldl_field State.course h l s

@[simp] theorem requestCommand_course (p : PointId) (v : Word) : (requestCommand p v s).course = s.course := by
  unfold requestCommand
  split <;> rfl

@[simp] theorem commandPoint_course (o : Option PointId) (v : Word) : (commandPoint o v s).course = s.course := by
  unfold commandPoint
  split <;> simp

/-! ## The LAU's own tables -/

@[simp] theorem reportPump_course (p : PumpId) (m : PumpMode) : (reportPump p m s).course = s.course := rfl
@[simp] theorem reportMotor_course (i : Fin 5) (kw : Nat) : (reportMotor i kw s).course = s.course := rfl
@[simp] theorem reportZoneLoad_course (z : ZoneId) (a b : Nat) : (reportZoneLoad z a b s).course = s.course := rfl

@[simp] theorem post_course (d : Device) (c k f i : Nat) : (post d c k f i s).1.course = s.course := by
  unfold post
  split
  · rfl
  · simp only
    split <;> rfl

@[simp] theorem withdraw_course (d : Device) : (withdraw d s).course = s.course := by
  unfold withdraw
  split <;> rfl

/-! ## Pumps -/

@[simp] theorem pscReadiness_course : (pscReadiness s).course = s.course := by
  unfold pscReadiness
  split <;> rfl

@[simp] theorem pumpGo_course (p : PumpId) (m : PumpMode) : (pumpGo p m s).course = s.course := by simp [pumpGo]

@[simp] theorem numberStart_course (p : PumpId) : (numberStart p s).course = s.course := rfl

@[simp] theorem pumpSettle_course (p : PumpId) : (pumpSettle p s).course = s.course := by
  unfold pumpSettle
  simp only
  split <;> simp

@[simp] theorem pumpGrant_course (p : PumpId) : (pumpGrant p s).course = s.course := by
  unfold pumpGrant
  split <;> simp

@[simp] theorem pumpStop_course (p : PumpId) (r : StopReason) : (pumpStop p r s).course = s.course := by
  unfold pumpStop
  split <;> simp

@[simp] theorem pumpShed_course (p : PumpId) : (pumpShed p s).course = s.course := by
  unfold pumpShed
  split <;> simp

/-! ## Barriers and the gate -/

@[simp] theorem aspectJudge_course (a : Bool) (b : BarrierId) : (aspectJudge a b s).course = s.course := by
  unfold aspectJudge
  simp only
  repeat' split
  all_goals simp

@[simp] theorem summaryReport_course : (summaryReport s).course = s.course := by
  unfold summaryReport
  split
  all_goals
    refine (apply_ite State.course _ _ _).trans ?_
    split <;> rfl

@[simp] theorem gsqReadiness_course : (gsqReadiness s).course = s.course := by
  unfold gsqReadiness
  split <;> rfl

@[simp] theorem barrierGo_course (b : BarrierId) (m : BarrierMode) : (barrierGo b m s).course = s.course := by simp [barrierGo]

@[simp] theorem barrierPost_course (b : BarrierId) (c : Nat) : (barrierPost b c s).1.course = s.course := by simp [barrierPost]

@[simp] theorem barrierPostGo_course (b : BarrierId) (c : Nat) (m : BarrierMode) :
    (barrierPostGo b c m s).course = s.course := by
  unfold barrierPostGo
  simp only
  split <;> simp

@[simp] theorem barrierPostStay_course (b : BarrierId) (c : Nat) : (barrierPostStay b c s).course = s.course := by
  unfold barrierPostStay
  split <;> simp

@[simp] theorem toClearing_course (b : BarrierId) : (toClearing b s).course = s.course := by simp [toClearing]
@[simp] theorem toClearingStopped_course (b : BarrierId) : (toClearingStopped b s).course = s.course := by simp [toClearingStopped]
@[simp] theorem closingPost_course (b : BarrierId) : (closingPost b s).course = s.course := by simp [closingPost]
@[simp] theorem startTravel_course (b : BarrierId) : (startTravel b s).course = s.course := by simp [startTravel]
@[simp] theorem barrierMove_course (b : BarrierId) (m : BarrierMode) (v : Word) : (barrierMove b m v s).course = s.course := by
  simp [barrierMove]
@[simp] theorem withdrawToClosed_course (b : BarrierId) : (withdrawToClosed b s).course = s.course := by simp [withdrawToClosed]

@[simp] theorem barrierAct_course (b : BarrierId) : (barrierAct b s).course = s.course := by
  unfold barrierAct
  simp only
  repeat' split
  all_goals simp

@[simp] theorem barrierEval_course (b : BarrierId) : (barrierEval b s).course = s.course := by
  unfold barrierEval
  repeat' split
  all_goals simp

@[simp] theorem barrierGrant_course (b : BarrierId) : (barrierGrant b s).course = s.course := by
  unfold barrierGrant
  repeat' split
  all_goals simp

@[simp] theorem gateLeftClosed_course : (gateLeftClosed s).course = s.course := by
  unfold gateLeftClosed
  apply foldl_course
  intro s k
  split <;> rfl

@[simp] theorem gateGo_course (m : GateMode) : (gateGo m s).course = s.course := by
  unfold gateGo
  simp only [gsqReadiness_course]
  split <;> simp

@[simp] theorem gatePost_course (c : Nat) : (gatePost c s).1.course = s.course := by simp [gatePost]

@[simp] theorem gatePostGo_course (c : Nat) (m : GateMode) : (gatePostGo c m s).course = s.course := by
  unfold gatePostGo
  simp only
  split <;> simp

@[simp] theorem gatePostStay_course (c : Nat) : (gatePostStay c s).course = s.course := by
  unfold gatePostStay
  split <;> simp

@[simp] theorem gateMove_course (m : GateMode) (v : Word) : (gateMove m v s).course = s.course := by simp [gateMove]

@[simp] theorem gateEval_course : (gateEval s).course = s.course := by
  unfold gateEval
  simp only
  repeat' split
  all_goals simp

@[simp] theorem gateGrant_course : (gateGrant s).course = s.course := by
  unfold gateGrant
  split <;> simp

/-! ## Zones -/

@[simp] theorem zoneReport_course (z : ZoneId) : (zoneReport z s).course = s.course := by simp [zoneReport]
@[simp] theorem dimRequest_course (z : ZoneId) : (dimRequest z s).course = s.course := by simp [dimRequest]
@[simp] theorem commandLevel_course (z : ZoneId) (n : Nat) : (commandLevel z n s).course = s.course := by simp [commandLevel]

@[simp] theorem restorationPost_course (z : ZoneId) : (restorationPost z s).course = s.course := by
  unfold restorationPost
  simp only
  repeat' split
  all_goals simp

@[simp] theorem zoneShed_course (z : ZoneId) : (zoneShed z s).course = s.course := by
  unfold zoneShed
  split <;> simp

@[simp] theorem zoneShedEnd_course (z : ZoneId) : (zoneShedEnd z s).course = s.course := by
  unfold zoneShedEnd
  split <;> simp

@[simp] theorem zoneGrant_course (z : ZoneId) : (zoneGrant z s).course = s.course := by
  unfold zoneGrant
  split <;> simp

/-! ## The judgements of the LAU -/

@[simp] theorem deliverGrant_course (d : Device) : (deliverGrant d s).course = s.course := by
  unfold deliverGrant
  split <;> simp

@[simp] theorem grantHead_course (r : Request) (q : List Request) : (grantHead r q s).course = s.course := by
  rw [grantHead, deliverGrant_course]; rfl

@[simp] theorem shedBegin_course : (shedBegin s).course = s.course := by
  unfold shedBegin
  simp only
  rw [modLau_course, foldl_course _ _ (fun s z => zoneShed_course s z)]
  rfl

@[simp] theorem shedIssue_course (p : PumpId) : (shedIssue p s).course = s.course := by
  rw [shedIssue, pumpShed_course]; rfl

@[simp] theorem shedEnd_course : (shedEnd s).course = s.course := by
  rw [shedEnd, foldl_course _ _ (fun s z => zoneShedEnd_course s z)]; rfl

theorem lauShed_course {s t : State} (h : lauRound.lauShed s = some t) : t.course = s.course := by
  unfold lauRound.lauShed at h
  split at h
  · rw [← Option.some.inj h]; simp
  · split at h
    · rw [← Option.some.inj h]; simp
    · split at h
      · rw [← Option.some.inj h]; simp
      · cases h

theorem lauRound_course {s t : State} (h : lauRound s = some t) : t.course = s.course := by
  unfold lauRound at h
  split at h
  · split at h
    · rw [← Option.some.inj h]; simp
    · exact lauShed_course h
  · exact lauShed_course h

@[simp] theorem lauLoop_course (n : Nat) : (lauLoop n s).course = s.course := by
  induction n generalizing s with
  | zero => rfl
  | succ n ih =>
    unfold lauLoop
    split
    · rw [ih, lauRound_course ‹_›]
    · rfl

@[simp] theorem lauSettle_course : (lauSettle s).course = s.course := by
  unfold lauSettle
  split
  · rw [modLau_course, lauLoop_course]
  · rfl

theorem eachDevice_course {α : Type} (l : List α) (f : α → State → State) (h : ∀ a s, (f a s).course = s.course) :
    (eachDevice l f s).course = s.course :=
  foldl_course _ _ (fun s a => by rw [lauSettle_course, h]) s

@[simp] theorem gsqEvaluate_course : (gsqEvaluate s).course = s.course := by
  simp [gsqEvaluate, eachDevice_course s fourIds barrierEval (fun b s => barrierEval_course s b)]

/-! ## The Pump Scheduler -/

@[simp] theorem pumpObeyStop_course (p : PumpId) : (pumpObeyStop p s).course = s.course := by
  unfold pumpObeyStop
  repeat' split
  all_goals simp

@[simp] theorem withdrawExcess_course (k : SumpId) (d : Nat) : (withdrawExcess k d s).course = s.course := by
  unfold withdrawExcess
  apply foldl_course
  intro s p
  split <;> simp

@[simp] theorem reduceSump_course (k : SumpId) (d : Nat) : (reduceSump k d s).course = s.course := by
  have h : (withdrawExcess k d ((s.pumpsOf k).foldl (fun s p => pumpObeyStop p s) s)).course = s.course := by
    rw [withdrawExcess_course, foldl_course _ _ (fun s p => pumpObeyStop_course s p)]
  unfold reduceSump
  simp only
  repeat' split
  all_goals simp [h]

@[simp] theorem postPump_course (k : SumpId) (d : Nat) (p : PumpId) : (postPump k d p s).course = s.course := by
  unfold postPump
  simp only
  repeat' split
  all_goals simp

@[simp] theorem evaluateSump_course (k : SumpId) : (evaluateSump k s).course = s.course := by
  unfold evaluateSump
  split
  · simp only
    rw [foldl_course _ _ (fun s p => postPump_course s k _ p), lauSettle_course, reduceSump_course,
      foldl_course _ _ (fun s p => modPump_course s p _)]
  · rfl

@[simp] theorem pscEvaluate_course : (pscEvaluate s).course = s.course :=
  foldl_course _ _ (fun s k => evaluateSump_course s k) s

end Sys2Proof.Machine
end

section
/-! PROOFS. What the events between the blocks make of the STAGE: a report of the barriers ends CLOSING or REOPENING (R89), and nothing
else moves it; outside RUNNING without a report they leave the record of the STC as it is. -/

set_option Elab.async false

namespace Sys2Proof.Machine

variable {s t u : State}

/-! ## Changes of STAGE in the record of the STC -/

/-- The record of the STC at a change of STAGE (R92). -/
def Stc.entered (c : Stc) (g : Stage) (cause : Cause) (now : Nat) : Stc :=
  { c with stage := g, enteredAt := now, cause := cause, confirm := 0, descent := .stopped, reopen := .stopped, reopenReady := false }

/-- The record of the STC after the report of the barriers for which its STAGE waits (R89). -/
def Stc.reported (c : Stc) (now : Nat) : Stc :=
  match c.stage with
  | .closing => c.entered .closed { sump := 0, test := 8 } now
  | .reopening => c.entered .watch { sump := 0, test := 9 } now
  | _ => c

theorem Stc.reported_of_ne {c : Stc} (hc : c.stage ≠ .closing) (hr : c.stage ≠ .reopening) (now : Nat) : c.reported now = c := by
  unfold Stc.reported
  split
  · exact absurd ‹_› hc
  · exact absurd ‹_› hr
  · rfl

theorem Stc.reported_reported (c : Stc) (now : Nat) : (c.reported now).reported now = c.reported now := by
  obtain ⟨stage⟩ := c
  cases stage <;> rfl

@[simp] theorem cancelOverrides_stc (cause : OverrideCause) (code : Nat) (s : State) : (cancelOverrides cause code s).stc = s.stc := by
  have hfold := foldl_field State.stc (g := fun s (e : Override) => s.tellOwner e.point (ownerOf s.cfg e.point) none cause)
    (fun _ _ => rfl) s.cau.overrides s
  unfold cancelOverrides
  simp only
  split
  · exact hfold
  · exact hfold

theorem stageChange_stc (g : Stage) (c : Cause) (s : State) : (stageChange g c s).stc = s.stc.entered g c s.now := by
  unfold stageChange
  simp only
  split
  · exact (cancelOverrides_stc ..).trans rfl
  · rfl

theorem now_of_plant (h : t.plant = s.plant) : t.now = s.now := (congrArg (fun x : State => x.now) h :)
theorem now_of_steady (h : t.steady = s.steady) : t.now = s.now := (congrArg (fun x : State => x.now) h :)

/-! ## Deliveries -/

/-- The record of the STC stands less its reported flags, or one report of the barriers has moved its STAGE. -/
structure Delivered (s t : State) : Prop where
  now : t.now = s.now
  course : t.course = s.course ∨ t.course = s.course.reported s.now

theorem Delivered.refl (s : State) : Delivered s s := ⟨rfl, .inl rfl⟩

theorem Delivered.of_course (hn : t.now = s.now) (h : t.course = s.course) : Delivered s t := ⟨hn, .inl h⟩

theorem Delivered.trans (h : Delivered s t) (g : Delivered t u) : Delivered s u := by
  refine ⟨g.now.trans h.now, ?_⟩
  obtain hg | hg := g.course
  · exact hg ▸ h.course
  · rw [hg, h.now]
    obtain ht | ht := h.course
    · exact .inr (ht ▸ rfl)
    · exact .inr (by rw [ht, Stc.reported_reported])

/-- The last thing done first. -/
theorem Delivered.after (g : Delivered t u) (h : Delivered s t) : Delivered s u := h.trans g

theorem takeSummary_delivered (c o : Bool) (s : State) : Delivered s (takeSummary c o s) := by
  refine ⟨now_of_steady (takeSummary_steady s c o), ?_⟩
  have hflags : (s.modStc fun x => { x with allClosed := c, allOpen := o }).course = s.course := rfl
  unfold takeSummary
  simp only
  split
  · next h =>
    simp only [Bool.and_eq_true, beq_iff_eq] at h
    refine .inr ?_
    simp only [stageTo, State.course, stageChange_stc, Stc.reported, h.2]
    rfl
  · split
    · next h =>
      simp only [Bool.and_eq_true, beq_iff_eq] at h
      refine .inr ?_
      simp only [stageTo, State.course, stageChange_stc, Stc.reported, h.2]
      rfl
    · exact .inl hflags

theorem lauSettle_delivered (s : State) : Delivered s (lauSettle s) :=
  .of_course (now_of_steady (lauSettle_steady s)) (lauSettle_course s)

theorem aspectJudge_delivered (a : Bool) (b : BarrierId) (s : State) : Delivered s (aspectJudge a b s) :=
  .of_course (now_of_steady (aspectJudge_steady s a b)) (aspectJudge_course s a b)

theorem pscEvaluate_delivered (s : State) : Delivered s (pscEvaluate s) :=
  .of_course (now_of_steady (pscEvaluate_steady s)) (pscEvaluate_course s)

theorem gsqEvaluate_delivered (s : State) : Delivered s (gsqEvaluate s) :=
  .of_course (now_of_steady (gsqEvaluate_steady s)) (gsqEvaluate_course s)

theorem handleSignal_delivered (x : Signal) (s : State) : Delivered s (handleSignal x s) := by
  unfold handleSignal
  split
  · exact takeSummary_delivered _ _ s
  · split
    · exact .after (gsqEvaluate_delivered _) (pscEvaluate_delivered s)
    · exact .refl s
  · split
    · split
      · exact gsqEvaluate_delivered s
      · exact .refl s
    · split
      · exact gsqEvaluate_delivered s
      · exact .refl s
    · split
      · exact gsqEvaluate_delivered s
      · exact aspectJudge_delivered _ _ s
    · exact .refl s

theorem quiesceLoop_delivered (n : Nat) (s : State) : Delivered s (quiesceLoop n s) := by
  induction n generalizing s with
  | zero => exact .after (t := lauSettle s) (.of_course rfl rfl) (lauSettle_delivered s)
  | succ n ih =>
    unfold quiesceLoop
    simp only
    split
    · exact lauSettle_delivered s
    · next x rest _ =>
      exact .after (ih _) (.after (handleSignal_delivered x _)
        (.after (t := lauSettle s) (.of_course rfl rfl) (lauSettle_delivered s)))

theorem quiesce_delivered (s : State) : Delivered s (quiesce s) := quiesceLoop_delivered 256 s

/-! ## Deliveries outside RUNNING with no report of the barriers among the events -/

/-- Nothing that waits for its delivery can change the record of the STC. -/
structure Quiet (s : State) : Prop where
  judged : s.lau.judgeDue = false
  hold : s.stc.hold ≠ .running
  silent : ∀ c o, Signal.summary c o ∉ s.signals

theorem commandPoint_stc (o : Option PointId) (v : Word) (s : State) : (commandPoint o v s).stc = s.stc := by
  unfold commandPoint requestCommand
  repeat' split
  all_goals rfl

theorem commandPoint_signals (o : Option PointId) (v : Word) (s : State) : (commandPoint o v s).signals = s.signals := by
  unfold commandPoint requestCommand
  repeat' split
  all_goals rfl

theorem aspectJudge_stc (a : Bool) (b : BarrierId) (s : State) : (aspectJudge a b s).stc = s.stc := by
  unfold aspectJudge
  simp only
  repeat' split
  all_goals simp [State.modBarrier, commandPoint_stc]

theorem aspectJudge_signals (a : Bool) (b : BarrierId) (s : State) : (aspectJudge a b s).signals = s.signals := by
  unfold aspectJudge
  simp only
  repeat' split
  all_goals simp [State.modBarrier, commandPoint_signals]

/-- Outside RUNNING an event other than a report of the barriers leaves the STC, the LAU and the events that wait. -/
theorem handleSignal_quiet (h : s.stc.hold ≠ .running) {x : Signal} (hx : ∀ c o, x ≠ .summary c o) :
    (handleSignal x s).stc = s.stc ∧ (handleSignal x s).lau = s.lau ∧ (handleSignal x s).signals = s.signals := by
  unfold handleSignal
  split
  · exact absurd rfl (hx _ _)
  · rw [if_neg h]
    exact ⟨rfl, rfl, rfl⟩
  · split
    · rw [if_neg h]
      exact ⟨rfl, rfl, rfl⟩
    · rw [if_neg h]
      exact ⟨rfl, rfl, rfl⟩
    · rw [if_neg h]
      exact ⟨aspectJudge_stc .., aspectJudge_lau .., aspectJudge_signals ..⟩
    · exact ⟨rfl, rfl, rfl⟩

theorem Quiet.quiesceLoop_stc (n : Nat) (h : Quiet s) : (quiesceLoop n s).stc = s.stc := by
  induction n generalizing s with
  | zero => exact (show (quiesceLoop 0 s).stc = (lauSettle s).stc from rfl).trans (congrArg State.stc (lauSettle_of_judged h.judged))
  | succ n ih =>
    unfold quiesceLoop
    rw [lauSettle_of_judged h.judged]
    simp only
    split
    · rfl
    · next x rest hsignals =>
      have hx : ∀ c o, x ≠ .summary c o := fun c o he => h.silent c o (hsignals ▸ he ▸ List.mem_cons_self)
      obtain ⟨hstc, hlau, hrest⟩ := handleSignal_quiet (s := { s with signals := rest }) h.hold hx
      refine (ih ⟨?_, ?_, fun c o hm => ?_⟩).trans hstc
      · rw [hlau]
        exact h.judged
      · rw [hstc]
        exact h.hold
      · rw [hrest] at hm
        exact h.silent c o (hsignals ▸ List.mem_cons_of_mem _ hm)

theorem Quiet.quiesce_stc (h : Quiet s) : (quiesce s).stc = s.stc := h.quiesceLoop_stc 256

/-! ## A change of STAGE raises no report of the barriers -/

theorem cancelOverrides_lau (cause : OverrideCause) (code : Nat) (s : State) : (cancelOverrides cause code s).lau = s.lau := by
  have hfold := foldl_field State.lau (g := fun s (e : Override) => s.tellOwner e.point (ownerOf s.cfg e.point) none cause)
    (fun _ _ => rfl) s.cau.overrides s
  unfold cancelOverrides
  simp only
  split
  · exact hfold
  · exact hfold

theorem cancelOverrides_silent (cause : OverrideCause) (code : Nat) (h : ∀ c o, Signal.summary c o ∉ s.signals) :
    ∀ c o, Signal.summary c o ∉ (cancelOverrides cause code s).signals := by
  have hfold := foldl_keeps (P := fun x : State => ∀ c o, Signal.summary c o ∉ x.signals)
    (f := fun s (e : Override) => s.tellOwner e.point (ownerOf s.cfg e.point) none cause)
    (fun x e hx c o => by simpa [State.tellOwner, State.emit] using hx c o) s.cau.overrides h
  unfold cancelOverrides
  simp only
  split
  · exact hfold
  · exact hfold

theorem Quiet.stageChange (h : Quiet s) (g : Stage) (c : Cause) : Quiet (stageChange g c s) := by
  refine ⟨?_, by rw [stageChange_stc]; exact h.hold, ?_⟩
  · unfold Machine.stageChange
    simp only
    split
    · exact (congrArg Lau.judgeDue (cancelOverrides_lau ..)).trans h.judged
    · exact h.judged
  · unfold Machine.stageChange
    simp only
    split
    · intro a o
      simpa [State.emit] using cancelOverrides_silent (s := raiseNotice _ _ (s.modStc _)) _ _ h.silent a o
    · intro a o
      simpa [State.emit] using h.silent a o

end Sys2Proof.Machine
end

section
/-! PROOFS. What the sumps, the data handed on and the staging steps are at a completion (R66, R132). -/

set_option Elab.async false

namespace Sys2Proof.Machine

variable {s t : State}

/-! ## The sumps -/

/-- A computation of a sump changes the record of that sump, and may offer a notice (R66, R69). -/
theorem completeSump_frame (v : Vector SumpState 4) (u : Upp) (c : Cycle) (k : SumpId) (s : State) :
    { completeSump c k s with upp := u, sau := { (completeSump c k s).sau with sumps := v } } =
      { s with upp := u, sau := { s.sau with sumps := v } } := by
  rw [completeSump_eq]
  split <;> rfl

theorem completeSump_sump (c : Cycle) (k j : SumpId) (s : State) :
    (completeSump c k s).sump j = if j = k then s.computed c k else s.sump j := by
  refine Eq.trans ?_ (sump_modSump k j (fun _ => s.computed c k) s)
  rw [completeSump_eq]
  split <;> rfl

/-- The computation of a sump reads the configuration, the gate and the record of that sump. -/
theorem computed_congr {c : Cycle} {k : SumpId} (hcfg : t.cfg = s.cfg) (hgsq : t.gsq = s.gsq) (hsump : t.sump k = s.sump k) :
    t.computed c k = s.computed c k := by
  simp only [State.computed, State.sumpCfg, hcfg, hgsq, hsump]

/-- The sumps computed at the completion of a cycle, which is no longer in flight (R66). -/
def completedSumps (c : Cycle) (s : State) : State :=
  s.configuredSumps.foldl (fun u k => completeSump c k u) (s.modSau fun a => { a with cycle := none })

theorem foldl_completeSump_frame (v : Vector SumpState 4) (u : Upp) (c : Cycle) (l : List SumpId) (s : State) :
    { l.foldl (fun x k => completeSump c k x) s with
      upp := u, sau := { (l.foldl (fun x k => completeSump c k x) s).sau with sumps := v } } =
      { s with upp := u, sau := { s.sau with sumps := v } } :=
  foldl_field (fun x : State => { x with upp := u, sau := { x.sau with sumps := v } })
    (fun x k => completeSump_frame v u c k x) l s

theorem completedSumps_frame (c : Cycle) (s : State) :
    { completedSumps c s with upp := s.upp, sau := { (completedSumps c s).sau with sumps := s.sau.sumps } } =
      { s with sau := { s.sau with cycle := none } } :=
  foldl_completeSump_frame ..

theorem foldl_completeSump_sump (c : Cycle) {l : List SumpId} (hl : l.Nodup) (s : State) (j : SumpId) :
    (l.foldl (fun x k => completeSump c k x) s).sump j = if j ∈ l then s.computed c j else s.sump j := by
  induction l generalizing s with
  | nil => simp
  | cons k l ih =>
    obtain ⟨hk, hl⟩ := List.nodup_cons.mp hl
    have hframe := completeSump_frame s.sau.sumps s.upp c k s
    have hcfg : (completeSump c k s).cfg = s.cfg := (congrArg State.cfg hframe :)
    have hgsq : (completeSump c k s).gsq = s.gsq := (congrArg State.gsq hframe :)
    rw [List.foldl_cons, ih hl, completeSump_sump]
    by_cases hj : j = k
    · subst hj
      simp [hk]
    · simp only [List.mem_cons, hj, false_or, if_false]
      rw [computed_congr hcfg hgsq (by rw [completeSump_sump, if_neg hj])]

theorem completedSumps_sump (c : Cycle) (s : State) (k : SumpId) : (completedSumps c s).sump k =
    if (s.sumpCfg k).primary.isSome = true then s.computed c k else s.sump k := by
  rw [completedSumps, foldl_completeSump_sump c (configuredSumps_nodup s)]
  simp only [mem_configuredSumps]
  rfl

/-! ## The data handed on -/

/-- What a record of a sump hands on (R66). -/
def SumpState.data (x : SumpState) (k : SumpId) : SumpData :=
  { sump := k, source := x.source, levelQuality := x.levelQuality, cycleLevel := x.cycleLevel, filtered := filteredOf x.filter
    volume := x.volume, inflow := x.inflow, controlInflow := x.controlInflow, inflowLimited := x.inflowLimited
    inflowGood := x.inflowGood, rate := x.rate, blindCount := x.blindCount }

theorem sumpData_eq (s : State) (k : SumpId) : s.sumpData k = (s.sump k).data k := rfl

/-- The data of the CONFIGURED sumps at the completion of a cycle (R66). -/
def State.cycleData (s : State) (c : Cycle) : List SumpData := s.configuredSumps.map fun k => (s.computed c k).data k

theorem completedSumps_data (c : Cycle) (s : State) :
    (completedSumps c s).configuredSumps.map (completedSumps c s).sumpData = s.cycleData c := by
  have hcfg : (completedSumps c s).cfg = s.cfg := (congrArg State.cfg (completedSumps_frame c s) :)
  have hl : (completedSumps c s).configuredSumps = s.configuredSumps := by
    simp only [State.configuredSumps, State.sumpCfg, hcfg]
  rw [hl]
  refine List.map_congr_left fun k hk => ?_
  rw [sumpData_eq, completedSumps_sump, if_pos (mem_configuredSumps.mp hk)]

theorem find?_map_sump {f : SumpId → SumpData} (hf : ∀ k, (f k).sump = k) (l : List SumpId) (k : SumpId) :
    (l.map f).find? (fun x => x.sump == k) = if k ∈ l then some (f k) else none := by
  induction l with
  | nil => rfl
  | cons a l ih =>
    by_cases ha : a = k
    · subst ha
      simp [hf]
    · rw [List.map_cons, List.find?_cons_of_neg (by simp [hf, ha]), ih]
      simp [Ne.symm ha]

theorem dataFor_cycleData (s : State) (c : Cycle) (k : SumpId) : dataFor (some (s.cycleData c)) k =
    if (s.sumpCfg k).primary.isSome = true then some ((s.computed c k).data k) else none := by
  refine (find?_map_sump (fun _ => rfl) s.configuredSumps k).trans ?_
  simp only [mem_configuredSumps]

/-! ## The staging steps -/

theorem get_foldl_put {α : Type} {n : Nat} (f : Fin n → α) {l : List (Fin n)} (hl : l.Nodup) (v : Vector α n) (j : Fin n) :
    Tab.get (l.foldl (fun v k => Tab.put v k (f k)) v) j = if j ∈ l then f j else Tab.get v j := by
  induction l generalizing v with
  | nil => rfl
  | cons k l ih =>
    obtain ⟨hk, hl⟩ := List.nodup_cons.mp hl
    rw [List.foldl_cons, ih hl, Tab.get_put]
    by_cases hj : j = k
    · subst hj
      simp [hk]
    · simp [hj]

/-- The staging step of a sump moves by its rule on the data of a completion; that of one without data is 0 (R132). -/
theorem pscData_step (d : List SumpData) (s : State) (k : SumpId) : Tab.get (pscData d s).psc.step k =
    match dataFor (some d) k with
    | some x => some (stagingStep (s.pumpingCfg k) (Tab.get s.psc.step k) x.filtered)
    | none => some 0 := by
  refine (get_foldl_put _ (by decide) s.psc.step k).trans ?_
  rw [if_pos (mem_fours k)]
  rfl

end Sys2Proof.Machine
end

section
/-! PROOFS. The completion of a DRAINAGE CYCLE after the STC's part: the delivery of its events and the parts of the PSC and the GSQ (R66,
R133, R150; log entry 16). -/

set_option Elab.async false

namespace Sys2Proof.Machine

variable {s t : State} {d : List SumpData}

/-- The completion event after the STC's part (log entry 16). -/
def completionRest (d : List SumpData) (s : State) : State :=
  let s1 := pscData d (quiesce s)
  let s2 := (quiesce (if s1.stc.hold = .running then pscEvaluate s1 else s1)).modGsq fun c => { c with data := some d }
  quiesce (if s2.stc.hold = .running then gsqEvaluate s2 else s2)

theorem completionEvent_eq (d : List SumpData) (s : State) :
    completionEvent d s = completionRest d (stcCompletion (s.modStc fun c => { c with data := some d })) := rfl

theorem completionRest_atRest (d : List SumpData) (s : State) : (completionRest d s).AtRest := quiesce_atRest _

/-- The data of a completion stored by the PSC and the GSQ (R66, R132). -/
def dataStored (d : List SumpData) (s : State) : State := (pscData d s).modGsq fun c => { c with data := some d }

theorem dataStored_steady (d : List SumpData) (s : State) : (dataStored d s).steady = dataStored d s.steady := rfl

/-- The rest of a completion stores the data; all else it does is the work of devices. -/
theorem completionRest_steady (d : List SumpData) (s : State) : (completionRest d s).steady = (dataStored d s).steady := by
  have hpsc (x : State) : (quiesce (if x.stc.hold = .running then pscEvaluate x else x)).steady = x.steady := by
    rw [quiesce_steady]
    split
    · exact pscEvaluate_steady x
    · rfl
  have hgsq (x : State) : (quiesce (if x.stc.hold = .running then gsqEvaluate x else x)).steady = x.steady := by
    rw [quiesce_steady]
    split
    · exact gsqEvaluate_steady x
    · rfl
  unfold completionRest
  rw [hgsq]
  calc ((quiesce (if (pscData d (quiesce s)).stc.hold = .running then pscEvaluate (pscData d (quiesce s))
            else pscData d (quiesce s))).modGsq fun c => { c with data := some d }).steady
      = (quiesce (if (pscData d (quiesce s)).stc.hold = .running then pscEvaluate (pscData d (quiesce s))
            else pscData d (quiesce s))).steady.modGsq fun c => { c with data := some d } := rfl
    _ = (pscData d (quiesce s)).steady.modGsq fun c => { c with data := some d } := by rw [hpsc]
    _ = dataStored d (quiesce s).steady := rfl
    _ = (dataStored d s).steady := by rw [quiesce_steady, dataStored_steady]

/-- The rest of a completion moves the STAGE by a report of the barriers alone (R89). -/
theorem completionRest_delivered (d : List SumpData) (s : State) : Delivered s (completionRest d s) := by
  have hpsc (x : State) : Delivered x (quiesce (if x.stc.hold = .running then pscEvaluate x else x)) := by
    refine .after (quiesce_delivered _) ?_
    split
    · exact pscEvaluate_delivered x
    · exact .refl x
  have hgsq (x : State) : Delivered x (quiesce (if x.stc.hold = .running then gsqEvaluate x else x)) := by
    refine .after (quiesce_delivered _) ?_
    split
    · exact gsqEvaluate_delivered x
    · exact .refl x
  have hdata (x : State) : Delivered x (pscData d x) := .of_course rfl rfl
  have hstore (x : State) : Delivered x (x.modGsq fun c => { c with data := some d }) := .of_course rfl rfl
  exact .after (hgsq _) (.after (hstore _) (.after (hpsc _) (.after (hdata _) (quiesce_delivered s))))

/-- Outside RUNNING the PSC and the GSQ store the data and do nothing else. -/
theorem completionRest_of_not_running (h : s.stc.hold ≠ .running) : completionRest d s = dataStored d (quiesce s) := by
  have hq : (quiesce s).stc.hold ≠ .running :=
    fun he => h (((congrArg (fun x : State => x.stc.hold) (quiesce_steady s) :)).symm.trans he)
  have hdata : (pscData d (quiesce s)).AtRest := (quiesce_atRest s).of_same rfl rfl
  have hstored : (dataStored d (quiesce s)).AtRest := (quiesce_atRest s).of_same rfl rfl
  have hpsc : (quiesce (if (pscData d (quiesce s)).stc.hold = .running then pscEvaluate (pscData d (quiesce s))
      else pscData d (quiesce s))) = pscData d (quiesce s) := (congrArg quiesce (if_neg hq)).trans (quiesce_of_rest hdata)
  unfold completionRest
  simp only
  rw [hpsc]
  exact (congrArg quiesce (if_neg hq)).trans (quiesce_of_rest hstored)

theorem completionRest_of_rest (hs : s.AtRest) (h : s.stc.hold ≠ .running) : completionRest d s = dataStored d s := by
  rw [completionRest_of_not_running h, quiesce_of_rest hs]

theorem Quiet.completionRest_stc (h : Quiet s) : (completionRest d s).stc = s.stc := by
  rw [completionRest_of_not_running h.hold]
  exact h.quiesce_stc

/-! ## The whole completion -/

/-- The state in which the STC takes its part: the sumps computed and the data stored by the STC (R66). -/
def State.taken (s : State) (c : Cycle) : State :=
  (completedSumps c s).modStc fun x => { x with data := some (s.cycleData c) }

theorem cycleCompute_eq (c : Cycle) (s : State) :
    cycleCompute c s = completionRest (s.cycleData c) (stcCompletion (s.taken c)) :=
  (congrArg (fun l => completionEvent l (completedSumps c s)) (completedSumps_data c s)).trans (completionEvent_eq ..)

theorem taken_frame (c : Cycle) (s : State) :
    { s.taken c with upp := s.upp, sau := { (s.taken c).sau with sumps := s.sau.sumps } } =
      { s with sau := { s.sau with cycle := none }, stc := { s.stc with data := some (s.cycleData c) } } :=
  congrArg (fun x : State => x.modStc fun y => { y with data := some (s.cycleData c) }) (completedSumps_frame c s)

/-- The plant after a completion: the sumps computed and the data stored. -/
theorem cycleCompute_plant (c : Cycle) (s : State) :
    (cycleCompute c s).plant = (dataStored (s.cycleData c) (completedSumps c s)).plant := by
  have hstored (x : State) : (dataStored (s.cycleData c) x).plant = dataStored (s.cycleData c) x.plant := rfl
  rw [cycleCompute_eq, plant_of_steady (completionRest_steady ..), hstored, stcCompletion_plant]
  rfl

theorem cycleCompute_atRest (c : Cycle) (s : State) : (cycleCompute c s).AtRest := by
  rw [cycleCompute_eq]
  exact completionRest_atRest ..

end Sys2Proof.Machine
end

section
/-! PROOFS. The demanded stage and the closure test (R86), and the STC's part in a completion case by case (R87, R90, R93, R95, R97). -/

set_option Elab.async false

namespace Sys2Proof.Machine

variable {s t : State} {th : Vector Thresholds 4} {l : List SumpData}

/-! ## The demanded stage -/

/-- The better of two demands: the later one when it is the higher (R86). -/
def higherDemand (best x : Stage × Cause) : Stage × Cause := if best.1.code < x.1.code then x else best

theorem foldl_higherDemand_mem (l : List (Stage × Cause)) (x : Stage × Cause) : l.foldl higherDemand x ∈ x :: l := by
  induction l generalizing x with
  | nil => exact List.mem_singleton_self x
  | cons y l ih =>
    have hnext : higherDemand x y = y ∨ higherDemand x y = x := by
      unfold higherDemand
      split
      · exact .inl rfl
      · exact .inr rfl
    have hmem := ih (higherDemand x y)
    rw [List.foldl_cons]
    obtain h | h := hnext
    · rw [h] at hmem ⊢
      exact List.mem_cons_of_mem x hmem
    · rw [h] at hmem ⊢
      exact (List.mem_cons.mp hmem).elim (fun he => List.mem_cons.mpr (.inl he))
        fun ht => List.mem_cons_of_mem x (List.mem_cons_of_mem y ht)

/-- A demand of CLOSING stands against all demands of at most CLOSING. -/
theorem foldl_higherDemand_of_closing {l : List (Stage × Cause)} (hl : ∀ x ∈ l, x.1.code ≤ Stage.closing.code) {x : Stage × Cause}
    (hx : x.1 = .closing) : l.foldl higherDemand x = x := by
  induction l with
  | nil => rfl
  | cons y l ih =>
    have hkeep : higherDemand x y = x := if_neg (by rw [hx]; exact Nat.not_lt.mpr (hl y List.mem_cons_self))
    rw [List.foldl_cons, hkeep]
    exact ih fun z hz => hl z (List.mem_cons_of_mem y hz)

/-- The first demand of CLOSING is the highest. -/
theorem foldl_higherDemand_of_find? {l : List (Stage × Cause)} (hl : ∀ x ∈ l, x.1.code ≤ Stage.closing.code) {x y : Stage × Cause}
    (hx : x.1.code < Stage.closing.code) (hy : l.find? (fun z => z.1 == .closing) = some y) : l.foldl higherDemand x = y := by
  induction l generalizing x with
  | nil => cases hy
  | cons z l ih =>
    have hz := hl z List.mem_cons_self
    have hrest : ∀ w ∈ l, w.1.code ≤ Stage.closing.code := fun w hw => hl w (List.mem_cons_of_mem z hw)
    rw [List.foldl_cons]
    by_cases hclosing : z.1 = .closing
    · rw [List.find?_cons_of_pos (by simp [hclosing])] at hy
      obtain rfl := Option.some.inj hy
      have hnext : higherDemand x z = z := if_pos (by rw [hclosing]; exact hx)
      rw [hnext, foldl_higherDemand_of_closing hrest hclosing]
    · rw [List.find?_cons_of_neg (by simp [hclosing])] at hy
      refine ih hrest ?_ hy
      unfold higherDemand
      split
      · refine Nat.lt_of_le_of_ne hz fun he => hclosing ?_
        generalize z.1 = g at he
        cases g with
        | closing => rfl
        | clear | watch | alert | closed | reopening => cases he
      · exact hx

/-- The demands of the sumps in the order of Table 5-3 (R86). -/
def demands (th : Vector Thresholds 4) (l : List SumpData) : List (Stage × Cause) :=
  l.flatMap fun d => (stageTests (Tab.get th d.sump) d).map fun x => (x.2, { sump := d.sump.val + 1, test := x.1 })

theorem demandedOf_eq (th : Vector Thresholds 4) (l : List SumpData) :
    demandedOf th l = (demands th l).foldl higherDemand (.clear, {}) := rfl

/-- The tests of Table 5-3 demand WATCH, ALERT or CLOSING, the closure test alone CLOSING. -/
theorem stageTests_stage {t : Thresholds} {d : SumpData} {x : Nat × Stage} (hx : x ∈ stageTests t d) :
    x.2 = .watch ∨ x.2 = .alert ∨ x = (1, .closing) ∧ closureTest t d = true := by
  simp only [stageTests, List.mem_filterMap, List.mem_cons, List.not_mem_nil, or_false, Option.ite_none_right_eq_some,
    Option.some.injEq] at hx
  obtain ⟨a, ha, htest, rfl⟩ := hx
  obtain rfl | rfl | rfl | rfl | rfl | rfl := ha
  · exact .inr (.inr ⟨rfl, htest⟩)
  · exact .inr (.inl rfl)
  · exact .inr (.inl rfl)
  · exact .inr (.inl rfl)
  · exact .inl rfl
  · exact .inl rfl

theorem demands_stage {x : Stage × Cause} (hx : x ∈ demands th l) : x.1 = .watch ∨ x.1 = .alert ∨ x.1 = .closing := by
  simp only [demands, List.mem_flatMap, List.mem_map] at hx
  obtain ⟨d, -, a, ha, rfl⟩ := hx
  exact (stageTests_stage ha).imp_right (.imp_right fun h => congrArg Prod.snd h.1)

theorem demands_le {x : Stage × Cause} (hx : x ∈ demands th l) : x.1.code ≤ Stage.closing.code := by
  obtain h | h | h := demands_stage hx <;> rw [h] <;> decide

theorem find?_stageTests (t : Thresholds) (d : SumpData) : (stageTests t d).find? (fun x => x.2 == .closing) =
    if closureTest t d = true then some (1, .closing) else none := by
  by_cases h : closureTest t d = true
  · rw [if_pos h, stageTests, List.filterMap_cons_some (b := (1, .closing)) (by simp [h])]
    rfl
  · rw [if_neg h, List.find?_eq_none]
    intro x hx
    obtain hx | hx | hx := stageTests_stage hx
    · simp [hx]
    · simp [hx]
    · exact absurd hx.2 h

/-- The cause of CLOSING by the closure test of a sump (R86). -/
def closureCause (x : SumpData) : Cause := { sump := x.sump.val + 1, test := 1 }

theorem find?_demands (th : Vector Thresholds 4) (l : List SumpData) : (demands th l).find? (fun x => x.1 == .closing) =
    (l.find? fun d => closureTest (Tab.get th d.sump) d).map fun d => (.closing, closureCause d) := by
  induction l with
  | nil => rfl
  | cons d l ih =>
    have hcons : demands th (d :: l) = (stageTests (Tab.get th d.sump) d).map (fun x => (x.2, { sump := d.sump.val + 1, test := x.1 })) ++
        demands th l := rfl
    have hone : ((stageTests (Tab.get th d.sump) d).map fun x => (x.2, ({ sump := d.sump.val + 1, test := x.1 } : Cause))).find?
          (fun x => x.1 == .closing) =
        (if closureTest (Tab.get th d.sump) d = true then some (1, Stage.closing) else none).map
          fun x => (x.2, { sump := d.sump.val + 1, test := x.1 }) :=
      List.find?_map.trans (congrArg (Option.map _) (find?_stageTests _ d))
    rw [hcons, List.find?_append, hone, ih, List.find?_cons]
    by_cases h : closureTest (Tab.get th d.sump) d = true
    · rw [if_pos h, h]
      rfl
    · rw [if_neg h, Bool.eq_false_iff.mpr h]
      rfl

/-- A sump whose closure test holds demands CLOSING, the first one with its cause (R86). -/
theorem demandedOf_of_closure {x : SumpData} (h : (l.find? fun d => closureTest (Tab.get th d.sump) d) = some x) :
    demandedOf th l = (.closing, closureCause x) := by
  refine foldl_higherDemand_of_find? (fun _ => demands_le) (by decide) ?_
  rw [find?_demands, h]
  rfl

/-- With no closure test the demand is CLEAR, WATCH or ALERT (R86). -/
theorem demandedOf_of_no_closure (h : (l.find? fun d => closureTest (Tab.get th d.sump) d) = none) :
    (demandedOf th l).1 = .clear ∨ (demandedOf th l).1 = .watch ∨ (demandedOf th l).1 = .alert := by
  have hfind : (demands th l).find? (fun x => x.1 == .closing) = none := by rw [find?_demands, h]; rfl
  have hmem := foldl_higherDemand_mem (demands th l) (.clear, {})
  rw [← demandedOf_eq] at hmem
  obtain he | hmem := List.mem_cons.mp hmem
  · exact .inl (congrArg Prod.fst he)
  · refine .inr ((demands_stage hmem).imp_right fun hstage => hstage.resolve_right fun hc => ?_)
    exact List.find?_eq_none.mp hfind _ hmem (by simp [hc])

theorem demandedOf_closing : (demandedOf th l).1 = .closing ↔ (l.find? fun d => closureTest (Tab.get th d.sump) d).isSome = true := by
  cases h : l.find? fun d => closureTest (Tab.get th d.sump) d with
  | none =>
    obtain hd | hd | hd := demandedOf_of_no_closure h <;> simp [hd]
  | some x => simp [demandedOf_of_closure h]

end Sys2Proof.Machine
end

section
/-! PROOFS. The STC's part in a completion case by case, and what the deliveries after it leave of it (R87, R90, R93, R95, R97). -/

set_option Elab.async false

namespace Sys2Proof.Machine

variable {s t u : State} {g : Stage} {cause : Cause}

/-! ## The part of the record that no change of STAGE touches -/

/-- The record of the STC less what a change of STAGE sets and less its reported flags (R89, R92). -/
def Stc.lasting (c : Stc) : Stc :=
  { c.entered .clear {} 0 with allClosed := false, allOpen := false, pscReady := false, gsqReady := false }

theorem Stc.reported_lasting (c : Stc) (now : Nat) : (c.reported now).lasting = c.lasting := by
  obtain ⟨stage⟩ := c
  cases stage <;> rfl

theorem lasting_of_course (h : t.course = s.course) : t.stc.lasting = s.stc.lasting := (congrArg Stc.lasting h :)

theorem Delivered.lasting (h : Delivered s t) : t.stc.lasting = s.stc.lasting := by
  obtain hc | hc := h.course
  · exact lasting_of_course hc
  · exact (congrArg Stc.lasting hc).trans (Stc.reported_lasting ..)

/-! ## Changes of STAGE -/

/-- The change that R89 makes follow a change of STAGE at once: that of the report of the barriers, held already. -/
theorem stageTo_cases (g : Stage) (c : Cause) (s : State) : (stageTo g c s).stc = s.stc.entered g c s.now ∨
    (stageTo g c s).stc = (s.stc.entered g c s.now).reported s.now := by
  have hnow : (stageChange g c s).now = s.now := now_of_plant (stageChange_plant g c s)
  unfold stageTo
  simp only
  split
  · split
    · exact .inr (by rw [stageChange_stc, stageChange_stc, hnow]; rfl)
    · exact .inl (stageChange_stc ..)
  · split
    · exact .inr (by rw [stageChange_stc, stageChange_stc, hnow]; rfl)
    · exact .inl (stageChange_stc ..)
  · exact .inl (stageChange_stc ..)

theorem stageTo_lasting (g : Stage) (c : Cause) (s : State) : (stageTo g c s).stc.lasting = s.stc.lasting := by
  obtain h | h := stageTo_cases g c s
  · exact (congrArg Stc.lasting h).trans rfl
  · exact (congrArg Stc.lasting h).trans (Stc.reported_lasting ..)

/-- An entry into a STAGE, with the report of the barriers that may end CLOSING (R89, R92). -/
def StageEntered (now : Nat) (g : Stage) (cause : Cause) (c : Stc) : Prop :=
  c.enteredAt = now ∧ c.confirm = 0 ∧ c.descent = .stopped ∧
    (c.stage = g ∧ c.cause = cause ∨ g = .closing ∧ c.stage = .closed ∧ c.cause = { sump := 0, test := 8 })

/-- A change of STAGE enters it, whatever is delivered after it; REOPENING is entered by the RELEASE alone. -/
theorem Delivered.entered (h : Delivered (stageTo g cause s) t) (hg : g ≠ .reopening) : StageEntered s.now g cause t.stc := by
  let e : Stc := { s.stc.entered g cause s.now with allClosed := false, allOpen := false, pscReady := false, gsqReady := false }
  have hfrom : (stageTo g cause s).course = e ∨ (stageTo g cause s).course = e.reported s.now := by
    refine (stageTo_cases g cause s).imp (fun hc => ?_) fun hc => ?_
    · simp only [State.course, hc, e]
    · simp only [State.course, hc, e]
      cases g <;> rfl
  have hnow : (stageTo g cause s).now = s.now := now_of_plant (stageTo_plant g cause s)
  have ht : t.course = e ∨ t.course = e.reported s.now := by
    obtain hc | hc := h.course
    · rw [hc]
      exact hfrom
    · refine .inr ?_
      rw [hc, hnow]
      obtain hf | hf := hfrom
      · rw [hf]
      · rw [hf, Stc.reported_reported]
  have hentered : ∀ c : Stc, c = e ∨ c = e.reported s.now → StageEntered s.now g cause c := by
    rintro c (rfl | rfl)
    · exact ⟨rfl, rfl, rfl, .inl ⟨rfl, rfl⟩⟩
    · cases g with
      | reopening => exact absurd rfl hg
      | closing => exact ⟨rfl, rfl, rfl, .inr ⟨rfl, rfl, rfl⟩⟩
      | clear | watch | alert | closed => exact ⟨rfl, rfl, rfl, .inl ⟨rfl, rfl⟩⟩
  exact (hentered t.course ht :)

/-- In a STAGE that waits for no report of the barriers the record stands (R89). -/
theorem Delivered.stands (h : Delivered s t) (hc : s.stc.stage ≠ .closing) (hr : s.stc.stage ≠ .reopening) : t.course = s.course :=
  h.course.elim id fun he => he.trans (Stc.reported_of_ne (c := s.course) hc hr _)

/-! ## The evaluation of R87 -/

/-- What stands of the STAGE: itself, its cause and its time of entry. -/
def Still (old c : Stc) : Prop := c.stage = old.stage ∧ c.cause = old.cause ∧ c.enteredAt = old.enteredAt

theorem still_of_course (h : t.course = s.course) : Still s.stc t.stc :=
  ⟨(congrArg Stc.stage h :), (congrArg Stc.cause h :), (congrArg Stc.enteredAt h :)⟩

theorem ascent_of_course (h : t.course = s.course) :
    Still s.stc t.stc ∧ t.stc.confirm = s.stc.confirm ∧ t.stc.descent = s.stc.descent :=
  ⟨still_of_course h, (congrArg Stc.confirm h :), (congrArg Stc.descent h :)⟩

theorem reopen_of_course (h : t.course = s.course) :
    Still s.stc t.stc ∧ t.stc.reopenReady = s.stc.reopenReady ∧ t.stc.reopen = s.stc.reopen :=
  ⟨still_of_course h, (congrArg Stc.reopenReady h :), (congrArg Stc.reopen h :)⟩

theorem reported_of_closing {c : Stc} (h : c.stage = .closing) (now : Nat) :
    c.reported now = c.entered .closed { sump := 0, test := 8 } now := by
  unfold Stc.reported
  rw [h]

theorem reported_of_reopening {c : Stc} (h : c.stage = .reopening) (now : Nat) :
    c.reported now = c.entered .watch { sump := 0, test := 9 } now := by
  unfold Stc.reported
  rw [h]

/-- CLOSING may end in CLOSED by the report of the barriers (R89). -/
theorem Delivered.in_closing (h : Delivered s t) (hs : s.stc.stage = .closing) :
    Still s.stc t.stc ∨ t.stc.stage = .closed ∧ t.stc.cause = { sump := 0, test := 8 } := by
  refine h.course.imp still_of_course fun hc => ?_
  rw [reported_of_closing (c := s.course) hs] at hc
  exact ⟨(congrArg Stc.stage hc :), (congrArg Stc.cause hc :)⟩

/-- REOPENING may end in WATCH by the report of the barriers (R89). -/
theorem Delivered.in_reopening (h : Delivered s t) (hs : s.stc.stage = .reopening) :
    Still s.stc t.stc ∨ t.stc.stage = .watch ∧ t.stc.cause = { sump := 0, test := 9 } := by
  refine h.course.imp still_of_course fun hc => ?_
  rw [reported_of_reopening (c := s.course) hs] at hc
  exact ⟨(congrArg Stc.stage hc :), (congrArg Stc.cause hc :)⟩

theorem evaluateBelow_lasting (d : Stage) (c : Cause) (s : State) : (evaluateBelow d c s).stc.lasting = s.stc.lasting := by
  unfold evaluateBelow
  simp only
  split
  · exact stageTo_lasting ..
  · split
    · split
      · rfl
      · exact stageTo_lasting ..
    · split <;> rfl

theorem stageEvaluate_lasting (s : State) :
    (stageEvaluate s).stc.lasting = ({ s.stc with demanded := s.demandedStage.1 } : Stc).lasting := by
  unfold stageEvaluate
  simp only
  split
  · exact evaluateBelow_lasting ..
  · exact evaluateBelow_lasting ..
  · exact evaluateBelow_lasting ..
  · rfl
  · unfold reopenJudge
    refine (apply_ite Stc.lasting _ _ _).trans ?_
    split
    · split
      · rfl
      · rfl
    · rfl
  · split
    · exact stageTo_lasting ..
    · rfl

/-- Below CLOSING the evaluation is that of the demand (R87). -/
theorem stageEvaluate_of_low (h : s.stc.stage.code < Stage.closing.code) : stageEvaluate s =
    evaluateBelow s.demandedStage.1 s.demandedStage.2 (s.modStc fun c => { c with demanded := s.demandedStage.1 }) := by
  unfold stageEvaluate
  simp only
  split
  · rfl
  · rfl
  · rfl
  · next he => exact absurd h (by rw [show s.stc.stage = .closing from he]; decide)
  · next he => exact absurd h (by rw [show s.stc.stage = .closed from he]; decide)
  · next he => exact absurd h (by rw [show s.stc.stage = .reopening from he]; decide)

/-- A second cycle of a higher demand enters it (R87). -/
theorem evaluateBelow_ascends {d : Stage} (h : Delivered (evaluateBelow d cause s) t) (hd : d ≠ .closing) (hr : d ≠ .reopening)
    (hup : s.stc.stage.code < d.code) (hconfirm : s.stc.confirm ≠ 0) : StageEntered s.now d cause t.stc := by
  rw [evaluateBelow, if_neg hd, if_pos hup, if_neg hconfirm] at h
  exact h.entered hr

/-- CLOSING is entered at once (R87). -/
theorem evaluateBelow_closes {d : Stage} (h : Delivered (evaluateBelow d cause s) t) (hd : d = .closing) :
    StageEntered s.now .closing cause t.stc := by
  rw [evaluateBelow, if_pos hd] at h
  exact h.entered (by decide)

section
variable {d : Stage} (hlow : s.stc.stage.code < Stage.closing.code)
include hlow

theorem low_ne_closing : s.stc.stage ≠ .closing := fun he => absurd hlow (by rw [he]; decide)
theorem low_ne_reopening : s.stc.stage ≠ .reopening := fun he => absurd hlow (by rw [he]; decide)

/-- A first cycle of a higher demand waits for its confirmation (R87). -/
theorem evaluateBelow_confirms (h : Delivered (evaluateBelow d cause s) t) (hd : d ≠ .closing) (hup : s.stc.stage.code < d.code)
    (hconfirm : s.stc.confirm = 0) : Still s.stc t.stc ∧ t.stc.confirm = 1 ∧ t.stc.descent = .stopped := by
  have he : evaluateBelow d cause s = s.modStc fun c => { c with confirm := 1, descent := .stopped } := by
    rw [evaluateBelow, if_neg hd, if_pos hup, if_pos hconfirm]
  rw [he] at h
  exact ascent_of_course (h.stands (low_ne_closing hlow) (low_ne_reopening hlow))

/-- A demand of the STAGE itself stops what is under way (R87). -/
theorem evaluateBelow_stays (h : Delivered (evaluateBelow d cause s) t) (hd : d = s.stc.stage) :
    Still s.stc t.stc ∧ t.stc.confirm = 0 ∧ t.stc.descent = .stopped := by
  have he : evaluateBelow d cause s = s.modStc fun c => { c with confirm := 0, descent := .stopped } := by
    rw [evaluateBelow, if_neg (hd ▸ low_ne_closing hlow), if_neg (hd ▸ Nat.lt_irrefl _), if_pos hd]
  rw [he] at h
  exact ascent_of_course (h.stands (low_ne_closing hlow) (low_ne_reopening hlow))

/-- A lower demand starts the descent timer (R87, R88). -/
theorem evaluateBelow_descends (h : Delivered (evaluateBelow d cause s) t) (hhold : s.stc.hold = .running)
    (hdown : d.code < s.stc.stage.code) : Still s.stc t.stc ∧ t.stc.confirm = 0 ∧
      t.stc.descent =
        if s.stc.descent = .stopped then Timer.running (s.now + 1000 * s.cfg.descentDwell) else s.stc.descent := by
  have hne : d ≠ s.stc.stage := fun he => absurd hdown (he ▸ Nat.lt_irrefl _)
  have hnc : d ≠ .closing := fun he => absurd (Nat.lt_trans hdown hlow) (by rw [he]; decide)
  have he : evaluateBelow d cause s = s.modStc fun c =>
      { c with confirm := 0, descent := if c.descent = .stopped then s.descentTimer else c.descent } := by
    rw [evaluateBelow, if_neg hnc, if_neg (Nat.lt_asymm hdown), if_neg hne]
  have htimer : s.descentTimer = .running (s.now + 1000 * s.cfg.descentDwell) := if_pos hhold
  rw [he, htimer] at h
  exact ascent_of_course (h.stands (low_ne_closing hlow) (low_ne_reopening hlow))
end

/-! ## The evaluation in the other STAGEs -/

/-- In CLOSING the STAGE waits for the report of the barriers (R87, R89). -/
theorem stageEvaluate_in_closing (h : Delivered (stageEvaluate s) t) (hstage : s.stc.stage = .closing) :
    Still s.stc t.stc ∨ t.stc.stage = .closed ∧ t.stc.cause = { sump := 0, test := 8 } := by
  have he : stageEvaluate s = s.modStc fun c => { c with demanded := s.demandedStage.1 } := by
    simp only [stageEvaluate, State.modStc, hstage]
  rw [he] at h
  exact (h.in_closing hstage :)

/-- In REOPENING CLOSING is entered at once, and else the STAGE waits for the report of the barriers (R87, R89). -/
theorem stageEvaluate_in_reopening (h : Delivered (stageEvaluate s) t) (hstage : s.stc.stage = .reopening) :
    (s.demandedStage.1 = .closing → StageEntered s.now .closing s.demandedStage.2 t.stc) ∧
    (s.demandedStage.1 ≠ .closing → Still s.stc t.stc ∨ t.stc.stage = .watch ∧ t.stc.cause = { sump := 0, test := 9 }) := by
  have he : stageEvaluate s =
      if s.demandedStage.1 = .closing then
        stageTo .closing s.demandedStage.2 (s.modStc fun c => { c with demanded := s.demandedStage.1 })
      else s.modStc fun c => { c with demanded := s.demandedStage.1 } := by
    simp only [stageEvaluate, State.modStc, hstage]
  rw [he] at h
  refine ⟨fun hd => ?_, fun hd => ?_⟩
  · rw [if_pos hd] at h
    exact h.entered (by decide)
  · rw [if_neg hd] at h
    exact (h.in_reopening hstage :)

/-- The reopen condition on the data held (R90). -/
def State.Reopens (s : State) : Prop :=
  s.demandedStage.1 ≠ .closing ∧ ∀ x ∈ s.stc.data.getD [],
    (Tab.get s.cfg.thresholds x.sump).reopen = 0 ∨
      x.levelQuality = .good ∧ x.filtered < (Tab.get s.cfg.thresholds x.sump).reopen

/-- In CLOSED the reopen condition is judged (R90). -/
theorem stageEvaluate_of_closed (hstage : s.stc.stage = .closed) :
    (s.Reopens → stageEvaluate s = s.modStc fun c =>
      { c with
        demanded := s.demandedStage.1
        reopen := if c.reopen = .stopped ∧ c.reopenReady = false then .running (s.now + 1000 * s.cfg.reopenDwell) else c.reopen }) ∧
    (¬ s.Reopens → stageEvaluate s = s.modStc fun c =>
      { c with demanded := s.demandedStage.1, reopen := .stopped, reopenReady := false }) := by
  have hjudge : stageEvaluate s = reopenJudge s.demandedStage.1 (s.modStc fun c => { c with demanded := s.demandedStage.1 }) := by
    simp only [stageEvaluate, State.modStc, hstage]
  have hreopens : (!(s.demandedStage.1 == .closing) && (s.stc.data.getD []).all fun x =>
      (Tab.get s.cfg.thresholds x.sump).reopen == 0 ||
        (x.levelQuality == .good && decide (x.filtered < (Tab.get s.cfg.thresholds x.sump).reopen))) = true ↔ s.Reopens := by
    simp [State.Reopens]
  rw [hjudge]
  refine ⟨fun h => ?_, fun h => ?_⟩
  · refine congrArg (fun f => { s with stc := f }) ((if_pos (hreopens.mpr h)).trans ?_)
    split
    · next hstart => exact congrArg (fun x => { s.stc with demanded := s.demandedStage.1, reopen := x }) (if_pos hstart).symm
    · next hstart => exact congrArg (fun x => { s.stc with demanded := s.demandedStage.1, reopen := x }) (if_neg hstart).symm
  · exact congrArg (fun f => { s with stc := f }) (if_neg (mt hreopens.mp h))

/-- What is delivered after the judgement of the reopen condition leaves its outcome (R89, R90). -/
theorem stageEvaluate_in_closed (h : Delivered (stageEvaluate s) t) (hstage : s.stc.stage = .closed) :
    (s.Reopens → Still s.stc t.stc ∧ t.stc.reopenReady = s.stc.reopenReady ∧ t.stc.reopen =
      if s.stc.reopen = .stopped ∧ s.stc.reopenReady = false then .running (s.now + 1000 * s.cfg.reopenDwell) else s.stc.reopen) ∧
    (¬ s.Reopens → Still s.stc t.stc ∧ t.stc.reopenReady = false ∧ t.stc.reopen = .stopped) := by
  obtain ⟨hpos, hneg⟩ := stageEvaluate_of_closed hstage
  have hne (f : Stc → Stc) (hd : Delivered (s.modStc f) t) (hf : ∀ c, (f c).stage = c.stage) : t.course = (s.modStc f).course :=
    hd.stands (by simp [hf, hstage]) (by simp [hf, hstage])
  refine ⟨fun hr => ?_, fun hr => ?_⟩
  · rw [hpos hr] at h
    exact (reopen_of_course (hne _ h fun _ => rfl) :)
  · rw [hneg hr] at h
    exact (reopen_of_course (hne _ h fun _ => rfl) :)

/-! ## The derivation (R93) -/

/-- Whether the STAGE is derived at a completion (R93; log entry 38). -/
def State.Derives (s : State) : Prop :=
  (s.stc.pscReady = true ∧ s.stc.gsqReady = true) ∨ s.stc.deriveExpired = true ∨ s.demandedStage.1 = .closing

/-- The record as a derivation takes it up (R93). -/
def State.derived (s : State) : State :=
  s.modStc fun c =>
    { c with demanded := s.demandedStage.1, derivePending := false, derive := .stopped, deriveExpired := false }

theorem derive_eq (s : State) [Decidable s.Derives] : derive s =
    if s.Derives then
      if s.demandedStage.1 = .closing then stageTo .closing s.demandedStage.2 s.derived
      else if s.stc.allOpen = false then stageTo .closing { sump := 0, test := 7 } s.derived
      else if s.demandedStage.1 = .clear then s.derived
      else stageTo s.demandedStage.1 s.demandedStage.2 s.derived
    else s := by
  have hderives : ((s.stc.pscReady && s.stc.gsqReady) || s.stc.deriveExpired || s.demandedStage.1 == .closing) = true ↔ s.Derives := by
    simp [State.Derives, or_assoc]
  have hopen : (!s.derived.stc.allOpen) = true ↔ s.stc.allOpen = false := by
    rw [Bool.not_eq_true']
    rfl
  unfold derive
  simp only [hderives, ← hopen]
  rfl

/-! ## The control hold -/

/-- What HELD pauses of a barrier (R163). -/
def BarrierState.held (now : Nat) (t : BarrierState) : BarrierState :=
  { t with warnTimer := t.warnTimer.pause now, clearTimer := t.clearTimer.pause now }

theorem foldl_barrierHold_barrier {l : List BarrierId} (hl : l.Nodup) (s : State) (b : BarrierId) :
    (l.foldl (fun s b => barrierHold b s) s).barrier b = if b ∈ l then (s.barrier b).held s.now else s.barrier b := by
  induction l generalizing s with
  | nil => rfl
  | cons a l ih =>
    obtain ⟨ha, hl⟩ := List.nodup_cons.mp hl
    rw [List.foldl_cons, ih hl]
    by_cases hb : b = a
    · subst hb
      rw [if_neg ha, if_pos List.mem_cons_self]
      exact State.barrier_modBarrier_self ..
    · have hne : (barrierHold a s).barrier b = s.barrier b := State.barrier_modBarrier_ne hb ..
      simp only [List.mem_cons, hb, false_or, hne]
      rfl

theorem gsqHold_barrier (s : State) (b : BarrierId) : (gsqHold s).barrier b = (s.barrier b).held s.now :=
  (foldl_barrierHold_barrier (by decide) s b).trans (if_pos (mem_fours b))

theorem gsqHold_frame (s : State) :
    { gsqHold s with gsq := { (gsqHold s).gsq with barriers := s.gsq.barriers } } =
      s.modGate fun g => { g with dwellTimer := g.dwellTimer.pause s.now } := by
  have hfold := foldl_field (fun x : State => ({ x with gsq := { x.gsq with barriers := s.gsq.barriers } } : State))
    (g := fun x b => barrierHold b x) (fun _ _ => rfl) fourIds s
  exact congrArg (fun x : State => x.modGate fun g => { g with dwellTimer := g.dwellTimer.pause x.now }) hfold

end Sys2Proof.Machine
end

section
/-! PROOFS. The operations that wait for the completion of a DRAINAGE CYCLE are taken after it as commands are with no cycle in flight
(R66, R180). -/

set_option Elab.async false

namespace Sys2Proof.Machine

variable {s t : State}

/-- Operations are taken and no DRAINAGE CYCLE is in flight, so none is deferred (R66). -/
structure State.Undeferring (s : State) : Prop where
  taking : s.Taking
  cycle : s.sau.cycle = none

/-- The MGU and the cycle in flight stand. -/
def SameCycle (s t : State) : Prop := t.mgu = s.mgu ∧ t.sau.cycle = s.sau.cycle

theorem SameCycle.refl (s : State) : SameCycle s s := ⟨rfl, rfl⟩

theorem SameCycle.answer (h : SameCycle s t) (tag : Tag) (code status : Nat) (data : List Word) :
    SameCycle s (answer tag code status data t) :=
  ⟨(answer_mgu ..).trans h.1, (congrArg Sau.cycle (answer_sau ..)).trans h.2⟩

theorem sumpSetOp_sameCycle (ops : List Word) (s : State) : SameCycle s (sumpSetOp ops s).2 := by
  unfold sumpSetOp
  split
  · exact .refl s
  · split
    · dsimp only
      split
      · exact .refl s
      · exact .refl s
    · exact .refl s

theorem geometrySetOp_sameCycle (ops : List Word) (s : State) : SameCycle s (geometrySetOp ops s).2 := by
  unfold geometrySetOp
  split
  · exact .refl s
  · exact .refl s

theorem takeSumpSet_sameCycle (tag : Tag) (ops : List Word) (s : State) : SameCycle s (takeSumpSet tag ops s) := by
  unfold takeSumpSet
  split
  · exact (SameCycle.refl s).answer ..
  · exact (sumpSetOp_sameCycle ops s).answer ..

theorem takeGeometrySet_sameCycle (tag : Tag) (ops : List Word) (s : State) : SameCycle s (takeGeometrySet tag ops s) := by
  unfold takeGeometrySet
  split
  · exact (SameCycle.refl s).answer ..
  · exact (geometrySetOp_sameCycle ops s).answer ..

theorem sumpRead_sameCycle (ops : List Word) (s : State) : SameCycle s (sumpRead ops s).2.2 := by
  unfold sumpRead recordOp
  split
  · dsimp only
    split
    · exact .refl s
    · exact .refl s
  · exact .refl s

theorem quiesce_sameCycle (s : State) : SameCycle s (quiesce s) :=
  ⟨(congrArg State.mgu (quiesce_steady s) :), (congrArg (fun x : State => x.sau.cycle) (quiesce_steady s) :)⟩

theorem State.Undeferring.of_sameCycle (hs : s.Undeferring) (h : SameCycle s t) (ht : t.AtRest) : t.Undeferring :=
  ⟨⟨ht, (congrArg Mgu.restart h.1).trans hs.taking.2⟩, h.2.trans hs.cycle⟩

theorem takeDeferred_sameCycle (x : Deferred) (s : State) : SameCycle s (takeDeferred x s) := by
  have hafter {v : State} (h : SameCycle s v) : SameCycle s (quiesce v) :=
    ⟨(quiesce_sameCycle v).1.trans h.1, (quiesce_sameCycle v).2.trans h.2⟩
  cases x with
  | sumpSet tag ops => exact hafter (takeSumpSet_sameCycle tag ops s)
  | geometrySet tag ops => exact hafter (takeGeometrySet_sameCycle tag ops s)
  | recordSump tag ops => exact hafter ((sumpRead_sameCycle ops s).answer ..)
  | statusClear tag =>
    have hclear : SameCycle s (clearSumps s) := ⟨rfl, rfl⟩
    exact hafter (hclear.answer ..)

theorem takeDeferred_undeferring (hs : s.Undeferring) (x : Deferred) : (takeDeferred x s).Undeferring :=
  hs.of_sameCycle (takeDeferred_sameCycle x s) (quiesce_atRest _)

/-- What takes an operation that waited, as a command with no cycle in flight: the sticky flags of the sumps are what is left of a
STATUS_CLEAR (R180). -/
def Deferred.command (x : Deferred) (v : State) : Host.Outcome State Fault Refusal :=
  match x with
  | .sumpSet tag ops => exec (.sumpSet tag ops) v
  | .geometrySet tag ops => exec (.geometrySet tag ops) v
  | .recordSump tag ops => exec (.recordGetSump tag ops) v
  | .statusClear tag => .next (answer tag 54 0 [] (clearSumps v))

theorem Deferred.command_eq (hs : s.Undeferring) (x : Deferred) : x.command s = .next (takeDeferred x s) := by
  have htaken {code : Nat} (tag : Tag) (defer take : State → State) :
      takeOp tag code false (fun s => if s.sau.cycle.isSome then defer s else take s) s = take s := by
    rw [takeOp_of_taking hs.taking, hs.cycle]
    rfl
  cases x with
  | sumpSet tag ops => exact congrArg (fun v => Host.Outcome.next (quiesce v)) (htaken tag _ (takeSumpSet tag ops))
  | geometrySet tag ops => exact congrArg (fun v => Host.Outcome.next (quiesce v)) (htaken tag _ (takeGeometrySet tag ops))
  | recordSump tag ops =>
    exact congrArg (fun v => Host.Outcome.next (quiesce v)) (htaken tag _ fun s => replyData tag 32 (sumpRead ops s))
  | statusClear tag =>
    have hrest : (clearSumps s).AtRest := hs.taking.1.of_same rfl rfl
    exact congrArg Host.Outcome.next (quiesce_of_rest (answer_atRest hrest ..)).symm

/-- The operations that waited, taken in their order, are commands in that order. -/
theorem foldl_takeDeferred {take : State → Deferred → State}
    (htake : ∀ v x w, Deferred.command x v = .next w → take v x = w) (l : List Deferred) (hs : s.Undeferring) :
    l.foldl (fun v x => takeDeferred x v) s = l.foldl take s ∧ (l.foldl take s).AtRest := by
  induction l generalizing s with
  | nil => exact ⟨rfl, hs.taking.1⟩
  | cons x l ih =>
    have hone : take s x = takeDeferred x s := htake s x _ (Deferred.command_eq hs x)
    rw [List.foldl_cons, List.foldl_cons, hone]
    exact ih (takeDeferred_undeferring hs x)

theorem cycleCompletes_of_cycle {c : Cycle} (h : s.sau.cycle = some c) : cycleCompletes s =
    s.sau.deferred.foldl (fun v x => takeDeferred x v) (cycleCompute c { s with sau := { s.sau with deferred := [] } }) := by
  unfold cycleCompletes
  rw [h]
  rfl

theorem cycleCompletes_of_none (h : s.sau.cycle = none) : cycleCompletes s = s := by
  unfold cycleCompletes
  rw [h]

/-- With no operation waiting the completion is the computation (R66). -/
theorem exec_drainageCycleCompletion {c : Cycle} (h : s.sau.cycle = some c) (hd : s.sau.deferred = []) :
    exec .drainageCycleCompletion s = .next (cycleCompute c s) := by
  refine exec_of_rest ?_ (cycleCompute_atRest c s)
  have hsame : ({ s with sau := { s.sau with deferred := [] } } : State) = s := by rw [← hd]
  have hcompletes : cycleCompletes s = cycleCompute c s := by rw [cycleCompletes_of_cycle h, hd, List.foldl_nil, hsame]
  exact (congrArg (fun x => Host.Outcome.next (quiesce x)) hcompletes :)

/-! ## What stands at a completion -/

/-- What the completion keeps, and what it hands on (R66, R132). -/
structure Completed (c : Cycle) (s t : State) : Prop where
  cycle : t.sau.cycle = none
  deferred : t.sau.deferred = s.sau.deferred
  cfg : t.cfg = s.cfg
  cycleTimer : t.sau.cycleTimer = s.sau.cycleTimer
  mgu : t.mgu = s.mgu
  now : t.now = s.now
  pscData : t.psc.data = some (s.cycleData c)
  gsqData : t.gsq.data = some (s.cycleData c)
  sumps : ∀ k : SumpId, { t.sump k with inflowGood := false } =
    { (if (s.sumpCfg k).primary.isSome = true then s.computed c k else s.sump k) with inflowGood := false }
  steps : ∀ k : SumpId, Tab.get t.psc.step k =
    if (s.sumpCfg k).primary.isSome = true then
      some (stagingStep (s.pumpingCfg k) (Tab.get s.psc.step k) (filteredOf (s.computed c k).filter))
    else some 0

theorem get_map {α β : Type} {n : Nat} (f : α → β) (v : Vector α n) (i : Fin n) : Tab.get (v.map f) i = f (Tab.get v i) := by
  simp [Tab.get]

theorem sump_of_plant (h : t.plant = s.plant) (k : SumpId) :
    { t.sump k with inflowGood := false } = { s.sump k with inflowGood := false } := by
  have hsumps : t.sau.sumps.map (fun x => { x with inflowGood := false }) = s.sau.sumps.map fun x => { x with inflowGood := false } :=
    (congrArg (fun x : State => x.sau.sumps) h :)
  have hget := congrArg (fun v => Tab.get v k) hsumps
  simp only [get_map] at hget
  exact hget

theorem dataStored_sump (d : List SumpData) (s : State) (k : SumpId) : (dataStored d s).sump k = s.sump k := rfl

/-- What a state says of a completion whose sumps and data are those of another. -/
theorem Completed.of_plant {c : Cycle} {x : State} (hplant : t.plant = (dataStored (s.cycleData c) x).plant)
    (hframe : { x with upp := s.upp, sau := { x.sau with sumps := s.sau.sumps } } = { s with sau := { s.sau with cycle := none } })
    (hsump : ∀ k, x.sump k = if (s.sumpCfg k).primary.isSome = true then s.computed c k else s.sump k) : Completed c s t := by
  have hpsc : x.psc = s.psc := (congrArg State.psc hframe :)
  have hcfg : x.cfg = s.cfg := (congrArg State.cfg hframe :)
  refine
    { cycle := (congrArg (fun x : State => x.sau.cycle) hplant :).trans (congrArg (fun x : State => x.sau.cycle) hframe :)
      deferred := (congrArg (fun x : State => x.sau.deferred) hplant :).trans (congrArg (fun x : State => x.sau.deferred) hframe :)
      cfg := (congrArg State.cfg hplant :).trans hcfg
      cycleTimer :=
        (congrArg (fun x : State => x.sau.cycleTimer) hplant :).trans (congrArg (fun x : State => x.sau.cycleTimer) hframe :)
      mgu := (congrArg State.mgu hplant :).trans (congrArg State.mgu hframe :)
      now := (now_of_plant hplant).trans (congrArg (fun x : State => x.now) hframe :)
      pscData := (congrArg (fun x : State => x.psc.data) hplant :)
      gsqData := (congrArg (fun x : State => x.gsq.data) hplant :)
      sumps := fun k => ?_
      steps := fun k => ?_ }
  · rw [sump_of_plant hplant k, dataStored_sump, hsump]
  · have hstep : t.psc.step = (Machine.pscData (s.cycleData c) x).psc.step := (congrArg (fun x : State => x.psc.step) hplant :)
    rw [hstep, pscData_step, dataFor_cycleData, hpsc, State.pumpingCfg, hcfg]
    by_cases hk : (s.sumpCfg k).primary.isSome = true
    · rw [if_pos hk, if_pos hk]
      rfl
    · rw [if_neg hk, if_neg hk]

theorem cycleCompute_completed (c : Cycle) (s : State) : Completed c s (cycleCompute c s) :=
  .of_plant (cycleCompute_plant c s) (completedSumps_frame c s) (completedSumps_sump c s)

end Sys2Proof.Machine
end

section
/-! PROOFS. The completion of a DRAINAGE CYCLE: the hold, the derivation and the evaluation at it (R87, R93, R95, R97). -/

set_option Elab.async false

namespace Sys2Proof.Machine

variable {s t x : State} {d : List SumpData}

/-! ## A change to CLOSING -/

/-- All-closed held already ends CLOSING at once (R89). -/
theorem stageTo_closing_stc (cause : Cause) (s : State) : (stageTo .closing cause s).stc =
    if s.stc.allClosed = true then (s.stc.entered .closing cause s.now).reported s.now else s.stc.entered .closing cause s.now := by
  have hnow : (stageChange .closing cause s).now = s.now := now_of_plant (stageChange_plant ..)
  have hclosed : (stageChange .closing cause s).stc.allClosed = s.stc.allClosed := by
    rw [stageChange_stc]
    rfl
  unfold stageTo
  simp only [hclosed]
  split
  · rw [stageChange_stc, stageChange_stc, hnow]
    rfl
  · exact stageChange_stc ..

theorem stageTo_closing_of_open (cause : Cause) (h : s.stc.allClosed = false) :
    stageTo .closing cause s = stageChange .closing cause s := by
  have hclosed : (stageChange .closing cause s).stc.allClosed = false := by
    rw [stageChange_stc]
    exact h
  unfold stageTo
  simp only [hclosed]
  rfl

theorem stageChange_psc (g : Stage) (c : Cause) (s : State) : (stageChange g c s).psc = s.psc := by
  have hcancel (o : OverrideCause) (code : Nat) (s : State) : (cancelOverrides o code s).psc = s.psc := by
    have hfold := foldl_field State.psc (g := fun s (e : Override) => s.tellOwner e.point (ownerOf s.cfg e.point) none o)
      (fun _ _ => rfl) s.cau.overrides s
    unfold cancelOverrides
    dsimp only
    split
    · exact hfold
    · exact hfold
  unfold stageChange
  dsimp only
  split
  · exact (hcancel ..).trans rfl
  · rfl

theorem stageTo_closing_psc (cause : Cause) (s : State) : (stageTo .closing cause s).psc = s.psc := by
  have hone := stageChange_psc .closing cause s
  unfold stageTo
  dsimp only
  split
  · exact (stageChange_psc ..).trans hone
  · exact hone

/-! ## HELD -/

/-- The notice of a hold that breaks at a sump (R97). -/
def holdBroken (e : SumpData) (s : State) : State := raiseNotice 6 [word (e.sump.val + 1), word e.filtered] s

/-- HELD entered at a completion: every event is delivered already, so the rest of the completion stores the data (R95). -/
theorem completionRest_setHold (hs : s.AtRest) : completionRest d (setHold .held s) = dataStored d (setHold .held s) := by
  have hframe := gsqHold_frame
    ((s.modStc fun c => { c with hold := .held, descent := c.descent.pause s.now }).modPsc fun c => { c with hold := .held })
  have hheld : (setHold .held s).stc = { s.stc with hold := .held, descent := s.stc.descent.pause s.now } := (congrArg State.stc hframe :)
  have hrest : (setHold .held s).AtRest :=
    hs.of_same (congrArg State.signals hframe :) (congrArg State.lau hframe :)
  refine completionRest_of_rest hrest ?_
  rw [hheld]
  simp

theorem setHold_held_stc (s : State) : (setHold .held s).stc = { s.stc with hold := .held, descent := s.stc.descent.pause s.now } :=
  (congrArg State.stc (gsqHold_frame
    ((s.modStc fun c => { c with hold := .held, descent := c.descent.pause s.now }).modPsc fun c => { c with hold := .held })) :)

theorem setHold_held_psc (s : State) : (setHold .held s).psc = { s.psc with hold := .held } :=
  (congrArg State.psc (gsqHold_frame
    ((s.modStc fun c => { c with hold := .held, descent := c.descent.pause s.now }).modPsc fun c => { c with hold := .held })) :)

theorem setHold_held_gate (s : State) :
    (setHold .held s).gsq.gate = { s.gsq.gate with dwellTimer := s.gsq.gate.dwellTimer.pause s.now } :=
  (congrArg (fun x : State => x.gsq.gate) (gsqHold_frame
    ((s.modStc fun c => { c with hold := .held, descent := c.descent.pause s.now }).modPsc fun c => { c with hold := .held })) :)

theorem setHold_held_barrier (s : State) (b : BarrierId) : (setHold .held s).barrier b = (s.barrier b).held s.now :=
  gsqHold_barrier _ b

/-! ## The STC's part -/

theorem closureSump_isNone (s : State) : s.closureSump.isNone = true ↔ s.demandedStage.1 ≠ .closing := by
  rw [Ne, State.demandedStage, demandedOf_closing, ← State.closureSump, Option.isNone_iff_eq_none, Bool.not_eq_true,
    Option.isSome_eq_false_iff, Option.isNone_iff_eq_none]

theorem closureSump_eq_none (s : State) (h : s.demandedStage.1 ≠ .closing) : s.closureSump = none :=
  Option.isNone_iff_eq_none.mp ((closureSump_isNone s).mpr h)

theorem closureSump_eq_some (s : State) (h : s.demandedStage.1 = .closing) :
    ∃ e, s.closureSump = some e ∧ s.demandedStage.2 = closureCause e := by
  obtain ⟨e, he⟩ := Option.isSome_iff_exists.mp (demandedOf_closing.mp h)
  exact ⟨e, he, congrArg Prod.snd (demandedOf_of_closure he)⟩

/-- Whether a hold requested begins at a completion (R95). -/
def State.Holds (s : State) : Prop :=
  s.stc.holdRequest = true ∧ s.demandedStage.1 ≠ .closing ∧ s.stc.stage.code < Stage.closing.code

theorem stcCompletion_of_derives (hrun : s.stc.hold = .running) (hp : s.stc.derivePending = true) : stcCompletion s = derive s := by
  simp only [stcCompletion, hrun, hp, if_true]

theorem stcCompletion_of_running (hrun : s.stc.hold = .running) (hp : s.stc.derivePending = false) :
    (s.Holds → stcCompletion s = setHold .held s) ∧ (¬ s.Holds → stcCompletion s = stageEvaluate s) := by
  have hholds : (s.stc.holdRequest && s.closureSump.isNone && decide (s.stc.stage.code < Stage.closing.code)) = true ↔ s.Holds := by
    rw [Bool.and_eq_true, Bool.and_eq_true, closureSump_isNone, decide_eq_true_iff, and_assoc]
    rfl
  have hcompletion : stcCompletion s =
      if s.stc.holdRequest && s.closureSump.isNone && decide (s.stc.stage.code < Stage.closing.code) then setHold .held s
      else stageEvaluate s := by
    simp only [stcCompletion, hrun, hp]
    rfl
  rw [hcompletion]
  exact ⟨fun h => if_pos (hholds.mpr h), fun h => if_neg (mt hholds.mp h)⟩

theorem stcCompletion_of_no_closure (hrun : s.stc.hold ≠ .running) (hd : s.demandedStage.1 ≠ .closing) : stcCompletion s = s := by
  have hnone := closureSump_eq_none s hd
  cases hhold : s.stc.hold with
  | running => exact absurd hhold hrun
  | held => simp only [stcCompletion, hhold, hnone]
  | stepping => simp only [stcCompletion, hhold, hnone]

/-- A hold breaks at the first sump whose closure test holds (R97). -/
theorem stcCompletion_of_held (hheld : s.stc.hold = .held) (hd : s.demandedStage.1 = .closing) : ∃ e,
    stcCompletion s = holdBroken e (stageTo .closing s.demandedStage.2
      (rederiveAll (setHold .running (s.modStc fun c => { c with holdRequest := false })))) := by
  obtain ⟨e, he, hcause⟩ := closureSump_eq_some s hd
  refine ⟨e, ?_⟩
  simp only [stcCompletion, hheld, he, hcause]
  rfl

/-- The record of a step that breaks (R97). -/
def State.stepBroken (s : State) (r : StepRecord) : State :=
  s.modStc fun c => { c with holdRequest := false, step := some { r with broken := true } }

/-- A step breaks at the first sump whose closure test holds, once (R97; log entry 33). -/
theorem stcCompletion_of_stepping {r : StepRecord} (hstep : s.stc.hold = .stepping) (hr : s.stc.step = some r)
    (hd : s.demandedStage.1 = .closing) : ∃ e, stcCompletion s =
      if r.broken = true then s
      else holdBroken e (if s.stc.stage = .closing ∨ s.stc.stage = .closed then s.stepBroken r
        else stageTo .closing s.demandedStage.2 (s.stepBroken r)) := by
  obtain ⟨e, he, hcause⟩ := closureSump_eq_some s hd
  refine ⟨e, ?_⟩
  simp only [stcCompletion, hstep, he, hcause, breakStepping, hr]
  rfl

end Sys2Proof.Machine
end

section
/-! PROOFS. O33: the outcome of the STC's part after everything that is delivered (R87 to R97), and the completion as a whole. -/

set_option Elab.async false

namespace Sys2Proof.Machine

variable {s t x : State} {d : List SumpData}

/-! ## RUNNING -/

theorem demandedStage_ne_reopening (s : State) : s.demandedStage.1 ≠ .reopening := by
  intro he
  cases hl : (s.stc.data.getD []).find? fun d => closureTest (Tab.get s.cfg.thresholds d.sump) d with
  | some e =>
    have hd : s.demandedStage = _ := demandedOf_of_closure hl
    rw [hd] at he
    cases he
  | none =>
    obtain hd | hd | hd := demandedOf_of_no_closure hl
    · cases he.symm.trans hd
    · cases he.symm.trans hd
    · cases he.symm.trans hd

/-- The evaluation keeps the hold and stores the demand (R86, R87). -/
theorem evaluated_kept (h : Delivered (stageEvaluate x) t) :
    t.stc.hold = x.stc.hold ∧ t.stc.holdRequest = x.stc.holdRequest ∧ t.stc.data = x.stc.data ∧
      t.stc.demanded = x.demandedStage.1 := by
  have hl := h.lasting.trans (stageEvaluate_lasting x)
  exact ⟨(congrArg Stc.hold hl :), (congrArg Stc.holdRequest hl :), (congrArg Stc.data hl :), (congrArg Stc.demanded hl :)⟩

/-- The evaluation below CLOSING (R87, R88). -/
theorem evaluated_low (h : Delivered (stageEvaluate x) t) (hrun : x.stc.hold = .running)
    (hlow : x.stc.stage.code < Stage.closing.code) :
    (x.demandedStage.1 = .closing → StageEntered x.now .closing x.demandedStage.2 t.stc) ∧
    (x.demandedStage.1 ≠ .closing → x.stc.stage.code < x.demandedStage.1.code → x.stc.confirm = 0 →
      Still x.stc t.stc ∧ t.stc.confirm = 1 ∧ t.stc.descent = .stopped) ∧
    (x.demandedStage.1 ≠ .closing → x.stc.stage.code < x.demandedStage.1.code → x.stc.confirm ≠ 0 →
      StageEntered x.now x.demandedStage.1 x.demandedStage.2 t.stc) ∧
    (x.demandedStage.1 = x.stc.stage → Still x.stc t.stc ∧ t.stc.confirm = 0 ∧ t.stc.descent = .stopped) ∧
    (x.demandedStage.1.code < x.stc.stage.code → Still x.stc t.stc ∧ t.stc.confirm = 0 ∧ t.stc.descent =
      if x.stc.descent = .stopped then Timer.running (x.now + 1000 * x.cfg.descentDwell) else x.stc.descent) := by
  rw [stageEvaluate_of_low hlow] at h
  refine ⟨fun hd => (evaluateBelow_closes h hd :), fun hd hup hc => ?_, fun hd hup hc => ?_, fun hd => ?_, fun hdown => ?_⟩
  · exact (evaluateBelow_confirms (s := x.modStc fun c => { c with demanded := x.demandedStage.1 }) hlow h hd hup hc :)
  · exact (evaluateBelow_ascends h hd (demandedStage_ne_reopening x) hup hc :)
  · exact (evaluateBelow_stays (s := x.modStc fun c => { c with demanded := x.demandedStage.1 }) hlow h hd :)
  · exact (evaluateBelow_descends (s := x.modStc fun c => { c with demanded := x.demandedStage.1 }) hlow h hrun hdown :)

/-- The derivation at a completion (R93). -/
theorem derived_outcome (h : Delivered (derive x) t) (hp : x.stc.derivePending = true) (hclear : x.stc.stage = .clear) :
    (¬ x.Derives → Still x.stc t.stc ∧ t.stc.derivePending = true ∧ t.stc.derive = x.stc.derive ∧ t.stc.demanded = x.stc.demanded) ∧
    (x.Derives → t.stc.derivePending = false ∧ t.stc.derive = .stopped ∧ t.stc.deriveExpired = false ∧
      t.stc.demanded = x.demandedStage.1 ∧
      (x.demandedStage.1 = .closing → StageEntered x.now .closing x.demandedStage.2 t.stc) ∧
      (x.demandedStage.1 ≠ .closing → x.stc.allOpen = false → StageEntered x.now .closing { sump := 0, test := 7 } t.stc) ∧
      (x.demandedStage.1 = .clear → x.stc.allOpen = true → Still x.stc t.stc) ∧
      (x.demandedStage.1 ≠ .closing → x.demandedStage.1 ≠ .clear → x.stc.allOpen = true →
        StageEntered x.now x.demandedStage.1 x.demandedStage.2 t.stc)) := by
  classical
  rw [derive_eq] at h
  have hstands {u : State} (hu : Delivered u t) (hstage : u.stc.stage = .clear) : t.course = u.course :=
    hu.stands (by rw [hstage]; decide) (by rw [hstage]; decide)
  refine ⟨fun hn => ?_, fun hn => ?_⟩
  · rw [if_neg hn] at h
    have hl := h.lasting
    exact ⟨still_of_course (hstands h hclear), (congrArg Stc.derivePending hl).trans hp, (congrArg Stc.derive hl :),
      (congrArg Stc.demanded hl :)⟩
  · rw [if_pos hn] at h
    have hl : t.stc.lasting = x.derived.stc.lasting := by
      refine h.lasting.trans ?_
      split
      · exact stageTo_lasting ..
      · split
        · exact stageTo_lasting ..
        · split
          · rfl
          · exact stageTo_lasting ..
    refine ⟨(congrArg Stc.derivePending hl :), (congrArg Stc.derive hl :), (congrArg Stc.deriveExpired hl :),
      (congrArg Stc.demanded hl :), fun hd => ?_, fun hd ho => ?_, fun hd ho => ?_, fun hd hc ho => ?_⟩
    · rw [if_pos hd] at h
      exact h.entered (by decide)
    · rw [if_neg hd, if_pos ho] at h
      exact h.entered (by decide)
    · rw [if_neg (by rw [hd]; decide), if_neg (by rw [ho]; decide), if_pos hd] at h
      exact (still_of_course (hstands h hclear) :)
    · rw [if_neg hd, if_neg (by rw [ho]; decide), if_neg hc] at h
      exact h.entered (demandedStage_ne_reopening x)

/-! ## HELD and STEPPING -/

theorem pscHold_of_steady (h : t.steady = s.steady) : t.psc.hold = s.psc.hold := (congrArg (fun x : State => x.psc.hold) h :)

theorem stc_of_steady (h : t.steady = s.steady) :
    t.stc.hold = s.stc.hold ∧ t.stc.holdRequest = s.stc.holdRequest ∧ t.stc.data = s.stc.data :=
  ⟨(congrArg (fun x : State => x.stc.hold) h :), (congrArg (fun x : State => x.stc.holdRequest) h :),
    (congrArg (fun x : State => x.stc.data) h :)⟩

/-- A hold breaks (R97). -/
theorem heldBroken_outcome {e : SumpData} {cause : Cause}
    (ht : t = completionRest d (holdBroken e (stageTo .closing cause
      (rederiveAll (setHold .running (x.modStc fun c => { c with holdRequest := false })))))) :
    t.stc.hold = .running ∧ t.psc.hold = .running ∧ t.stc.holdRequest = false ∧ t.stc.data = x.stc.data ∧
      StageEntered x.now .closing cause t.stc := by
  set u := setHold .running (x.modStc fun c => { c with holdRequest := false })
  have hsteady : (rederiveAll u).steady = u.steady := rederiveAll_steady u
  have hnow : (rederiveAll u).now = x.now := (now_of_steady hsteady).trans (now_of_plant ((setHold_plant ..).trans (modStc_plant ..)))
  have hpsc : (rederiveAll u).psc.hold = u.psc.hold := pscHold_of_steady hsteady
  obtain ⟨hhold, hrequest, hdata⟩ := stc_of_steady hsteady
  generalize rederiveAll u = v at *
  have hd : Delivered (stageTo .closing cause v) t := by
    rw [ht]
    exact (completionRest_delivered d _).after (.of_course rfl rfl)
  have hl : t.stc.lasting = v.stc.lasting := hd.lasting.trans (stageTo_lasting ..)
  have htpsc : t.psc.hold = v.psc.hold := by
    have hrest : t.psc.hold = (stageTo .closing cause v).psc.hold := by
      rw [ht]
      exact (pscHold_of_steady (completionRest_steady d _)).trans rfl
    rw [hrest, stageTo_closing_psc]
  exact ⟨(congrArg Stc.hold hl :).trans hhold, htpsc.trans hpsc, (congrArg Stc.holdRequest hl :).trans hrequest,
    (congrArg Stc.data hl :).trans hdata, hnow ▸ hd.entered (by decide)⟩

theorem Quiet.of_atRest (hs : s.AtRest) (h : s.stc.hold ≠ .running) : Quiet s :=
  ⟨hs.2, h, fun c o => by simp [hs.1]⟩

theorem Quiet.holdBroken (h : Quiet s) (e : SumpData) : Quiet (holdBroken e s) := ⟨h.judged, h.hold, h.silent⟩

/-- A step that breaks below CLOSING or in REOPENING (R97). -/
theorem stepBroken_outcome {e : SumpData} {cause : Cause} {r : StepRecord} (hx : x.AtRest) (hstep : x.stc.hold = .stepping)
    (ht : t = completionRest d (holdBroken e (stageTo .closing cause (x.stepBroken r)))) :
    t.stc.lasting = (x.stepBroken r).stc.lasting ∧ t.stc.enteredAt = x.now ∧
      (x.stc.allClosed = false → t.stc.stage = .closing ∧ t.stc.cause = cause) ∧
      (x.stc.allClosed = true → t.stc.stage = .closed ∧ t.stc.cause = { sump := 0, test := 8 }) := by
  have hd : Delivered (stageTo .closing cause (x.stepBroken r)) t := by
    rw [ht]
    exact (completionRest_delivered d _).after (.of_course rfl rfl)
  have hquiet : Quiet (x.stepBroken r) :=
    .of_atRest (hx.of_same rfl rfl) (by rw [show (x.stepBroken r).stc.hold = .stepping from hstep]; decide)
  refine ⟨hd.lasting.trans (stageTo_lasting ..), (hd.entered (by decide)).1, fun hopen => ?_, fun hclosed => ?_⟩
  · have hstc : t.stc = (x.stepBroken r).stc.entered .closing cause (x.stepBroken r).now := by
      rw [ht, stageTo_closing_of_open cause (show (x.stepBroken r).stc.allClosed = false from hopen),
        ((hquiet.stageChange .closing cause).holdBroken e).completionRest_stc]
      exact stageChange_stc ..
    rw [hstc]
    exact ⟨rfl, rfl⟩
  · have hstc := stageTo_closing_stc cause (x.stepBroken r)
    rw [if_pos (show (x.stepBroken r).stc.allClosed = true from hclosed)] at hstc
    have hc := hd.stands (by rw [hstc]; simp [Stc.reported, Stc.entered]) (by rw [hstc]; simp [Stc.reported, Stc.entered])
    have hstage : t.stc.stage = (stageTo .closing cause (x.stepBroken r)).stc.stage := (congrArg Stc.stage hc :)
    have hcause : t.stc.cause = (stageTo .closing cause (x.stepBroken r)).stc.cause := (congrArg Stc.cause hc :)
    rw [hstage, hcause, hstc]
    exact ⟨rfl, rfl⟩

end Sys2Proof.Machine
end

section
/-! PROOFS. O33: the completion of a DRAINAGE CYCLE. -/

set_option Elab.async false

namespace Sys2Proof.Machine

variable {s t x : State} {d : List SumpData}

/-! ## The data of the STC -/

theorem stageTo_data (g : Stage) (c : Cause) (s : State) : (stageTo g c s).stc.data = s.stc.data :=
  (congrArg Stc.data (stageTo_lasting g c s) :)

theorem derive_data (s : State) : (derive s).stc.data = s.stc.data := by
  classical
  rw [derive_eq]
  split
  · split
    · exact stageTo_data ..
    · split
      · exact stageTo_data ..
      · split
        · rfl
        · exact stageTo_data ..
  · rfl

theorem breakHeld_data (e : SumpData) (s : State) : (breakHeld e s).stc.data = s.stc.data := by
  obtain ⟨-, -, hdata⟩ := stc_of_steady (rederiveAll_steady (setHold .running (s.modStc fun c => { c with holdRequest := false })))
  unfold breakHeld
  dsimp only
  rw [raiseNotice_stc, stageTo_data, hdata]
  rfl

theorem breakStepping_data (e : SumpData) (s : State) : (breakStepping e s).stc.data = s.stc.data := by
  unfold breakStepping
  split
  · split
    · rfl
    · dsimp only
      split
      · rfl
      · exact (stageTo_data ..).trans rfl
  · rfl

/-- The STC keeps the data that it has stored. -/
theorem stcCompletion_data (s : State) : (stcCompletion s).stc.data = s.stc.data := by
  unfold stcCompletion
  split
  · split
    · exact derive_data s
    · split
      · rw [setHold_held_stc]
      · exact (congrArg Stc.data (stageEvaluate_lasting s) :)
  · split
    · exact breakHeld_data ..
    · rfl
  · split
    · exact breakStepping_data ..
    · rfl

theorem cycleCompute_data (c : Cycle) (s : State) : (cycleCompute c s).stc.data = some (s.cycleData c) := by
  obtain ⟨-, -, hdata⟩ := stc_of_steady (completionRest_steady (s.cycleData c) (stcCompletion (s.taken c)))
  rw [cycleCompute_eq, hdata]
  exact (stcCompletion_data _).trans rfl

/-! ## The operations that waited -/

theorem exec_completion_of_deferred {c : Cycle} {take : State → Deferred → State} (hc : s.sau.cycle = some c)
    (hr : s.mgu.restart = .none) (htake : ∀ v x w, Deferred.command x v = .next w → take v x = w) :
    exec .drainageCycleCompletion s =
      .next (s.sau.deferred.foldl take (cycleCompute c { s with sau := { s.sau with deferred := [] } })) := by
  have hcompleted := cycleCompute_completed c { s with sau := { s.sau with deferred := [] } }
  have hu : (cycleCompute c { s with sau := { s.sau with deferred := [] } }).Undeferring :=
    ⟨⟨cycleCompute_atRest .., (congrArg Mgu.restart hcompleted.mgu).trans hr⟩, hcompleted.cycle⟩
  obtain ⟨hfold, hrest⟩ := foldl_takeDeferred htake s.sau.deferred hu
  refine exec_of_rest ?_ hrest
  rw [← hfold, ← cycleCompletes_of_cycle hc]
  rfl

/-! ## The staging steps -/

theorem PumpingCfg.configured_eq (c : PumpingCfg) : c.configured = c.start.takeWhile fun x => x ≠ 0 := by
  have hpred : (fun x : Nat => !(x == 0)) = fun x => decide (x ≠ 0) := by
    funext x
    cases x <;> rfl
  rw [PumpingCfg.configured, hpred]

/-! ## The STC at a completion -/

/-- How the state in which the STC takes its part stands to the state before the completion. -/
structure TakesPart (s : State) (data : List SumpData) (x : State) : Prop where
  atRest : x.AtRest
  stc : x.stc = { s.stc with data := some data }
  now : x.now = s.now
  cfg : x.cfg = s.cfg
  gate : x.gsq.gate = s.gsq.gate
  barrier : ∀ b, x.barrier b = s.barrier b
  demanded : x.demandedStage = demandedOf s.cfg.thresholds data

theorem taken_takesPart (c : Cycle) (hs : s.AtRest) : TakesPart s (s.cycleData c) (s.taken c) := by
  have hframe := taken_frame c s
  have hstc : (s.taken c).stc = { s.stc with data := some (s.cycleData c) } := (congrArg State.stc hframe :)
  have hgsq : (s.taken c).gsq = s.gsq := (congrArg State.gsq hframe :)
  have hcfg : (s.taken c).cfg = s.cfg := (congrArg State.cfg hframe :)
  exact
    { atRest := hs.of_same (congrArg State.signals hframe :) (congrArg State.lau hframe :)
      stc := hstc
      now := (congrArg (fun x : State => x.now) hframe :)
      cfg := hcfg
      gate := congrArg Gsq.gate hgsq
      barrier := fun b => State.barrier_congr hgsq b
      demanded := by rw [State.demandedStage, hcfg, hstc]; rfl }

theorem delivered_of_stcCompletion {u : State} (ht : t = completionRest d (stcCompletion x)) (hu : stcCompletion x = u) :
    Delivered u t := by
  rw [ht, hu]
  exact completionRest_delivered d u

section
variable {data : List SumpData} (hx : TakesPart s data x) (ht : t = completionRest data (stcCompletion x))
include hx ht

/-- A hold requested begins at a completion with no demand of CLOSING below CLOSING, with its timers paused (R95, R163). -/
theorem hold_begins (hrun : s.stc.hold = .running) (hp : s.stc.derivePending = false) (hreq : s.stc.holdRequest = true)
    (hd : (demandedOf s.cfg.thresholds data).1 ≠ .closing) (hlow : s.stc.stage.code < Stage.closing.code) :
    t.psc.hold = .held ∧ t.stc = { s.stc with data := some data, hold := .held, descent := s.stc.descent.pause s.now } ∧
      t.gsq.gate = { s.gsq.gate with dwellTimer := s.gsq.gate.dwellTimer.pause s.now } ∧
      ∀ b, t.barrier b = (s.barrier b).held s.now := by
  have hholds : x.Holds := by
    rw [State.Holds, hx.stc, hx.demanded]
    exact ⟨hreq, hd, hlow⟩
  have hsame := (stcCompletion_of_running (by rw [hx.stc]; exact hrun) (by rw [hx.stc]; exact hp)).1 hholds
  rw [hsame, completionRest_setHold hx.atRest] at ht
  have hpsc : t.psc.hold = (setHold .held x).psc.hold := by rw [ht]; rfl
  have hstc : t.stc = (setHold .held x).stc := by rw [ht]; rfl
  have hgate : t.gsq.gate = (setHold .held x).gsq.gate := by rw [ht]; rfl
  have hbarrier (b : BarrierId) : t.barrier b = (setHold .held x).barrier b := by rw [ht]; rfl
  refine ⟨by rw [hpsc, setHold_held_psc], ?_, ?_, fun b => ?_⟩
  · rw [hstc, setHold_held_stc, hx.stc, hx.now]
  · rw [hgate, setHold_held_gate, hx.gate, hx.now]
  · rw [hbarrier, setHold_held_barrier, hx.barrier, hx.now]

/-- In RUNNING with no derivation and no hold that begins the STAGE is evaluated (R87). -/
theorem completion_evaluates (hrun : s.stc.hold = .running) (hp : s.stc.derivePending = false)
    (hno : ¬ (s.stc.holdRequest = true ∧ (demandedOf s.cfg.thresholds data).1 ≠ .closing ∧ s.stc.stage.code < Stage.closing.code)) :
    Delivered (stageEvaluate x) t := by
  have hholds : ¬ x.Holds := by
    rw [State.Holds, hx.stc, hx.demanded]
    exact hno
  exact delivered_of_stcCompletion ht
    ((stcCompletion_of_running (by rw [hx.stc]; exact hrun) (by rw [hx.stc]; exact hp)).2 hholds)

/-- With no closure test a hold in HELD or STEPPING stands (R97). -/
theorem hold_stands (hrun : s.stc.hold ≠ .running) (hd : (demandedOf s.cfg.thresholds data).1 ≠ .closing) :
    t.stc = { s.stc with data := some data } := by
  have hhold : x.stc.hold ≠ .running := by rw [hx.stc]; exact hrun
  rw [ht, stcCompletion_of_no_closure hhold (by rw [hx.demanded]; exact hd), completionRest_of_rest hx.atRest hhold]
  exact hx.stc

/-- A step broken already stands (log entry 33). -/
theorem brokenStep_stands {r : StepRecord} (hstep : s.stc.hold = .stepping) (hr : s.stc.step = some r)
    (hd : (demandedOf s.cfg.thresholds data).1 = .closing) (hbroken : r.broken = true) : t.stc = { s.stc with data := some data } := by
  have hhold : x.stc.hold = .stepping := by rw [hx.stc]; exact hstep
  obtain ⟨e, he⟩ := stcCompletion_of_stepping hhold (show x.stc.step = some r by rw [hx.stc]; exact hr) (by rw [hx.demanded]; exact hd)
  rw [if_pos hbroken] at he
  rw [ht, he, completionRest_of_rest hx.atRest (by rw [hhold]; decide)]
  exact hx.stc

/-- A step breaks; in CLOSING and CLOSED its STAGE stands (R97; log entry 33). -/
theorem step_breaks {r : StepRecord} (hstep : s.stc.hold = .stepping) (hr : s.stc.step = some r)
    (hd : (demandedOf s.cfg.thresholds data).1 = .closing) (hbroken : r.broken = false) :
    t.stc.hold = .stepping ∧ t.stc.holdRequest = false ∧ t.stc.step = some { r with broken := true } ∧
      (s.stc.stage = .closing ∨ s.stc.stage = .closed → Still s.stc t.stc) ∧
      (s.stc.stage ≠ .closing → s.stc.stage ≠ .closed → t.stc.enteredAt = s.now ∧
        (s.stc.allClosed = false → t.stc.stage = .closing ∧ t.stc.cause = (demandedOf s.cfg.thresholds data).2) ∧
        (s.stc.allClosed = true → t.stc.stage = .closed ∧ t.stc.cause = { sump := 0, test := 8 })) := by
  have hhold : x.stc.hold = .stepping := by rw [hx.stc]; exact hstep
  have hstage : x.stc.stage = s.stc.stage := by rw [hx.stc]
  obtain ⟨e, he⟩ := stcCompletion_of_stepping hhold (show x.stc.step = some r by rw [hx.stc]; exact hr) (by rw [hx.demanded]; exact hd)
  rw [if_neg (by simp [hbroken]), hstage, hx.demanded] at he
  by_cases hdone : s.stc.stage = .closing ∨ s.stc.stage = .closed
  · rw [if_pos hdone] at he
    have hrest : (holdBroken e (x.stepBroken r)).AtRest := hx.atRest.of_same rfl rfl
    have hrun : (holdBroken e (x.stepBroken r)).stc.hold ≠ .running := by
      rw [show (holdBroken e (x.stepBroken r)).stc.hold = .stepping from hhold]
      decide
    have hstc : t.stc = { x.stc with holdRequest := false, step := some { r with broken := true } } := by
      rw [ht, he, completionRest_of_rest hrest hrun]
      rfl
    rw [hstc, hx.stc]
    exact ⟨hstep, rfl, rfl, fun _ => ⟨rfl, rfl, rfl⟩, fun hc ho => (hdone.elim hc ho).elim⟩
  · rw [if_neg hdone] at he
    rw [he] at ht
    obtain ⟨hl, hat, hopen, hclosed⟩ := stepBroken_outcome hx.atRest hhold ht
    refine ⟨(congrArg Stc.hold hl).trans hhold, (congrArg Stc.holdRequest hl :), (congrArg Stc.step hl :),
      fun h => absurd h hdone, fun _ _ => ⟨hat.trans hx.now, fun h => hopen ?_, fun h => hclosed ?_⟩⟩
    · rw [hx.stc]
      exact h
    · rw [hx.stc]
      exact h
end

/-- Settles O33: the sumps, the data and the steps by `cycleCompute_completed`, the operations that waited by
`exec_completion_of_deferred`, the STC's part case by case with what is delivered after it. -/
theorem drainageCycleCompletes : Obligations.CycleCompletes := by
  intro s hs
  refine ⟨fun h => ?_, fun h hr u hu => ?_, fun c hc hdeferred => ?_⟩
  · refine exec_of_rest ?_ hs
    exact congrArg (fun x => Host.Outcome.next (quiesce x)) (cycleCompletes_of_none h)
  · intro command take
    obtain ⟨c, hc⟩ := Option.isSome_iff_exists.mp h
    have hcommand (v : State) (y : Deferred) : command y v = y.command v := by cases y <;> rfl
    have htake : ∀ v y w, Deferred.command y v = .next w → take v y = w := by
      intro v y w hw
      simp only [take, hcommand, hw]
    have hexec : exec .drainageCycleCompletion { s with sau := { s.sau with deferred := [] } } = _ :=
      exec_drainageCycleCompletion hc rfl
    rw [hexec] at hu
    rw [← Host.Outcome.next.inj hu]
    exact exec_completion_of_deferred hc hr htake
  · intro after filtered data staged d old stored stop computed first second third last wholeDwell
    have hcompleted := cycleCompute_completed c s
    have hdata := cycleCompute_data c s
    have hx := taken_takesPart c hs
    have ht := cycleCompute_eq c s
    refine ⟨cycleCompute c s, exec_drainageCycleCompletion hc hdeferred, ht, hcompleted.cycle, hcompleted.deferred.trans hdeferred,
      hcompleted.cfg, hcompleted.cycleTimer, hdata, hcompleted.pscData, hcompleted.gsqData, hcompleted.sumps, fun k => ?_, ?_⟩
    · rw [hcompleted.steps k]
      unfold stagingStep
      rw [PumpingCfg.configured_eq]
      rfl
    · generalize cycleCompute c s = t at *
      generalize s.taken c = x at *
      intro still enters low
      have hstop (y : Timer) : stop y = y.pause s.now := by cases y <;> rfl
      refine ⟨fun hrun hp => ⟨fun hreq hd hlow => ?_, fun hno => ?_⟩, fun hrun hp hclear => ?_,
        fun hheld => ⟨fun hd => hold_stands hx ht (by rw [hheld]; decide) hd, fun hd => ?_⟩,
        fun hstep => ⟨fun hd => hold_stands hx ht (by rw [hstep]; decide) hd,
          fun r hr hd => ⟨brokenStep_stands hx ht hstep hr hd, step_breaks hx ht hstep hr hd⟩⟩⟩
      · simp only [hstop]
        exact hold_begins hx ht hrun hp hreq hd hlow
      · have hdelivered := completion_evaluates hx ht hrun hp hno
        obtain ⟨hhold, hreq, -, hdemanded⟩ := evaluated_kept hdelivered
        rw [hx.stc] at hhold hreq
        rw [hx.demanded] at hdemanded
        refine ⟨hhold.trans hrun, hreq, hdemanded, fun hlow => ?_, fun hstage => ?_, fun hstage => ?_, fun hstage => ?_⟩
        · have houtcome := evaluated_low hdelivered (by rw [hx.stc]; exact hrun) (by rw [hx.stc]; exact hlow)
          rw [hx.stc, hx.now, hx.cfg, hx.demanded] at houtcome
          exact houtcome
        · have houtcome := stageEvaluate_in_closing hdelivered (by rw [hx.stc]; exact hstage)
          rw [hx.stc] at houtcome
          exact houtcome
        · intro reopens
          obtain ⟨hreopens, hfails⟩ := stageEvaluate_in_closed hdelivered (by rw [hx.stc]; exact hstage)
          rw [State.Reopens, hx.stc, hx.now, hx.cfg, hx.demanded] at hreopens
          rw [State.Reopens, hx.stc, hx.cfg, hx.demanded] at hfails
          by_cases hr : reopens
          · rw [if_pos hr, if_neg (not_not_intro hr)]
            exact hreopens hr
          · rw [if_neg hr, if_pos hr]
            exact hfails hr
        · have houtcome := stageEvaluate_in_reopening hdelivered (by rw [hx.stc]; exact hstage)
          rw [hx.stc, hx.now, hx.demanded] at houtcome
          exact houtcome
      · have hdelivered := delivered_of_stcCompletion ht (stcCompletion_of_derives (by rw [hx.stc]; exact hrun) (by rw [hx.stc]; exact hp))
        have hderived := derived_outcome hdelivered (by rw [hx.stc]; exact hp) (by rw [hx.stc]; exact hclear)
        rw [State.Derives, hx.stc, hx.demanded, hx.now] at hderived
        exact hderived
      · obtain ⟨e, he⟩ := stcCompletion_of_held (show x.stc.hold = .held by rw [hx.stc]; exact hheld) (by rw [hx.demanded]; exact hd)
        have hbroken := heldBroken_outcome (ht.trans (congrArg (completionRest _) he))
        rw [hx.demanded, hx.now] at hbroken
        obtain ⟨hhold, hpsc, hreq, -, hentered⟩ := hbroken
        exact ⟨hhold, hpsc, hreq, hentered⟩

end Sys2Proof.Machine
end
